-- ==== Sys2Proof/Word.lean ====
section
/-! DEFINITION. The word types of the TLM-8800. -/

namespace Sys2Proof

/-- A gazetteer register, a data register, a RAM word: 24 bits (R3, R56). -/
abbrev Word := BitVec 24

/-- An accumulator, 48 bits plus 8 guard bits (R13, R56). -/
abbrev Acc := BitVec 56

/-- A pointer register (R56). -/
abbrev Ptr := BitVec 16

/-- A meridian count (R45). -/
abbrev Count := BitVec 48

end Sys2Proof
end

