-- ==== Sys2Proof/Machine/Inputs.lean ====
section
/-! DEFINITION. What the commands carry: the operands of Gwyn-24 instructions and what the outside world hands the part. -/

namespace Sys2Proof.Machine

/-- The issue of one instruction: the core (0 to 127 a lane, 128 + t the steward of tile t), the slot of its bundle
(`slot1` or slot 0), its predicate code (R86), the lane cycle since S at which its bundle issues, and the cause that held
the bundle back (R452): 0 none, 1 FETCH, 2 SMPW, 3 XCHW, 4 CRAMW, 5 TBLW, 6 GAINW, 7 OPERAND. `ce`: the fetch of its bundle was corrected, and
`tableCe`: a read of its table was (R65). -/
structure Issue where
  core : Nat
  slot1 : Bool
  pred : Nat
  cyc : Nat
  wait : Nat := 0
  ce : Bool := false
  tableCe : Bool := false
  deriving DecidableEq, Repr

/-- Product mode (R87). -/
inductive PMode where
  | uu | gu | ii
  deriving DecidableEq, Repr

/-- Rounding mode (R89). -/
inductive RMode where
  | trunc | halfUp | halfEven
  deriving DecidableEq, Repr

/-- Compare condition (R96). -/
inductive Cond where
  | eq | ne | lt | le | gt | ge | ltu | geu
  deriving DecidableEq, Repr

/-- Addressing mode (R100). -/
inductive AMode where
  | offset | postMod | preMod
  deriving DecidableEq, Repr

/-- The raw conversions of one port's sense interval (R132): current codes and voltage codes, the one at S last. The instants at which they were taken follow from their
place; `gb`: the places of those that fall inside a GB-on interval as R385 asks. -/
structure PortConv where
  i : List Int
  v : List Nat
  gb : List Nat
  deriving DecidableEq, Repr

/-- A troupe cell other than a marker or an echo (R241): its header, its 16 words, and its CRC. -/
structure Cell where
  ty : Nat
  bcast : Bool
  opn : Bool
  ackv : Bool
  dst : Nat
  src : Nat
  port : Nat
  epoch : Nat
  rights : Nat
  seq : Nat
  ack : Nat
  payload : List Word
  crc : BitVec 32
  deriving DecidableEq, Repr

/-- A marker or an echo (R244). -/
structure Marker where
  lull : Bool
  aligned : Bool
  ratev : Bool
  timev : Bool
  src : Nat
  sysEpoch : Nat
  hops : Nat
  count : Nat
  n : Nat
  rateAt : Nat
  newN : Nat
  rx : Int
  almv : Bool
  almAck : Nat
  tCount : Nat
  tSec : Nat
  tNs : Nat
  crc : BitVec 32
  deriving DecidableEq, Repr

/-- How an Ethernet frame arrives: on path 0 (MGA) or 1 (MGB), from a MAC address, with the sequence number of its
redundancy control trailer if it has one (R298); `bad`: tagged, jumbo, pause or damaged (R293); `frag`: a fragment, or with
options or extension headers (R294). -/
structure Frame where
  path : Nat
  mac : Nat
  rct : Option Nat
  bad : Bool
  frag : Bool
  deriving DecidableEq, Repr

/-- A management datagram (R295, R296): its sender's address and port, header, and payload: words, or an offset with flags
and bytes, or a probe number; and its CRC. -/
structure Dgram where
  ip : Nat
  sport : Nat
  ver : Nat
  op : Nat
  session : Nat
  seq : Nat
  ackv : Bool
  ack : Nat
  target : Nat
  port : Nat
  epoch : Nat
  words : List Word
  off : Nat
  flags : Nat
  bytes : List Nat
  num : Nat
  crc : BitVec 32
  deriving DecidableEq, Repr

/-- A PTP dataset in the order of the standard's comparison (R306): priority 1, class, accuracy, variance, priority 2,
identity, steps removed. -/
structure PtpSet where
  prio1 : Nat
  cls : Nat
  acc : Nat
  var : Nat
  prio2 : Nat
  ident : Nat
  steps : Nat
  deriving DecidableEq, Repr

/-- The arrival of an access from outside: its arrival port (R334) and the lane cycle since S at which it arrives. -/
structure Arr where
  port : Nat
  cyc : Nat
  deriving DecidableEq, Repr

/-- A target transaction of a two-wire bus (R316, R325): the bus; the command code that arrives; its PEC byte, none where it has none,
else whether the byte is right, or for a read whether the host asks for one; it ends with its STOP; the largest rise times of SCL and
SDA in ns; the lane cycle. -/
structure Txn where
  bus : Nat
  code : Nat
  pec : Option Bool
  stop : Bool
  scl : Nat
  sda : Nat
  cyc : Nat
  deriving DecidableEq, Repr

/-- What the boot ROM finds (R412 to R419): the straps; whether a boot flash answers SFDP; of the settings area in use: the format
version that it shows (0 none), whether a copy passes its CRC, and the register words that it gives; the register words that the
image's default settings give; the measured delays of the fabric stops of tiles 0 to 7 (R44); the time from R to the first tick in
ms. -/
structure BootIn where
  role : Bool
  stagger : Nat
  integ : Bool
  bootsel : Bool
  flash : Bool
  fmt : Nat
  crcOk : Bool
  words : List (Nat × Nat)
  defaults : List (Nat × Nat)
  dly : List Nat
  ms : Nat
  deriving DecidableEq, Repr

end Sys2Proof.Machine
end

