-- ==== Sys2Proof/Syntax.lean ====
section
/-! DEFINITION. The commands of the block: one constructor per row of spec/opcode_table.json. -/

namespace Sys2Proof

open Sys2Proof.Machine

/-- A command that the block takes: an event of its environment, an access, or the issue of an instruction (R33 and on). -/
inductive Instr where
  /-- SAMPLE_INSTANT (R33): The meridian tick's sample instant S: all sense channels sample, the count increments and the per-tick units run. -/
  | sampleInstant (conv : List (Nat × PortConv)) (wake : Bool)
  /-- COMPUTE_WINDOW_OPEN (R70): At S+0.4 µs the samples are ready and every running lane starts bundle 0 of its active bank. -/
  | computeWindowOpen
  /-- EXCHANGE_WINDOW (R118): At T−1.4 µs the XCH cells of lanes that retired TICKEND cross the fabric and register transfers are held. -/
  | exchangeWindow (bad : List (Nat × Nat))
  /-- MIRROR_WINDOW (R33): At T−0.6 µs the exchange window closes and mirror refresh, census and trace commit run. -/
  | mirrorWindow
  /-- GUARD (R34): In the guard the tick phase correction is applied, changing only when the next S falls. -/
  | guard
  /-- TICK_MARKER_ARRIVAL (R43): A tile receives the tick marker and places its S; a missing marker lets it run N cycles from its last S. -/
  | tickMarkerArrival (n : Nat) (came crcOk : Bool) (waited cyc : Nat)
  /-- FABRIC_DELAY_MEASURE (R44): Every 65,536 ticks each fabric stop measures its delay from tile 0 and slews toward a new value. -/
  | fabricDelayMeasure (n dly cyc : Nat)
  /-- REGISTER_TRANSFER (R22): A register access arrives at the owning tile's fabric stop and is checked and applied atomically. -/
  | registerTransfer (a : Arr) (write : Bool) (addr : Nat) (ws : List Word) (bad : List Bool)
  /-- FABRIC_HOLD_RELEASE (R20): Register transfers held during the exchange window leave their fabric stops at T−0.6 µs. -/
  | fabricHoldRelease (cyc : Nat)
  /-- REGISTER_WRITE (R333): A write to a register without a row of its own is rights-checked and applied field by field. -/
  | registerWrite (a : Arr) (addr : Nat) (w : Word)
  /-- TILE_RESET_REQUEST (R24): A write of PKG_TILE_RST requests the reset of tiles 1 to 7 at the next tick boundary. -/
  | tileResetRequest (a : Arr) (w : Word)
  /-- TILE_RESET_EFFECT (R25): At the tick boundary the tile's ports take their safe action and its lanes, steward and collector reset. -/
  | tileResetEffect (n : Nat)
  /-- TILE_REJOIN (R27): Tile 0 reloads the tile's code and coefficients and the tile rejoins the tick at a boundary. -/
  | tileRejoin (n ms dly : Nat)
  /-- TILE_ACK_LOST (R28): A tile that misses its tick acknowledgement for two ticks is treated as in reset. -/
  | tileAckLost (n cyc : Nat)
  /-- SYNC_IN_EDGE (R39): A SYNC_IN rising edge is measured against S for lock or against the sync-mode PWM period. -/
  | syncInEdge (pos gap : Nat)
  /-- LOCK_ACHIEVED (R39): After 16 ticks with phase error below 1.25 ns the lock state becomes LOCKED. -/
  | lockAchieved (cyc : Nat)
  /-- LOCK_HOLDOVER (R39): After 4 absent edges or markers the tick enters HOLDOVER and MER_SYNC_LOST is raised. -/
  | lockHoldover (cyc : Nat)
  /-- MER_CTL_WRITE (R42): A write changing MER_CTL.SRC takes effect at the next tick boundary in ACQUIRE or FREE. -/
  | merCtlWrite (a : Arr) (w : Word)
  /-- RATE_CHANGE_REQUEST (R51): A write of MER_RATE_CTL starts the budget check of a tick rate change. -/
  | rateChangeRequest (a : Arr) (w : Word)
  /-- RATE_CHECK_COMPLETE (R51): The rate check completes and accepts or refuses the change with a cause. -/
  | rateCheckComplete
  /-- RATE_CHANGE_APPLY (R52): An accepted rate change takes effect at the S that begins the scheduled tick. -/
  | rateChangeApply
  /-- LAN_PGM_DATA_WRITE (R72): A write of LAN_PGM_DATA2 stores one bundle in the inactive bank and advances LAN_PGM_ADDR. -/
  | lanPgmDataWrite (a : Arr) (l : Nat) (w : Word)
  /-- LOAD_CHECK_START (R72): A write of LAN_LOAD.CHECK starts the static check of the inactive bank. -/
  | loadCheckStart (a : Arr) (l : Nat)
  /-- LOAD_CHECK_COMPLETE (R73): The load check passes with its cost or refuses the program with a cause. -/
  | loadCheckComplete (l : Nat)
  /-- SWITCH_SCHEDULE (R77): A write of LAN_SW_CTL.SCHED requests a bank switch and starts its check. -/
  | switchSchedule (a : Arr) (stw atCount : Bool)
  /-- SWITCH_CHECK_COMPLETE (R78): The bank switch check accepts the request or refuses it with a cause. -/
  | switchCheckComplete
  /-- SWITCH_CANCEL (R80): A write of LAN_SW_CTL.CANCEL cancels a scheduled switch as a whole. -/
  | switchCancel (a : Arr)
  /-- BANK_SWITCH (R79): At the scheduled S the selected lanes and stewards change banks together. -/
  | bankSwitch
  /-- MEM_DOUBLE_ERROR (R65): A double memory error stops a lane and puts its port in safe action, or raises a steward exception. -/
  | memDoubleError (k cyc : Nat)
  /-- INTERRUPT_ENTRY (R106): A steward takes a pending enabled interrupt between bundles and enters its vector. -/
  | interruptEntry (n : Nat)
  /-- PRECISE_EXCEPTION (R106): A steward takes a precise exception in place of the faulting bundle, or halts if IE is 0. -/
  | preciseException (n cause a cyc : Nat)
  /-- STEWARD_ACCESS_COMPLETE (R101): A gazetteer access by LDG or STG completes and releases the held steward. -/
  | stewardAccessComplete (n cyc : Nat)
  /-- NOP (R95): Does nothing. -/
  | nop (i : Issue)
  /-- ADD (R95): Wrapping 24-bit add of two data registers. -/
  | add (i : Issue) (d a b : Nat)
  /-- ADDS (R95): Saturating signed add. -/
  | adds (i : Issue) (d a b : Nat)
  /-- SUB (R95): Wrapping subtract. -/
  | sub (i : Issue) (d a b : Nat)
  /-- SUBS (R95): Saturating signed subtract. -/
  | subs (i : Issue) (d a b : Nat)
  /-- ADDU (R95): Unsigned saturating add of counts. -/
  | addu (i : Issue) (d a b : Nat)
  /-- SUBU (R95): Unsigned saturating subtract of counts. -/
  | subu (i : Issue) (d a b : Nat)
  /-- NEG (R95): Wrapping negate. -/
  | neg (i : Issue) (d a : Nat)
  /-- NEGS (R95): Saturating negate. -/
  | negs (i : Issue) (d a : Nat)
  /-- ABS (R95): Wrapping absolute value. -/
  | abs (i : Issue) (d a : Nat)
  /-- ABSS (R95): Saturating absolute value. -/
  | abss (i : Issue) (d a : Nat)
  /-- MIN (R95): Signed minimum. -/
  | min (i : Issue) (d a b : Nat)
  /-- MAX (R95): Signed maximum. -/
  | max (i : Issue) (d a b : Nat)
  /-- CLIP (R95): Limits a value to plus or minus a magnitude and sets V when it limits. -/
  | clip (i : Issue) (d a b : Nat)
  /-- NORM (R95): Counts the redundant sign bits below bit 23. -/
  | norm (i : Issue) (d a : Nat)
  /-- AND (R95): Bitwise and. -/
  | and (i : Issue) (d a b : Nat)
  /-- OR (R95): Bitwise or. -/
  | or (i : Issue) (d a b : Nat)
  /-- XOR (R95): Bitwise exclusive or. -/
  | xor (i : Issue) (d a b : Nat)
  /-- NOT (R95): Bitwise complement. -/
  | not (i : Issue) (d a : Nat)
  /-- ASR (R95): Arithmetic shift right by a register count. -/
  | asr (i : Issue) (d a b : Nat)
  /-- LSR (R95): Logical shift right by a register count. -/
  | lsr (i : Issue) (d a b : Nat)
  /-- LSL (R95): Shift left by a register count. -/
  | lsl (i : Issue) (d a b : Nat)
  /-- LSLS (R95): Saturating shift left by a register count. -/
  | lsls (i : Issue) (d a b : Nat)
  /-- CMP (R96): Compares two registers and writes one predicate bit. -/
  | cmp (i : Issue) (p1 : Bool) (a b : Nat) (c : Cond)
  /-- ADDI (R97): Adds a sign-extended immediate. -/
  | addi (i : Issue) (d a : Nat) (imm : BitVec 12)
  /-- ADDIS (R97): Saturating add of an immediate. -/
  | addis (i : Issue) (d a : Nat) (imm : BitVec 12)
  /-- ANDI (R97): And with a zero-extended immediate. -/
  | andi (i : Issue) (d a : Nat) (imm : BitVec 12)
  /-- ORI (R97): Or with a zero-extended immediate. -/
  | ori (i : Issue) (d a : Nat) (imm : BitVec 12)
  /-- XORI (R97): Exclusive or with a zero-extended immediate. -/
  | xori (i : Issue) (d a : Nat) (imm : BitVec 12)
  /-- ASRI (R97): Arithmetic shift right by an immediate count. -/
  | asri (i : Issue) (d a n : Nat)
  /-- LSRI (R97): Logical shift right by an immediate count. -/
  | lsri (i : Issue) (d a n : Nat)
  /-- LSLI (R97): Shift left by an immediate count. -/
  | lsli (i : Issue) (d a n : Nat)
  /-- LSLIS (R97): Saturating shift left by an immediate count. -/
  | lslis (i : Issue) (d a n : Nat)
  /-- CMPI (R97): Compares a register with an immediate and writes one predicate bit. -/
  | cmpi (i : Issue) (p1 : Bool) (a : Nat) (c : Cond) (imm : BitVec 12)
  /-- PADDI (R97): Adds an immediate to a pointer modulo 2^16. -/
  | paddi (i : Issue) (pd ps : Nat) (imm : BitVec 12)
  /-- TRAP (R104): Records a trap code and sets the pending bit of steward interrupt source 14. -/
  | trap (i : Issue) (imm : BitVec 12)
  /-- MPY (R98): Writes an aligned product into an accumulator. -/
  | mpy (i : Issue) (ad a b : Nat) (m : PMode)
  /-- MAC (R98): Adds an aligned product to an accumulator. -/
  | mac (i : Issue) (ad a b : Nat) (m : PMode)
  /-- MSU (R98): Subtracts an aligned product from an accumulator. -/
  | msu (i : Issue) (ad a b : Nat) (m : PMode)
  /-- MPYD (R98): Writes a rounded saturated product to a data register. -/
  | mpyd (i : Issue) (d a b : Nat) (m : PMode) (k : RMode)
  /-- MACD (R98): Adds a rounded product to a data register with saturation. -/
  | macd (i : Issue) (d a b : Nat) (m : PMode) (k : RMode)
  /-- ACLR (R98): Clears an accumulator. -/
  | aclr (i : Issue) (ad : Nat)
  /-- AADD (R98): Adds two accumulators. -/
  | aadd (i : Issue) (ad aa ab : Nat)
  /-- ASUB (R98): Subtracts two accumulators. -/
  | asub (i : Issue) (ad aa ab : Nat)
  /-- ASH (R98): Shifts an accumulator left or right by a signed count. -/
  | ash (i : Issue) (ad aa b : Nat)
  /-- MVDA (R98): Places a data register in an accumulator aligned by product mode. -/
  | mvda (i : Issue) (ad a : Nat) (m : PMode)
  /-- SATW (R98): Writes an accumulator in unit scale rounded and saturated to a data register. -/
  | satw (i : Issue) (d aa : Nat) (k : RMode)
  /-- WRW (R98): Writes the low 24 bits of a rounded accumulator, wrapping. -/
  | wrw (i : Issue) (d aa : Nat) (k : RMode)
  /-- SATG (R98): Writes an accumulator as a saturated gain-format value. -/
  | satg (i : Issue) (d aa : Nat) (k : RMode)
  /-- SATC (R98): Writes an integer-scale accumulator as a saturated count. -/
  | satc (i : Issue) (d aa : Nat)
  /-- AGET (R98): Reads one part of an accumulator into a data register. -/
  | aget (i : Issue) (d aa part : Nat)
  /-- APUT (R98): Writes one part of an accumulator from a data register. -/
  | aput (i : Issue) (ad a part : Nat)
  /-- MOV (R99): Copies a data register. -/
  | mov (i : Issue) (d a : Nat)
  /-- MVP (R99): Copies the low 16 bits of a data register to a pointer. -/
  | mvp (i : Issue) (pd a : Nat)
  /-- MPD (R99): Copies a pointer zero-extended to a data register. -/
  | mpd (i : Issue) (d pa : Nat)
  /-- MVC (R99): Writes c0 or c7 from a data register. -/
  | mvc (i : Issue) (c7 : Bool) (a : Nat)
  /-- MCD (R99): Reads a control register into a data register. -/
  | mcd (i : Issue) (d c : Nat)
  /-- MOVL (R99): Loads a sign-extended 16-bit immediate. -/
  | movl (i : Issue) (d : Nat) (imm : BitVec 16)
  /-- MOVH (R99): Loads bits 23:16 of a register from an immediate, keeping the rest. -/
  | movh (i : Issue) (d : Nat) (imm : BitVec 8)
  /-- MOVP (R99): Loads a pointer from a 16-bit immediate. -/
  | movp (i : Issue) (pd : Nat) (imm : BitVec 16)
  /-- LD (R100): Loads a word of own data memory. -/
  | ld (i : Issue) (d pb : Nat) (m : AMode) (ofs : Int) (ce : Bool)
  /-- ST (R100): Stores a word to own data memory. -/
  | st (i : Issue) (d pb : Nat) (m : AMode) (ofs : Int)
  /-- LDC (R100): Loads a word of the tile's coefficient and table RAM. -/
  | ldc (i : Issue) (d pb : Nat) (m : AMode) (ofs : Int) (ce : Bool)
  /-- STC (R100): Stores a coefficient RAM word through the write buffer. -/
  | stc (i : Issue) (d pb : Nat) (m : AMode) (ofs : Int)
  /-- LDG (R101): Starts a steward read of a gazetteer register. -/
  | ldg (i : Issue) (d b : Nat) (ofs : Int)
  /-- STG (R101): Starts a steward write of a gazetteer register. -/
  | stg (i : Issue) (d b : Nat) (ofs : Int)
  /-- LDP (R100): Loads a pointer from own data memory. -/
  | ldp (i : Issue) (pd pb : Nat) (m : AMode) (ofs : Int) (ce : Bool)
  /-- STP (R100): Stores a pointer zero-extended to own data memory. -/
  | stp (i : Issue) (ps pb : Nat) (m : AMode) (ofs : Int)
  /-- BR (R102): Branches by a signed offset when its predicate holds. -/
  | br (i : Issue) (ofs : Int)
  /-- CALL (R104): Saves the return address in p7 and branches. -/
  | call (i : Issue) (ofs : Int)
  /-- LOOP (R103): Runs the following body for a counted number of iterations. -/
  | loop (i : Issue) (creg : Option Nat) (count len : Nat)
  /-- JMP (R104): Continues at an address held in a register. -/
  | jmp (i : Issue) (a : Nat)
  /-- CALLR (R104): Saves the return address and continues at a register address. -/
  | callr (i : Issue) (a : Nat)
  /-- RET (R104): Continues at the address in p7. -/
  | ret (i : Issue)
  /-- RETI (R104): Restores c0 and mode, enables interrupts and returns from an interrupt. -/
  | reti (i : Issue)
  /-- WAIT (R104): Stops issuing until an enabled interrupt is pending. -/
  | wait (i : Issue)
  /-- MVS (R104): Writes a privileged register. -/
  | mvs (i : Issue) (sd a : Nat)
  /-- MSV (R104): Reads a privileged register. -/
  | msv (i : Issue) (d sa : Nat)
  /-- MPUW (R104): Writes a memory protection region descriptor. -/
  | mpuw (i : Issue) (a b : Nat)
  /-- SMP (R112): Reads a sample, peak, valley, temperature or front-end status of a port. -/
  | smp (i : Issue) (d : Nat) (other : Option Nat) (src : Nat)
  /-- OUT (R113): Passes a value to the port's PWM or gate target, limited by the envelope, for the next update point. -/
  | out (i : Issue) (a tgt : Nat)
  /-- XCHS (R118): Writes one word of the lane's send cell. -/
  | xchs (i : Issue) (a w : Nat)
  /-- XCHR (R119): Reads one word of a received cell and writes its presence to a predicate bit. -/
  | xchr (i : Issue) (d lane : Nat) (idx p1 : Bool) (w : Nat)
  /-- SCO (R120): Reads a scheduled gain from the coefficient unit. -/
  | sco (i : Issue) (d g : Nat)
  /-- TBL (R121): Returns the linear interpolation of a 33-point table. -/
  | tbl (i : Issue) (d x pb : Nat) (signed : Bool)
  /-- ENVT (R122): Write-tightens one envelope field of the port and reports acceptance in a predicate bit. -/
  | envt (i : Issue) (a field : Nat) (p1 : Bool)
  /-- LOCK (R124): Opens a LOCK sequence and saves the registers. -/
  | lock (i : Issue)
  /-- UNLOCK (R125): Ends a LOCK sequence and commits its buffered writes together. -/
  | unlock (i : Issue)
  /-- TICKEND (R123): Ends the lane's program for the tick. -/
  | tickend (i : Issue)
  /-- SLOW_ADC_CONVERSION (R135): The tile's slow ADC completes a 12-bit conversion of the next SPn_T in its rotation. -/
  | slowAdcConversion (n uv : Nat)
  /-- STG_PERS_WRITE (R129): A write of STG_CTL.PERS changes the personality at the next S or is refused. -/
  | stgPersWrite (a : Arr) (p pers : Nat)
  /-- STG_EN_WRITE (R131): A write of STG_CTL.EN turns the port ON or OFF from the next S, or is refused for a disallowed personality. -/
  | stgEnWrite (a : Arr) (p : Nat) (en : Bool)
  /-- PWM_UPDATE_POINT (R116): At the start or middle of a PWM period the pending OUT value is applied to the generator. The command
  names the point: the index of the period that starts, whether it is a middle, and its place in the tick. -/
  | pwmUpdatePoint (p u : Nat) (mid : Bool) (pos : Nat)
  /-- OC_COMPARATOR_FIRE (R146): The fast over-current comparator drives the gates inactive within 40 ns. -/
  | ocComparatorFire (p : Nat) (i : Int) (cyc : Nat)
  /-- RC_COMPARATOR_FIRE (R147): The reverse-current comparator drives GA inactive and sets RC_LATCH. -/
  | rcComparatorFire (p : Nat) (raw : Int) (cyc : Nat)
  /-- DRIVER_FAULT_INPUT (R148): SPn_FLT_N low for 20 ns drives the gates inactive and sets DRV_FLT. -/
  | driverFaultInput (p cyc : Nat)
  /-- TACH_EDGE (R151): An accepted tach falling edge gives a period, speed and smp_t. -/
  | tachEdge (p per : Nat)
  /-- FAN_STANDSTILL (R152): After 1 s without an accepted edge the fan is at standstill and its speed reads 0. -/
  | fanStandstill (p : Nat)
  /-- FAN_STALL_CHECK (R152): Every 1 s with duty above 0 and speed 0, FAN_STALL is raised. -/
  | fanStallCheck (p cyc : Nat)
  /-- PWM_SYNC_HOLDOVER (R144): After four unaccepted SYNC_IN edges the sync-mode generator enters holdover. -/
  | pwmSyncHoldover (p cyc : Nat)
  /-- PHS_RAIL_MASK_WRITE (R155): A write of the rail member mask is applied or refused. -/
  | phsRailMaskWrite (a : Arr) (r m : Nat)
  /-- PHS_RAIL_LEAD_WRITE (R156): A write of LEAD and ALT is applied, making LEAD the active lead, or refused. -/
  | phsRailLeadWrite (a : Arr) (r lead alt : Nat)
  /-- RAIL_STATE_WRITE (R166): A write of PHS_RAIL_CTL.STATE changes the rail state and arms all-fire where it applies. -/
  | railStateWrite (a : Arr) (r st : Nat)
  /-- RAIL_DETECT_CONVERSION (R167): The rail unit examines a detection-port voltage conversion and its slope. The command says
  whether the conversion is one that R138 excludes. -/
  | railDetectConversion (r code : Nat) (excl : Bool) (cyc : Nat)
  /-- FUSE_GRID_POINT (R183): At each 1 MHz grid point the fuse unit updates its gate reference and state. -/
  | fuseGridPoint (p cyc : Nat) (conv : PortConv)
  /-- FUSE_INRUSH_TIMEOUT (R184): FUS_TINR runs out in INRUSH: a trip with cause INRUSH. -/
  | fuseInrushTimeout (p cyc : Nat)
  /-- FUSE_RETRY_PROGRESS_CHECK (R188): At TON after a retry's entry, a retry without progress fails with cause RETRY. -/
  | fuseRetryProgressCheck (p cyc : Nat)
  /-- FUSE_OFFTIME_EXPIRE (R188): The off-time in WAIT runs out and the unit makes a retry or a held attempt. -/
  | fuseOfftimeExpire (p : Nat)
  /-- FUSE_CLEAN_EXPIRE (R189): After CLEAN × 10 s in ON without a trip, RCNT returns to 0. -/
  | fuseCleanExpire (p : Nat)
  /-- FUSE_CLEAR (R190): A write of FUS_CMD.CLEAR is a toggle that leaves LATCHED and starts an attempt, or is held. -/
  | fuseClear (a : Arr) (p : Nat)
  /-- ORING_GRID_POINT (R193): At each grid point the OR-ing unit regulates the drop, enters CONDUCT or makes a slow turn-off. -/
  | oringGridPoint (p cyc : Nat) (conv : PortConv)
  /-- STAGGER_EXPIRE (R196): After s × 10 ms the auto-start phase, fuse and battery ports turn ON. -/
  | staggerExpire
  /-- STRING_INSERTION (R201): After 1 s at or above VPRES the string is present and takes its first estimate. -/
  | stringInsertion (u cyc : Nat)
  /-- STRING_REMOVAL (R201): After 64 ticks below VPRES the string is removed and its record written. -/
  | stringRemoval (u cyc : Nat)
  /-- REST_CORRECTION (R205): After TREST seconds of rest the charge count is corrected from the OCV table. -/
  | restCorrection (u cyc : Nat)
  /-- END_OF_CHARGE (R206): The taper condition held for its time sets q to full and starts a learning run. -/
  | endOfCharge (u : Nat)
  /-- END_OF_DISCHARGE (R206): The end-of-discharge condition held closes the learning run and sets q to 0. -/
  | endOfDischarge (u cyc : Nat)
  /-- STRING_RECORD_WRITE (R209): A trigger starts a string record write to the older MRAM copy. -/
  | stringRecordWrite (u : Nat)
  /-- STRING_RECORD_WRITE_DONE (R209): A string record write completes and starts one merged further write if triggered meanwhile. -/
  | stringRecordWriteDone (u : Nat) (ok : Bool) (cyc : Nat)
  /-- BAT_CTL_WRITE (R199): A write of BAT_CTL is refused if it maps two enabled units to one port. -/
  | batCtlWrite (a : Arr) (u : Nat) (w : Word)
  /-- BAT_QNOM_WRITE (R203): A write of QNOM while QFULL is 0 also writes QFULL. -/
  | batQnomWrite (a : Arr) (u : Nat) (w : Word)
  /-- PFAIL_ASSERT (R215): PFAIL_N low for 1 µs is a recognised assertion that starts the PFAIL record and flush. -/
  | pfailAssert
  /-- HOLD_ENTRY (R215): The hold-up unit enters HOLD at the first S after an assertion or low bus voltage. -/
  | holdEntry
  /-- HOLD_EXIT (R215): After TREL with PFAIL_N high and vbus at or above VREL, HOLD ends and the cap request is withdrawn. -/
  | holdExit
  /-- ENV_WRITE (R221): A write to an ENV_ register tightens each field that moves toward safety and refuses the rest. -/
  | envWrite (a : Arr) (p k : Nat) (w : Word)
  /-- ENV_OTP_PROGRAM (R229): A write of ENV_OTP_DATA programs one word of the next unsealed generation. -/
  | envOtpProgram (a : Arr) (w : Word)
  /-- ENV_SEAL (R229): A write of ENV_OTP_CMD.SEAL starts sealing the next generation. -/
  | envSeal (a : Arr)
  /-- ENV_SEAL_COMPLETE (R229): The seal completes or is refused with a cause in ERR. -/
  | envSealComplete
  /-- ENV_LOCK_FUSE (R230): ENV_OTP_CMD.LOCK with CONFIRM 0xA5 blows the envelope-lock fuse. -/
  | envLockFuse (a : Arr) (confirm : Nat)
  /-- LINK_SLOT (R238): A troupe link slot begins and the cell chosen by the slot plan and class order is sent. -/
  | linkSlot (l j : Nat)
  /-- ALARM_FOLD_BACK (R263): An alarm cell unacknowledged for 16 ticks is folded back into the fold table. -/
  | alarmFoldBack (q : Nat)
  /-- IDLE_CELL (R254): An IDLE cell is received, delivering any acknowledgement it carries. -/
  | idleCell (l : Nat) (c : Cell) (cyc : Nat)
  /-- MARKER_CELL (R244): A downstream marker is received, giving count, time fields, rate announcement and alarm acknowledgement. -/
  | markerCell (l : Nat) (m : Marker) (t2 : Int) (gap cyc : Nat)
  /-- ECHO_CELL (R257): An upstream echo is received, giving t4 for the delay and phase measurement. -/
  | echoCell (l : Nat) (m : Marker) (t4 : Int) (cyc : Nat)
  /-- ALARM_CELL (R261): An alarm cell from downstream is accepted for the next alarm cell and acknowledged. -/
  | alarmCell (l : Nat) (c : Cell) (cyc : Nat)
  /-- CMD_READ (R246): A CMD READ cell is checked and executed and answered with RESULT. -/
  | cmdRead (l : Nat) (c : Cell) (cyc : Nat)
  /-- CMD_WRITE (R246): A CMD WRITE cell is checked, its words written and a RESULT sent. -/
  | cmdWrite (l : Nat) (c : Cell) (cyc : Nat)
  /-- RESULT_CELL (R246): A RESULT cell is received by the command's source. -/
  | resultCell (l : Nat) (c : Cell) (cyc : Nat)
  /-- QUERY_CELL (R250): A QUERY is answered from the telemetry mirror in a later upstream slot. -/
  | queryCell (l : Nat) (c : Cell) (cyc : Nat)
  /-- ANSWER_CELL (R250): An ANSWER cell is received by the querier. -/
  | answerCell (l : Nat) (c : Cell) (cyc : Nat)
  /-- SURVEY_DISCOVER (R266): A DISCOVER is answered FOUND by the first waiting device or END by the last. -/
  | surveyDiscover (l : Nat) (c : Cell) (cyc : Nat)
  /-- SURVEY_FOUND (R266): The string head receives FOUND with a device's UID. -/
  | surveyFound (l : Nat) (c : Cell) (cyc : Nat)
  /-- SURVEY_END (R266): The string head receives END and stops its string's survey. -/
  | surveyEnd (l : Nat) (c : Cell) (ms cyc : Nat)
  /-- SURVEY_ASSIGN (R266): ASSIGN gives a waiting device its address and epoch and starts its measurement. -/
  | surveyAssign (l : Nat) (c : Cell) (cyc : Nat)
  /-- SURVEY_DONE (R266): DONE reports that a device has adopted and locked, and the head discovers the next position. -/
  | surveyDone (l : Nat) (c : Cell) (ms cyc : Nat)
  /-- SURVEY_ASSIGN_REQ (R267): The ringmaster assigns an address and epoch for a path from its survey map. -/
  | surveyAssignReq (l : Nat) (c : Cell) (cyc : Nat)
  /-- SURVEY_ASSIGN_ACK (R266): The ringmaster's assignment reaches the string head. -/
  | surveyAssignAck (l : Nat) (c : Cell) (cyc : Nat)
  /-- SURVEY_START (R265): The ringmaster starts a survey and increments SYS_EPOCH. -/
  | surveyStart (cyc : Nat)
  /-- TRP_RESURVEY (R265): A write of TRP_CTL.RESURVEY at the ringmaster starts a survey. -/
  | trpResurvey (a : Arr)
  /-- TRP_CTL_WRITE (R235): A write of TRP_CTL is applied or refused if it breaks the upstream and through rules. -/
  | trpCtlWrite (a : Arr) (w : Word)
  /-- SURVEY_TIMEOUT (R269): An unanswered DISCOVER or ASSIGN is sent again after 1.5 ms, then ends the string. -/
  | surveyTimeout (l ms cyc : Nat)
  /-- SURVEY_GAP_PROBE (R269): Every 1 s the head sends DISCOVER for an unanswered position. -/
  | surveyGapProbe (l cyc : Nat)
  /-- MEASURE_COMPLETE (R268): After 4 ms of measurement the device checks the upstream period and schedules adoption. -/
  | measureComplete (cyc : Nat)
  /-- COUNT_ADOPT (R268): At the chosen S the count steps to the upstream count, the phase steps and the source becomes LINK. -/
  | countAdopt (cyc : Nat)
  /-- LINK_TRAINED (R265): A troupe link completes training. -/
  | linkTrained (l : Nat)
  /-- LINK_DOWN (R272): A trained troupe link loses sync. -/
  | linkDown (l cyc : Nat)
  /-- ACK_IDLE_SEND (R254): No cell to a stream's source within 1 ms: an IDLE cell carries the ACK. -/
  | ackIdleSend (a cyc : Nat)
  /-- SHED_APPLY (R286): A SHED APPLY cell is accepted and its wave scheduled for tick A. -/
  | shedApply (l : Nat) (c : Cell) (cyc : Nat)
  /-- SHED_RELEASE (R286): A SHED RELEASE cell is accepted and its wave scheduled for tick A. -/
  | shedRelease (l : Nat) (c : Cell) (cyc : Nat)
  /-- SHED_SET (R286): A SHED SET cell is accepted and its wave scheduled for tick A. -/
  | shedSet (l : Nat) (c : Cell) (cyc : Nat)
  /-- WAVE_APPLY (R287): At the S of tick A, or on late arrival, a wave changes the wave mask. -/
  | waveApply (cyc : Nat)
  /-- SHARE_CELL (R271): A received SHARE value is written through the write buffer to coefficient RAM. -/
  | shareCell (l : Nat) (c : Cell) (cyc : Nat)
  /-- TLM_CELL (R297): A TLM cell is received and, at the ringmaster, sent on as a datagram. -/
  | tlmCell (l : Nat) (c : Cell) (cyc : Nat)
  /-- REC_CELL (R377): A REC cell is handed to the steward through interrupt source 4. -/
  | recCell (l : Nat) (c : Cell) (cyc : Nat)
  /-- BULK_CELL (R430): A BULK cell delivers image bytes to the download. -/
  | bulkCell (l : Nat) (c : Cell) (ok : Bool) (cyc : Nat)
  /-- LOG_CELL (R242): A LOG cell of steward log text is received. -/
  | logCell (l : Nat) (c : Cell) (cyc : Nat)
  /-- CAP_PIN_ASSERT (R279): CAP_N low for 20 ns puts the armed entry in force. -/
  | capPinAssert (cyc : Nat)
  /-- CAP_PIN_RELEASE (R279): CAP_N high for 1 µs withdraws the pin's request. -/
  | capPinRelease
  /-- CAP_LOCAL_WRITE (R276): A write of CAP_LOCAL requests or withdraws entries by host software. -/
  | capLocalWrite (a : Arr) (w : Word)
  /-- WAVE_SEND (R284): A write of CAP_WV_CMD.SEND at the ringmaster issues a new wave. -/
  | waveSend (a : Arr) (op ent mask : Nat)
  /-- WAVE_PERIODIC_SET (R284): Every 1 s the ringmaster issues a SET wave carrying its wave mask. -/
  | wavePeriodicSet
  /-- DGRAM_CMD_READ (R296): A management CMD READ datagram is executed or routed into the troupe. -/
  | dgramCmdRead (f : Frame) (d : Dgram) (cyc : Nat)
  /-- DGRAM_CMD_WRITE (R296): A management CMD WRITE datagram is executed or routed into the troupe. -/
  | dgramCmdWrite (f : Frame) (d : Dgram) (cyc : Nat)
  /-- DGRAM_RESULT (R296): A RESULT datagram is received. -/
  | dgramResult (f : Frame) (d : Dgram) (cyc : Nat)
  /-- DGRAM_QUERY (R296): A QUERY datagram is answered from the telemetry mirror. -/
  | dgramQuery (f : Frame) (d : Dgram) (cyc : Nat)
  /-- DGRAM_ANSWER (R296): An ANSWER datagram is received. -/
  | dgramAnswer (f : Frame) (d : Dgram) (cyc : Nat)
  /-- DGRAM_SHED (R296): A SHED datagram is handed to the ringmaster's wave origination or answered NOT_RINGMASTER. -/
  | dgramShed (f : Frame) (d : Dgram) (cyc : Nat)
  /-- DGRAM_TLM (R297): A TLM datagram is received. -/
  | dgramTlm (f : Frame) (d : Dgram) (cyc : Nat)
  /-- DGRAM_HEALTH (R305): A HEALTH datagram is received. -/
  | dgramHealth (f : Frame) (d : Dgram) (cyc : Nat)
  /-- DGRAM_BULK (R430): A BULK datagram delivers bytes to the bulk session or opens a download. -/
  | dgramBulk (f : Frame) (d : Dgram) (ok : Bool) (cyc : Nat)
  /-- DGRAM_BULK_ACK (R303): A BULK_ACK datagram acknowledges an upload offset. -/
  | dgramBulkAck (f : Frame) (d : Dgram) (cyc : Nat)
  /-- DGRAM_REC (R377): A REC datagram of records is received. -/
  | dgramRec (f : Frame) (d : Dgram) (cyc : Nat)
  /-- DGRAM_REC_ACK (R377): The peer acknowledges the record stream with the next RNUM it expects. -/
  | dgramRecAck (f : Frame) (d : Dgram) (cyc : Nat)
  /-- PROBE (R304): A PROBE datagram is received and echoed on its path. -/
  | probe (f : Frame) (d : Dgram) (cyc : Nat)
  /-- PROBE_ECHO (R304): A PROBE_ECHO answers a probe and updates the round-trip time. -/
  | probeEcho (f : Frame) (d : Dgram) (rtt cyc : Nat)
  /-- PROBE_SEND (R304): Every 100 ms a PROBE is sent on each path with its link up. -/
  | probeSend
  /-- PROBE_LOST (R304): An echo missing after TMO is a lost probe; FAIL in a row makes the path DOWN. -/
  | probeLost (p n cyc : Nat)
  /-- ARP_REQUEST (R294): An ARP request for the device's address is answered. -/
  | arpRequest (f : Frame) (ip cyc : Nat)
  /-- NEIGHBOUR_SOLICITATION (R294): An IPv6 neighbour solicitation is answered. -/
  | neighbourSolicitation (f : Frame) (ip cyc : Nat)
  /-- ICMP_ECHO_REQUEST (R294): An ICMPv4 or ICMPv6 echo request is answered. -/
  | icmpEchoRequest (f : Frame) (ip dst id cyc : Nat)
  /-- PRP_SUPERVISION_FRAME (R298): A received PRP supervision frame is counted and ignored. -/
  | prpSupervisionFrame (f : Frame)
  /-- PRP_SUPERVISION_SEND (R298): Every 2 s a PRP supervision frame is sent on both paths. -/
  | prpSupervisionSend
  /-- DUP_ENTRY_EXPIRE (R299): A duplicate table entry is forgotten after 400 ms, counting a missing copy if only one came. -/
  | dupEntryExpire (mac seq cyc : Nat)
  /-- COMPARE_WINDOW_END (R300): A comparison window ends and the missing-copy counts are judged. -/
  | compareWindowEnd (cyc : Nat)
  /-- SGMII_LINK_CHANGE (R301): An SGMII sync or link change moves the path to DOWN or PROVING. -/
  | sgmiiLinkChange (p : Nat) (sync link speedOk : Bool) (cyc : Nat)
  /-- BOTH_DOWN_REPEAT (R301): Every 1 s with both paths DOWN, MGT_BOTH_DOWN is raised. -/
  | bothDownRepeat (cyc : Nat)
  /-- SESSION_SAVE (R303): Every 1 s each open session's state is saved to MRAM. -/
  | sessionSave (ok : Bool)
  /-- HEALTH_SEND (R305): Every 1 s the health report is sent as a HEALTH datagram. -/
  | healthSend
  /-- TLM_SEND (R297): Every PER ms a device with MGT_TLM.EN sends a TLM. -/
  | tlmSend (cyc : Nat)
  /-- PTP_SYNC (R307): A PTP Sync exchange completes and forms the count-to-ship-time mapping. -/
  | ptpSync (p domain : Nat) (v6 : Bool) (ident c sec ns : Nat) (rate ofs : Int)
  /-- PTP_FOLLOW_UP (R306): A two-step master's Follow_Up message is received. -/
  | ptpFollowUp (p domain : Nat) (v6 : Bool) (ident c sec ns : Nat) (rate ofs : Int)
  /-- PTP_ANNOUNCE (R306): An Announce message is compared for the best master. -/
  | ptpAnnounce (p domain : Nat) (v6 : Bool) (d : PtpSet)
  /-- PTP_DELAY_RESP (R306): A Delay_Resp completes the delay request-response exchange. -/
  | ptpDelayResp (p domain : Nat) (v6 : Bool) (ident c sec ns : Nat) (rate ofs : Int)
  /-- PTP_LOST (R307): No Sync for 8 s raises MGT_PTP_LOST and LOCK reads 0. -/
  | ptpLost (cyc : Nat)
  /-- PAGE_WRITE (R318): PMBus PAGE write selects a port or all ports. -/
  | pageWrite (t : Txn) (v : Nat)
  /-- PAGE_READ (R318): PMBus PAGE read returns the page in force. -/
  | pageRead (t : Txn)
  /-- OPERATION_WRITE (R318): PMBus OPERATION write sets STG_CTL.EN of the page's ports. -/
  | operationWrite (t : Txn) (v : Nat)
  /-- OPERATION_READ (R318): PMBus OPERATION read returns whether the port is enabled. -/
  | operationRead (t : Txn)
  /-- CLEAR_FAULTS (R318): Clears the status latches, STATUS_CML and the alert event. -/
  | clearFaults (t : Txn)
  /-- CAPABILITY (R318): Returns the PMBus capability byte 0xD0. -/
  | capability (t : Txn)
  /-- VOUT_MODE (R318): Returns the Linear16 exponent. -/
  | voutMode (t : Txn)
  /-- STATUS_BYTE (R320): Returns the low byte of STATUS_WORD. -/
  | statusByte (t : Txn)
  /-- STATUS_WORD (R320): Returns the port's status word. -/
  | statusWord (t : Txn)
  /-- STATUS_VOUT (R320): Returns the port's latched output voltage status. -/
  | statusVout (t : Txn)
  /-- STATUS_IOUT (R320): Returns the port's latched output current status. -/
  | statusIout (t : Txn)
  /-- STATUS_INPUT (R320): Returns the latched input status. -/
  | statusInput (t : Txn)
  /-- STATUS_CML (R320): Returns the bus's communication status. -/
  | statusCml (t : Txn)
  /-- STATUS_MFR_SPECIFIC (R320): Returns the port's manufacturer status bits. -/
  | statusMfrSpecific (t : Txn)
  /-- READ_VIN (R319): Returns the bus voltage in Linear11. -/
  | readVin (t : Txn)
  /-- READ_VOUT (R319): Returns the port voltage in Linear16. -/
  | readVout (t : Txn)
  /-- READ_IOUT (R319): Returns the port current in Linear11. -/
  | readIout (t : Txn)
  /-- READ_TEMPERATURE_1 (R319): Returns the port temperature in Linear11. -/
  | readTemperature1 (t : Txn)
  /-- READ_FAN_SPEED_1 (R319): Returns the fan speed in Linear11. -/
  | readFanSpeed1 (t : Txn)
  /-- READ_POUT (R319): Returns the port power in Linear11. -/
  | readPout (t : Txn)
  /-- PMBUS_REVISION (R318): Returns 0x44. -/
  | pmbusRevision (t : Txn)
  /-- MFR_ID (R318): Returns "TAMHAUB". -/
  | mfrId (t : Txn)
  /-- MFR_MODEL (R318): Returns "TLM-8800". -/
  | mfrModel (t : Txn)
  /-- MFR_GZ_PTR (R321): Stores a gazetteer pointer and starts a prefetch for a read. -/
  | mfrGzPtr (t : Txn) (count addr top dir n : Nat)
  /-- MFR_GZ_DATA_READ (R322): Returns the prefetched gazetteer words or BUSY. -/
  | mfrGzDataRead (t : Txn)
  /-- MFR_GZ_DATA_WRITE (R322): Writes gazetteer words at STOP in ascending order. -/
  | mfrGzDataWrite (t : Txn) (count : Nat) (ws : List Word)
  /-- GZ_PREFETCH_DONE (R321): The prefetch of a read pointer completes into the bus buffer. -/
  | gzPrefetchDone (b cyc : Nat)
  /-- ALERT_RESPONSE_READ (R323): A read of the Alert Response Address is answered with the bus address and clears the alert on winning. -/
  | alertResponseRead (b : Nat) (won : Bool)
  /-- TWB_WRITE_APPLY (R317): A queued target write is rights-checked again and applied through the fabric. -/
  | twbWriteApply (b cyc : Nat)
  /-- TWB_TIMEOUT (R326): SCL low for 25 ms resets the target interface and raises TWB_TIMEOUT. -/
  | twbTimeout (b cyc : Nat)
  /-- WHISTLE (R324): A target bus whose alert event becomes set drives a START on the idle bus. -/
  | whistle (b : Nat)
  /-- WHISTLE_RELEASE (R324): After 5 µs the device releases SDA, making a STOP. -/
  | whistleRelease (b : Nat)
  /-- WHISTLE_ABORT (R324): SCL falling during a whistle makes the device release SDA and count the abort. -/
  | whistleAbort (b : Nat)
  /-- WHISTLE_REPEAT (R324): Every REP × 100 ms with the alert event set the bus whistles again. -/
  | whistleRepeat (b : Nat)
  /-- WHISTLE_SEEN (R324): A controller bus recognises a whistle and interrupts its steward. -/
  | whistleSeen (b : Nat)
  /-- TWB_XFER_GO (R327): A write of TWB_XFER.GO starts a controller transfer. -/
  | twbXferGo (a : Arr) (b : Nat) (w : Word)
  /-- TWB_XFER_DONE (R327): A controller transfer ends, BUSY clears, TWB_RES gives the result and the steward is interrupted. -/
  | twbXferDone (b err nb : Nat) (bytes : List Nat) (scl sda cyc : Nat)
  /-- TWB_ARB_RETRY (R328): After arbitration loss and STOP plus BUF the bus restarts the transfer. -/
  | twbArbRetry (b : Nat)
  /-- TWB_CTL_WRITE (R312): A write of TWB_CTL loads mode defaults or aborts a transfer when EN goes 0. -/
  | twbCtlWrite (a : Arr) (b : Nat) (w : Word)
  /-- RGT_MAP_PROGRAM (R336): A write of an RGT_MAP or CRC word programs OTP, or fails after sealing. -/
  | rgtMapProgram (a : Arr) (k : Nat) (w : Word)
  /-- RGT_SEAL (R336): A write of RGT_CMD.SEAL with CONFIRM 0x5A starts sealing the rights map. -/
  | rgtSeal (a : Arr) (confirm : Nat)
  /-- RGT_SEAL_COMPLETE (R336): The rights map seal completes or is refused for its CRC. -/
  | rgtSealComplete
  /-- RGT_PORT_TIGHTEN (R338): A write of RGT_PORT clears rights bits of an arrival port. -/
  | rgtPortTighten (a : Arr) (p : Nat) (w : Word)
  /-- FLT_CLASS_WRITE (R350): A write changing a source's N, W or TIER takes effect at the next S and closes its window. -/
  | fltClassWrite (a : Arr) (x n : Nat) (ms : Bool) (w tier : Nat)
  /-- FAULT_FORCE (R353): A write of FLT_SRC.FORCE raises one forced event of the source. -/
  | faultForce (a : Arr) (x : Nat)
  /-- ALIVE_CHANGE_INSTANT (R354): At each watchdog-domain change instant ALIVE toggles if an S has come and it is not stopped. -/
  | aliveChangeInstant (e : Nat)
  /-- WDG_KEY_WRITE (R357): A write of WDG_KEY serves the watchdog or causes an expiry. -/
  | wdgKeyWrite (a : Arr) (w : Word) (e : Nat)
  /-- WDG_CONFIG_WRITE (R358): A write of WDG_CTL, WDG_PERIOD or WDG_PULSE is accepted in the open window or refused. -/
  | wdgConfigWrite (a : Arr) (k : Nat) (w : Word) (e : Nat)
  /-- WDG_EXPIRY (R358): The watchdog expires: WDO_N low, ALIVE stops and the ACT action is taken. -/
  | wdgExpiry (e cyc : Nat)
  /-- WDO_PULSE_END (R358): WDO_N is released after WDG_PULSE ms, followed by a watchdog reset with ACT 0b10. -/
  | wdoPulseEnd
  /-- OSC_LOST (R359): No watchdog oscillator edge for 4 µs: expiry with cause OSC_LOST. -/
  | oscLost (cyc : Nat)
  /-- CLK_LOST (R359): No main clock for 4 oscillator cycles: expiry with CLK_LOST and every port safe. -/
  | clkLost (e : Nat)
  /-- RECORDER_FLUSH (R370): A trigger starts a flush of buffered records, suppressed counts, histograms and head pointer, or queues one. -/
  | recorderFlush
  /-- FLUSH_COMPLETE (R370): A flush completes and any merged further flush starts. -/
  | flushComplete (failed : List Nat) (ok : Bool) (cyc : Nat)
  /-- FLUSH_PERIODIC (R370): 60 s since the last flush started triggers a flush. -/
  | flushPeriodic
  /-- REC_FLUSH_CMD (R370): A write of REC_CMD.FLUSH triggers a flush. -/
  | recFlushCmd (a : Arr)
  /-- TOKEN_REFILL (R366): Every PER ms each code's bucket gains a token up to BURST. -/
  | tokenRefill
  /-- REC_CLEAR (R376): A write of REC_CMD.CLEAR writes a CLEAR record, sets CLEAR_BASE, zeroes histograms and flushes. -/
  | recClear (a : Arr)
  /-- REC_FETCH (R375): A write of REC_RD_IDX_HI starts a record, histogram or extremes fetch. -/
  | recFetch (a : Arr) (w : Word)
  /-- REC_FETCH_DONE (R375): A fetch completes with OK, ABSENT or BAD. -/
  | recFetchDone
  /-- REC_HQ_WRITE (R369): A write of REC_HQ zeroes the quantity's bins or is refused for an unmirrored address. -/
  | recHqWrite (a : Arr) (q : Nat) (w : Word)
  /-- REC_STREAM_SEND (R377): An admitted record is streamed when a queue place is free. -/
  | recStreamSend (cyc : Nat)
  /-- RO_MONITOR_REPORT (R381): Every 1 ms each ring-oscillator monitor reports its margin. -/
  | roMonitorReport (n m0 m1 m2 m3 : Nat) (tj : Int) (cyc : Nat)
  /-- AVS_STEP (R382): Every 10 ms the VCORE request is adjusted and a change written to the regulator. -/
  | avsStep (cyc : Nat)
  /-- CAP_PROBE_BURST_START (R386): Every EVERY minutes, or 1 s after an abandoned burst, a ripple perturbation burst starts. -/
  | capProbeBurstStart (r : Nat)
  /-- CAP_PROBE_COMPLETE (R387): A completed burst gives capacitance and ESR samples. -/
  | capProbeComplete (r : Nat) (rev : List (Int × Int))
  /-- ATLAS_REVISION (R392): Daily or on AGE_CMD.REVISE the atlas computes ratios, derates and forecasts and applies them. -/
  | atlasRevision (cyc : Nat)
  /-- AGE_BASELINE_RESET (R389): A write of AGE_CMD.BASE resets baselines of a port or all. -/
  | ageBaselineReset (a : Arr) (p : Nat) (every : Bool)
  /-- DOZE_ENTRY (R400): After PWS_DWELL a tile with no holding channel dozes. -/
  | dozeEntry (n : Nat)
  /-- DOZE_WAKE_EVENT (R402): A wake event for a dozed tile starts its return. -/
  | dozeWakeEvent (n cyc : Nat)
  /-- DOZE_EXIT (R402): The woken tile runs and delivers cells from the first tick at or after W + 330 µs. -/
  | dozeExit (n : Nat)
  /-- LULL_ENTRY (R403): After PWS_DWELL the package flushes, saves, cancels pending changes and enters Lull. -/
  | lullEntry (ok : Bool)
  /-- LULL_WAKE_EVENT (R404): A wake event in Lull starts the exit sequence. -/
  | lullWakeEvent (pin : Bool) (cyc : Nat)
  /-- LULL_EXIT (R404): At the first 10 kHz boundary at or after W + 1.4 ms the tick returns to the Run period. -/
  | lullExit
  /-- PWS_WAKE_CMD (R404): A write of PWS_CMD.WAKE is a wake event. -/
  | pwsWakeCmd (a : Arr)
  /-- KEEPER_ENTRY (R405): From Lull after dwell the device writes KEEPER_ENTRY and powers down to the keeper domain. -/
  | keeperEntry (ok : Bool)
  /-- KEEPER_WAKE (R406): WAKE high for 10 µs in Keeper wakes the device as a pin reset. -/
  | keeperWake
  /-- POWER_ON_RESET (R411): A supply below its monitor threshold holds the power-on reset. -/
  | powerOnReset
  /-- PIN_RESET (R411): RESET_N low for 1 µs is a pin reset. -/
  | pinReset
  /-- PACKAGE_RESET_REQUEST (R420): A write of BOOT_CMD.PKG_RST with CONFIRM 0x3C starts a flush before the package reset. -/
  | packageResetRequest (a : Arr) (confirm : Nat)
  /-- PACKAGE_RESET (R420): After the flush the package resets. -/
  | packageReset
  /-- BOOT (R414): At R the boot ROM runs the boot sequence to the first tick. -/
  | boot (b : BootIn)
  /-- BOOT_TIMEOUT (R414): No first tick within 500 ms of R: recovery with cause TIMEOUT. -/
  | bootTimeout
  /-- UPD_OPEN (R430): OPEN erases the target slot's header sector and starts a download. -/
  | updOpen (a : Arr) (ok : Bool)
  /-- UPD_ABORT (R429): ABORT abandons a download or an activation before its switch. -/
  | updAbort (a : Arr)
  /-- UPD_VERIFY (R432): VERIFY starts the checks of R416 on the target slot. -/
  | updVerify (a : Arr)
  /-- UPD_VERIFY_COMPLETE (R432): Verification passes to VERIFIED or fails with a check number. -/
  | updVerifyComplete (cyc : Nat)
  /-- UPD_ACTIVATE (R434): ACTIVATE copies code, checks lanes and costs, then schedules the bank switch. -/
  | updActivate (a : Arr)
  /-- ACTIVATION_CHECKS_DONE (R434): Activation steps 1 to 3 complete and the switch is scheduled or the activation ends. -/
  | activationChecksDone
  /-- UPD_REJECT (R440): REJECT during TRIAL decides a fallback. -/
  | updReject (a : Arr)
  /-- UPD_DL_DATA_WRITE (R430): A write of UPD_DL_DATA stores three image bytes and advances the offset. -/
  | updDlDataWrite (a : Arr) (w : Word) (ok : Bool)
  /-- UPD_CONFIRM (R439): A steward write of 0x3CC3A5 confirms the trial image. -/
  | updConfirm (a : Arr) (w : Word)
  /-- CONFIRM_WINDOW_EXPIRE (R440): The confirm window runs out and a fallback is decided. -/
  | confirmWindowExpire (cyc : Nat)
  /-- FALLBACK (R441): A fallback decision schedules the reverse bank switch. -/
  | fallback (cyc : Nat)
  /-- FALLBACK_TIMEOUT (R441): No reverse switch within 1 s: a package reset is requested. -/
  | fallbackTimeout
  /-- KEY_PROGRAM (R445): A write of UPD_KEY_DATA programs a key-hash word; word 15 marks the slot programmed. -/
  | keyProgram (a : Arr) (w : Word)
  /-- KEY_REVOKE (R446): A write of UPD_REVOKE.GO with CONFIRM 0x96 programs a revocation bit or is refused. -/
  | keyRevoke (a : Arr) (slot confirm : Nat)
  /-- PRF_TAG_CTL_WRITE (R452): A write of PRF_TAG_CTL reloads every lane's tagging shift register. -/
  | prfTagCtlWrite (a : Arr) (n : Nat) (w : Word)
  /-- TAG_POP (R452): A read of PRF_TAG_POP moves the oldest tag record into PRF_TAG_W. -/
  | tagPop (a : Arr) (n : Nat)
  /-- CENSUS_DRAIN_DONE (R453): A tile's census drain completes its entry. -/
  | censusDrainDone (n : Nat)
  /-- TRACE_ARM (R455): A write of TRC_CTL.ARM empties the ring and starts capture. -/
  | traceArm (a : Arr) (n : Nat)
  /-- TRACE_FORCE (R455): A write of TRC_CTL.FORCE fires a trace trigger. -/
  | traceForce (a : Arr) (n : Nat)
  /-- TRACE_CROSS_TRIGGER (R455): A cross-trigger from another tile arrives and sets the trigger tick. -/
  | traceCrossTrigger (n cyc : Nat)
  /-- TAP_RESET (R457): TRST_N low or five TCK with TMS high resets the TAP and closes the debug session. -/
  | tapReset
  /-- EXTEST (R457): Drives pins from the boundary-scan register. -/
  | extest (bits : List Bool)
  /-- SAMPLE_PRELOAD (R457): Samples or preloads the boundary-scan register. -/
  | samplePreload (bits : List Bool)
  /-- IDCODE (R457): Returns the 32-bit JTAG identification code. -/
  | idcode
  /-- BYPASS (R457): Selects the 1-bit bypass register. -/
  | bypass
  /-- DBGACC_READ (R459): A JTAG debug READ through the peek path, or consuming with CONSUME = 1. -/
  | dbgaccRead (addr : Nat) (consume : Bool) (cyc : Nat)
  /-- DBGACC_WRITE (R458): A JTAG debug WRITE of a gazetteer word. -/
  | dbgaccWrite (addr : Nat) (w : Word) (cyc : Nat)
  /-- DBGACC_NOP (R458): A NOP access that captures the status of the previous access. -/
  | dbgaccNop
  /-- DEBUG_SESSION_WRITE (R460): A JTAG write of DBG_CTL.SESSION opens or closes a debug session. -/
  | debugSessionWrite (a : Arr) (on : Bool)
  /-- STEWARD_HALT (R461): A write of DBG_SCTL.HALT halts the steward between bundles. -/
  | stewardHalt (a : Arr) (n : Nat)
  /-- STEWARD_BREAKPOINT (R461): An enabled steward breakpoint halts the steward. -/
  | stewardBreakpoint (n : Nat)
  /-- STEWARD_STEP (R461): STEP issues one steward bundle and halts again. -/
  | stewardStep (a : Arr) (n : Nat)
  /-- STEWARD_RESUME (R461): RESUME continues a halted steward. -/
  | stewardResume (a : Arr) (n : Nat)
  /-- STEWARD_DEBUG_REQ (R461): DBG_SCTL.REQ raises steward interrupt source 15. -/
  | stewardDebugReq (a : Arr) (n : Nat)
  /-- STEWARD_HARD_HALT (R463): HARD halts the steward at once, discarding an open LOCK sequence. -/
  | stewardHardHalt (a : Arr) (n : Nat)
  /-- LANE_HALT (R462): A write of DBG_LCTL.HALT halts the lane and puts its port in safe action. -/
  | laneHalt (a : Arr) (l : Nat)
  /-- LANE_BREAKPOINT (R462): The bundle at BP_ADDR about to issue halts the lane. -/
  | laneBreakpoint (l : Nat)
  /-- LANE_STEP (R462): STEP issues one lane bundle. -/
  | laneStep (a : Arr) (l : Nat)
  /-- LANE_RESUME (R462): RESUME restarts the lane from bundle 0 at the next S. -/
  | laneResume (a : Arr) (l : Nat)
  /-- LANE_HARD_HALT (R463): HARD halts the lane at once, discarding an open LOCK sequence. -/
  | laneHardHalt (a : Arr) (l : Nat)
  /-- DEBUG_MEM_ACCESS (R464): An access to DBG_MEM_DATA0 completes a debug memory or register access and advances the address. -/
  | debugMemAccess (a : Arr) (write : Bool) (w : Word)
  /-- MAILBOX_WRITE (R475): A write of LAN_MBOX from another port raises steward interrupt source 7. -/
  | mailboxWrite (a : Arr) (n i : Nat) (w : Word)
  /-- STEWARD_TIMER_EXPIRY (R68): Steward timer 0 or 1 runs out and sets the pending bit of interrupt source 8 or 9. -/
  | stewardTimerExpiry (n t : Nat)
  /-- PFAIL_RELEASE (R215): PFAIL_N returns high and starts the TREL time after which HOLD may end. -/
  | pfailRelease
  /-- DRIVER_FAULT_RELEASE (R148): SPn_FLT_N returns high, DRV_FLT clears and the gate hold may end at the next period start or OUT. -/
  | driverFaultRelease (p : Nat)
  /-- ATLAS_REVISION_COMPLETE (R392): A revision ends its MRAM write within 100 ms and a request that arrived during it then runs. -/
  | atlasRevisionComplete (ok : Bool) (cyc : Nat)
  /-- UPD_CONFIRM_COMPLETE (R439): The confirmation boot record write completes, STATE becomes IDLE and UPD_CONFIRMED is written. -/
  | updConfirmComplete
  deriving DecidableEq, Repr

end Sys2Proof
end

