-- ==== Sys2Proof/Decode.lean ====
section
/-! DEFINITION. The decoder of table words. -/

namespace Sys2Proof

/-- The command that a table word spells: the table of operations gives its rows no bits, so no word spells one
(log entry 1). -/
def decodeTableWord (_nbits _w : Nat) : Option Instr := none

end Sys2Proof
end

