-- ==== Sys2Proof/Machine/Tab.lean ====
section
/-! DEFINITION. Reading and writing the sparse arrays and the fields of a word. -/

namespace Sys2Proof.Machine

/-- A sparse array indexed by unit number, register number or address. An index that is not listed holds the
array's default. The canonical form lists indices strictly rising and lists no default value. -/
abbrev Tab (α : Type) := List (Nat × α)

/-- A field of a word: its highest and its lowest bit (R3). -/
structure Fld where
  hi : Nat
  lo : Nat
  deriving DecidableEq, Repr

/-- The entry listed at index `n`, if one is. -/
def Tab.find {α : Type} : Tab α → Nat → Option α
  | [], _ => none
  | (k, v) :: t, n => if k = n then some v else Tab.find t n

/-- The value at index `n` of an array whose default there is `d`. -/
def Tab.get {α : Type} (d : α) (t : Tab α) (n : Nat) : α := (Tab.find t n).getD d

/-- The array without an entry at `n`. -/
def Tab.erase {α : Type} : Tab α → Nat → Tab α
  | [], _ => []
  | (k, v) :: t, n => if k = n then Tab.erase t n else (k, v) :: Tab.erase t n

/-- The array with `v` listed at `n`, in rising order. -/
def Tab.insert {α : Type} : Tab α → Nat → α → Tab α
  | [], n, v => [(n, v)]
  | (k, w) :: t, n, v =>
    if n < k then (n, v) :: (k, w) :: t
    else if k = n then (n, v) :: t
    else (k, w) :: Tab.insert t n v

/-- Write `v` at `n`, keeping the canonical form: a default value is not listed. -/
def Tab.set {α : Type} [DecidableEq α] (d : α) (t : Tab α) (n : Nat) (v : α) : Tab α :=
  if v = d then Tab.erase t n else Tab.insert t n v

/-- Apply `f` at index `n`. -/
def Tab.modify {α : Type} [DecidableEq α] (d : α) (t : Tab α) (n : Nat) (f : α → α) : Tab α :=
  Tab.set d t n (f (Tab.get d t n))

/-- Every index of a canonical array is above `b`, strictly rising, and no value is the default of its index. -/
def Tab.wfFrom {α : Type} [DecidableEq α] (d : Nat → α) : Option Nat → Tab α → Bool
  | _, [] => true
  | b, (k, v) :: t => (match b with | none => true | some m => decide (m < k)) && decide (v ≠ d k) && Tab.wfFrom d (some k) t

/-- The canonical form of an array with default `d n` at index `n`. -/
def Tab.wf {α : Type} [DecidableEq α] (d : Nat → α) (t : Tab α) : Bool := Tab.wfFrom d none t

/-- The bits of a field as a number. -/
def Fld.get (f : Fld) (w : Word) : Nat := (w.toNat >>> f.lo) % 2 ^ (f.hi + 1 - f.lo)

/-- Ones in the bits of a field. -/
def Fld.mask (f : Fld) : Word := BitVec.ofNat 24 ((2 ^ (f.hi + 1 - f.lo) - 1) <<< f.lo)

/-- The word with the field replaced by the low bits of `v`. -/
def Fld.put (f : Fld) (w : Word) (v : Nat) : Word :=
  (w &&& ~~~ f.mask) ||| (BitVec.ofNat 24 (v <<< f.lo) &&& f.mask)

/-- A one-bit field as a truth value. -/
def Fld.on (f : Fld) (w : Word) : Bool := f.get w == 1

/-- 0 or 1. -/
def b2n (b : Bool) : Nat := if b then 1 else 0

/-- The number that a word pair holds, low word first (R8). -/
def join48 (lo hi : Word) : Nat := lo.toNat + hi.toNat * 2 ^ 24

/-- The low 24 bits of a number. -/
def lo24 (n : Nat) : Word := BitVec.ofNat 24 n

/-- Bits 47:24 of a number. -/
def hi24 (n : Nat) : Word := BitVec.ofNat 24 (n / 2 ^ 24)

/-- Apply `f` to every number below `n` in rising order. -/
def forEach {σ : Type} (n : Nat) (f : Nat → σ → σ) (s : σ) : σ := (List.range n).foldl (fun s k => f k s) s

/-- Apply `f` to the elements of a list in order. -/
def forList {σ α : Type} (l : List α) (f : α → σ → σ) (s : σ) : σ := l.foldl (fun s x => f x s) s

end Sys2Proof.Machine
end

