-- ==== Sys2Proof/Machine/Flags.lean ====
section
/-! DEFINITION. Gwyn-24 numbers and flags (R87 to R91): rounding, saturation, and how c0 and c7 follow a result. -/

namespace Sys2Proof.Machine

/-! Bits of c0 (R88). -/
abbrev C0_GERR : Fld := ⟨8, 8⟩
abbrev C0_SS : Fld := ⟨7, 7⟩
abbrev C0_P1 : Fld := ⟨6, 6⟩
abbrev C0_P0 : Fld := ⟨5, 5⟩
abbrev C0_V : Fld := ⟨3, 3⟩
abbrev C0_C : Fld := ⟨2, 2⟩
abbrev C0_N : Fld := ⟨1, 1⟩
abbrev C0_Z : Fld := ⟨0, 0⟩

/-- Dropping `k` bits of a signed value in a rounding mode (R89). -/
def roundOff (x : Int) (k : Nat) (m : RMode) : Int :=
  if k = 0 then x
  else
    let q := x / 2 ^ k
    let r := x - q * 2 ^ k
    match m with
    | .trunc => q
    | .halfUp => if r ≥ 2 ^ (k - 1) then q + 1 else q
    | .halfEven => if r > 2 ^ (k - 1) ∨ (r = 2 ^ (k - 1) ∧ q % 2 = 1) then q + 1 else q

/-- The exact quotient a/b rounded half_even to an integer (R161); 0 for a zero divisor. -/
def roundq (a b : Int) : Int :=
  if b = 0 then 0
  else
    let (a, b) := if b < 0 then (-a, -b) else (a, b)
    let q := a / b
    let r := a - q * b
    if 2 * r > b ∨ (2 * r = b ∧ q % 2 = 1) then q + 1 else q

/-- Limit an integer to an interval. -/
def clampI (lo hi x : Int) : Int := if x < lo then lo else if x > hi then hi else x

/-- The signed clamp of R90. -/
def satI (x : Int) : Int := clampI (-8388608) 8388607 x

/-- The unsigned count clamp of R90. -/
def usatI (x : Int) : Int := clampI 0 16777215 x

/-- The word that holds an integer modulo 2^24. -/
def word (x : Int) : Word := BitVec.ofInt 24 x

/-- A result with its carry, overflow, and whether the writeback clamped (R90, R91). -/
structure Res where
  v : Word
  c : Bool
  ov : Bool
  sat : Bool
  deriving DecidableEq, Repr

/-- A result of a logical operation: C and V are 0 (R91). -/
def Res.plain (v : Word) : Res := ⟨v, false, false, false⟩

/-- A saturating signed writeback of an exact integer (R90). -/
def Res.signed (x : Int) : Res := ⟨word (satI x), false, satI x != x, satI x != x⟩

/-- A saturating unsigned writeback of an exact integer (R90). -/
def Res.count (x : Int) : Res := ⟨word (usatI x), false, usatI x != x, usatI x != x⟩

/-- c0 with Z, N, C and V of a 24-bit result; a clamp sets SS (R90, R91). -/
def setFlags (c0 : Word) (r : Res) : Word :=
  let c := C0_Z.put c0 (b2n (r.v == 0))
  let c := C0_N.put c (b2n r.v.msb)
  let c := C0_C.put c (b2n r.c)
  let c := C0_V.put c (b2n r.ov)
  if r.sat then C0_SS.put c 1 else c

/-- c0 with Z, N and V of a 56-bit result, C unchanged (R91). -/
def setAccFlags (c0 : Word) (v : Acc) (ov : Bool) : Word :=
  C0_V.put (C0_N.put (C0_Z.put c0 (b2n (v == 0))) (b2n v.msb)) (b2n ov)

/-- c7 after a writeback: it counts clamps and saturates (R57, R90). -/
def countSat (c7 : Word) (sat : Bool) : Word := if sat ∧ c7.toNat < 16777215 then c7 + 1 else c7

/-- c0 with predicate bit `p1` (P1, else P0) written (R96). -/
def setPred (c0 : Word) (p1 b : Bool) : Word := (if p1 then C0_P1 else C0_P0).put c0 (b2n b)

/-- Does a predicate code hold on c0 (R86)? -/
def predHolds (c0 : Word) (code : Nat) : Bool :=
  match code with
  | 0 => true
  | 1 => C0_P0.on c0
  | 2 => !C0_P0.on c0
  | 3 => C0_P1.on c0
  | 4 => !C0_P1.on c0
  | 5 => C0_Z.on c0
  | 6 => !C0_Z.on c0
  | _ => C0_N.on c0

/-- A compare condition (R96). -/
def Cond.holds (c : Cond) (a b : Word) : Bool :=
  match c with
  | .eq => a == b
  | .ne => a != b
  | .lt => decide (a.toInt < b.toInt)
  | .le => decide (a.toInt ≤ b.toInt)
  | .gt => decide (a.toInt > b.toInt)
  | .ge => decide (a.toInt ≥ b.toInt)
  | .ltu => decide (a.toNat < b.toNat)
  | .geu => decide (a.toNat ≥ b.toNat)

/-! ### Results of the ALU instructions (R95) -/

def aluAdd (a b : Word) : Res :=
  ⟨a + b, decide (a.toNat + b.toNat ≥ 2 ^ 24), (a + b).toInt != a.toInt + b.toInt, false⟩
def aluSub (a b : Word) : Res :=
  ⟨a - b, decide (a.toNat < b.toNat), (a - b).toInt != a.toInt - b.toInt, false⟩
def aluAdds (a b : Word) : Res := .signed (a.toInt + b.toInt)
def aluSubs (a b : Word) : Res := .signed (a.toInt - b.toInt)
def aluAddu (a b : Word) : Res := .count (a.toNat + b.toNat)
def aluSubu (a b : Word) : Res := .count ((a.toNat : Int) - b.toNat)
def aluNeg (a : Word) : Res := ⟨-a, a != 0, (-a).toInt != -a.toInt, false⟩
def aluNegs (a : Word) : Res := .signed (-a.toInt)
/-- |a| wrapped; V where it wrapped (R91, R95). -/
def aluAbs (a : Word) : Res :=
  let v := if a.toInt < 0 then -a else a
  ⟨v, false, v.toInt < 0, false⟩
def aluAbss (a : Word) : Res := .signed a.toInt.natAbs
def aluMin (a b : Word) : Res := .plain (if a.toInt ≤ b.toInt then a else b)
def aluMax (a b : Word) : Res := .plain (if a.toInt ≥ b.toInt then a else b)
/-- `a` limited to plus or minus sat(|b|); V where it limits, no saturating writeback (R90, R91, R95). -/
def aluClip (a b : Word) : Res :=
  let lim := satI b.toInt.natAbs
  let v := clampI (-lim) lim a.toInt
  ⟨word v, false, v != a.toInt, false⟩
/-- How many of the bits below bit 23 equal it, from the top, before the first that differs (R95). -/
def redundantBits (a : Word) : Nat → Nat
  | 0 => 0
  | k + 1 => if a.getLsbD k == a.msb then 1 + redundantBits a k else 0
def aluNorm (a : Word) : Res := .plain (BitVec.ofNat 24 (redundantBits a 23))
def aluAnd (a b : Word) : Res := .plain (a &&& b)
def aluOr (a b : Word) : Res := .plain (a ||| b)
def aluXor (a b : Word) : Res := .plain (a ^^^ b)
def aluNot (a : Word) : Res := .plain (~~~a)
/-- Shifts: C is the last bit shifted out, 0 for a zero count (R91, R95). -/
def aluAsr (a : Word) (n : Nat) : Res :=
  ⟨a.sshiftRight n, n != 0 && (a.toInt / 2 ^ (n - 1)) % 2 == 1, false, false⟩
def aluLsr (a : Word) (n : Nat) : Res := ⟨a >>> n, n != 0 && a.getLsbD (n - 1), false, false⟩
def aluLsl (a : Word) (n : Nat) : Res := ⟨a <<< n, n != 0 && decide (n ≤ 24) && a.getLsbD (24 - n), false, false⟩
def aluLsls (a : Word) (n : Nat) : Res := .signed (a.toInt * 2 ^ n)

/-! ### Accumulator results (R98) -/

/-- A 56-bit result and whether the exact value did not fit (R91). -/
structure AccRes where
  v : Acc
  ov : Bool
  deriving DecidableEq, Repr

/-- The 56-bit result of an exact integer. -/
def AccRes.of (x : Int) : AccRes := ⟨BitVec.ofInt 56 x, (BitVec.ofInt 56 x).toInt != x⟩

/-- Bits a product is shifted left to reach the accumulator's scale (R87). -/
def PMode.shift : PMode → Nat
  | .uu => 0
  | .gu => 7
  | .ii => 0

/-- Bits a product drops on its way to a data register (R87). -/
def PMode.drop : PMode → Nat
  | .uu => 23
  | .gu => 16
  | .ii => 0

/-- Bits a single value is shifted left to reach the accumulator's scale (R98). -/
def PMode.shiftIn : PMode → Nat
  | .uu => 23
  | .gu => 30
  | .ii => 0

/-- The aligned product (R87, R98). -/
def align (a b : Word) (m : PMode) : Int := a.toInt * b.toInt * 2 ^ m.shift

def accMpy (a b : Word) (m : PMode) : AccRes := .of (align a b m)
def accMac (x : Acc) (a b : Word) (m : PMode) : AccRes := .of (x.toInt + align a b m)
def accMsu (x : Acc) (a b : Word) (m : PMode) : AccRes := .of (x.toInt - align a b m)
def accAdd (x y : Acc) : AccRes := .of (x.toInt + y.toInt)
def accSub (x y : Acc) : AccRes := .of (x.toInt - y.toInt)
/-- Shift by b[5:0] read signed: left when positive, arithmetically right when negative (R98). -/
def accShift (x : Acc) (b : Word) : AccRes :=
  let k := (b.toNat % 64 : Nat)
  if k < 32 then .of (x.toInt * 2 ^ k) else .of (x.toInt / 2 ^ (64 - k))
def accPlace (a : Word) (m : PMode) : AccRes := .of (a.toInt * 2 ^ m.shiftIn)
def accMpyd (a b : Word) (m : PMode) (r : RMode) : Res := .signed (roundOff (a.toInt * b.toInt) m.drop r)
def accMacd (d a b : Word) (m : PMode) (r : RMode) : Res := .signed (d.toInt + roundOff (a.toInt * b.toInt) m.drop r)
def accSatw (x : Acc) (r : RMode) : Res := .signed (roundOff x.toInt 23 r)
/-- Bits 23:0 of the rounded accumulator; V where the value did not fit (R91, R98). -/
def accWrw (x : Acc) (r : RMode) : Res :=
  let v := roundOff x.toInt 23 r
  ⟨word v, false, satI v != v, false⟩
def accSatg (x : Acc) (r : RMode) : Res := .signed (roundOff x.toInt 30 r)
def accSatc (x : Acc) : Res := .count x.toInt
/-- One part of an accumulator, part 2 sign-extended (R98). -/
def accGet (x : Acc) (part : Nat) : Word :=
  match part with
  | 0 => x.extractLsb' 0 24
  | 1 => x.extractLsb' 24 24
  | _ => (x.extractLsb' 48 8).signExtend 24
/-- An accumulator with one part replaced (R98). -/
def accPut (x : Acc) (part : Nat) (w : Word) : Acc :=
  match part with
  | 0 => (x.extractLsb' 24 32) ++ w
  | 1 => (x.extractLsb' 48 8) ++ w ++ (x.extractLsb' 0 24)
  | _ => (w.extractLsb' 0 8) ++ (x.extractLsb' 0 48)

end Sys2Proof.Machine
end

