-- ==== Sys2Proof/Config.lean ====
section
/-! DEFINITION. What an implementation fixes and the values the spec leaves open. -/

namespace Sys2Proof.Config

/-- A free truth value: whether something that the spec leaves open happened. Nothing constrains it (log entry 4). -/
opaque freeBool : Nat → Bool

/-- A free word: a value the spec does not state. Nothing constrains it (log entry 4). -/
opaque freeWord : Nat → BitVec 24

/-- A free number: a value the spec does not state. Nothing constrains it (log entry 4). -/
opaque freeNat : Nat → Nat

/-- How an image splits the four bytes of a lane program's entry into the program's offset within the section, in bytes, and its
length in bundles (R428): the spec does not state the split. Nothing constrains it (log entry 59). -/
opaque laneEntry : Nat → Nat × Nat

/-- Whether the part is of the second stepping, B, whose `PKG_ID.STEP` is 0x1; the first, A, has 0x0 (R475). -/
opaque laterStepping : Bool

end Sys2Proof.Config
end

