-- ==== Sys2Proof/Machine/Regs.lean ====
section
/-! DEFINITION. The gazetteer (R467 to R475): its places, its register maps, and what every register reads as at reset. -/

namespace Sys2Proof.Machine

/-- A word of the gazetteer, named by the block that holds it (R470 to R472). -/
inductive Loc where
  /-- Package region, outside its blocks. -/
  | pkg (off : Nat)
  /-- Control part of a tile region. -/
  | tile (n off : Nat)
  /-- Port block of stage port `p`. -/
  | port (p off : Nat)
  /-- Lane block of lane `l`. -/
  | lane (l off : Nat)
  /-- Rail block. -/
  | rail (r off : Nat)
  /-- String block. -/
  | string (s off : Nat)
  /-- Open-circuit-voltage table of a chemistry. -/
  | chem (c off : Nat)
  /-- Troupe link block. -/
  | link (l off : Nat)
  /-- Cap entry block. -/
  | entry (e off : Nat)
  /-- Management path block. -/
  | path (p off : Nat)
  /-- Two-wire bus block. -/
  | bus (b off : Nat)
  /-- Rail probe block. -/
  | probe (r off : Nat)
  /-- Package counter block. -/
  | pprf (b off : Nat)
  /-- Tile counter block. -/
  | tprf (n b off : Nat)
  /-- FLT_CLS of fault source `x` (R361). -/
  | fcls (x : Nat)
  /-- FLT_SRC of fault source `x` (R361). -/
  | fsrc (x : Nat)
  /-- Word `w` of the coefficient and table RAM window of tile `n` (R471). -/
  | cram (n w : Nat)
  deriving DecidableEq, Repr

/-- First word of the region of tile `n` (R467). -/
def tileBase (n : Nat) : Nat := (n + 1) * 0x10000

/-- The address of a place (R470 to R472). -/
def Loc.addr : Loc → Nat
  | .pkg o => o
  | .tile n o => tileBase n + o
  | .port p o => tileBase (p / 16) + 0x1000 + (p % 16) * 0x100 + o
  | .lane l o => tileBase (l / 16) + 0x3000 + (l % 16) * 0x100 + o
  | .rail r o => 0x400 + r * 0x40 + o
  | .string s o => 0xA00 + s * 0x20 + o
  | .chem c o => 0xE00 + c * 0x40 + o
  | .link l o => 0x1420 + l * 8 + o
  | .entry e o => 0x1900 + e * 0x20 + o
  | .path p o => 0x1C10 + p * 8 + o
  | .bus b o => 0x2000 + b * 0x40 + o
  | .probe r o => 0x3040 + r * 4 + o
  | .pprf b o => 0x3A00 + b * 0x20 + o
  | .tprf n b o => tileBase n + 0x6000 + b * 0x20 + o
  | .fcls x => if x < 512 then 0x2800 + 2 * x else tileBase ((x - 512) / 384) + 0x5000 + 2 * ((x - 512) % 384)
  | .fsrc x => if x < 512 then 0x2801 + 2 * x else tileBase ((x - 512) / 384) + 0x5001 + 2 * ((x - 512) % 384)
  | .cram n w => tileBase n + 0x8000 + w

/-- The tile that owns a place (R467): tile 0 owns the package region. -/
def Loc.tile? : Loc → Option Nat
  | .tile n _ => some n
  | .port p _ => some (p / 16)
  | .lane l _ => some (l / 16)
  | .tprf n _ _ => some n
  | .fcls x => if x < 512 then none else some ((x - 512) / 384)
  | .fsrc x => if x < 512 then none else some ((x - 512) / 384)
  | .cram n _ => some n
  | _ => none

/-- The place of an address, before the maps of the blocks are asked (R467, R470, R471); none in the reserved region. -/
def locate (a : Nat) : Option Loc :=
  if a < 0x10000 then
    if 0x400 ≤ a ∧ a < 0x800 then some (.rail ((a - 0x400) / 0x40) ((a - 0x400) % 0x40))
    else if 0xA00 ≤ a ∧ a < 0xE00 then some (.string ((a - 0xA00) / 0x20) ((a - 0xA00) % 0x20))
    else if 0xE00 ≤ a ∧ a < 0xF00 then some (.chem ((a - 0xE00) / 0x40) ((a - 0xE00) % 0x40))
    else if 0x1420 ≤ a ∧ a < 0x1450 then some (.link ((a - 0x1420) / 8) ((a - 0x1420) % 8))
    else if 0x1900 ≤ a ∧ a < 0x1B00 then some (.entry ((a - 0x1900) / 0x20) ((a - 0x1900) % 0x20))
    else if 0x1C10 ≤ a ∧ a < 0x1C20 then some (.path ((a - 0x1C10) / 8) ((a - 0x1C10) % 8))
    else if 0x2000 ≤ a ∧ a < 0x2100 then some (.bus ((a - 0x2000) / 0x40) ((a - 0x2000) % 0x40))
    else if 0x2800 ≤ a ∧ a < 0x2C00 then
      some (if (a - 0x2800) % 2 = 0 then .fcls ((a - 0x2800) / 2) else .fsrc ((a - 0x2800) / 2))
    else if 0x3040 ≤ a ∧ a < 0x3080 then some (.probe ((a - 0x3040) / 4) ((a - 0x3040) % 4))
    else if 0x3A00 ≤ a ∧ a < 0x3BC0 then some (.pprf ((a - 0x3A00) / 0x20) ((a - 0x3A00) % 0x20))
    else some (.pkg a)
  else if a < 0x90000 then
    let n := a / 0x10000 - 1
    let o := a % 0x10000
    if 0x1000 ≤ o ∧ o < 0x2000 then some (.port (16 * n + (o - 0x1000) / 0x100) (o % 0x100))
    else if 0x3000 ≤ o ∧ o < 0x4000 then some (.lane (16 * n + (o - 0x3000) / 0x100) (o % 0x100))
    else if 0x5000 ≤ o ∧ o < 0x5300 then
      some (if o % 2 = 0 then .fcls (512 + 384 * n + (o - 0x5000) / 2) else .fsrc (512 + 384 * n + (o - 0x5000) / 2))
    else if 0x6000 ≤ o ∧ o < 0x6480 then some (.tprf n ((o - 0x6000) / 0x20) (o % 0x20))
    else if 0x8000 ≤ o then some (.cram n (o - 0x8000))
    else some (.tile n o)
  else none

/-- The access types of R9. -/
inductive AccType where
  | rw | ro | rc | w1c | wt | otp
  deriving DecidableEq, Repr

/-- One field of a register map (R5): its bits, its access type, its reset value, and whether a tile reset keeps it (R10). -/
structure RegField where
  fld : Fld
  acc : AccType
  rst : Nat
  kept : Bool
  deriving DecidableEq, Repr

/-- One row of a block's map: `n` registers from offset `off` on, `stride` words apart, with these fields. -/
structure RegDesc where
  off : Nat
  n : Nat
  stride : Nat
  fields : List RegField
  deriving DecidableEq, Repr

/-- Does offset `o` name a register of this row? -/
def RegDesc.has (r : RegDesc) (o : Nat) : Bool := decide (r.off ≤ o) && (o - r.off) % r.stride == 0 && decide ((o - r.off) / r.stride < r.n)

/-- The reset word that a row's fields give. -/
def RegDesc.rst (r : RegDesc) : Nat := r.fields.foldl (fun w f => w + f.rst * 2 ^ f.fld.lo) 0

/-- Package region, outside the blocks below: rows of its register map, part 0. -/
def pkgMap0 : List RegDesc :=
  [ ⟨0x0, 1, 1, [⟨⟨23, 8⟩, .ro, 0x8800, false⟩, ⟨⟨7, 4⟩, .ro, 0x8, false⟩, ⟨⟨3, 0⟩, .ro, 0x0, false⟩]⟩,
    ⟨0x1, 1, 1, [⟨⟨23, 0⟩, .rc, 0x0, false⟩]⟩,
    ⟨0x2, 1, 1, [⟨⟨23, 23⟩, .rc, 0x0, false⟩, ⟨⟨22, 22⟩, .ro, 0x0, false⟩, ⟨⟨4, 0⟩, .ro, 0x0, false⟩]⟩,
    ⟨0x3, 1, 1, [⟨⟨19, 0⟩, .ro, 0x0, false⟩]⟩,
    ⟨0x40, 1, 1, [⟨⟨15, 8⟩, .w1c, 0x0, false⟩, ⟨⟨7, 0⟩, .ro, 0x0, false⟩]⟩,
    ⟨0x41, 1, 1, [⟨⟨7, 1⟩, .rw, 0x0, false⟩]⟩,
    ⟨0x42, 1, 1, [⟨⟨2, 0⟩, .ro, 0x0, false⟩]⟩,
    ⟨0x100, 1, 1, [⟨⟨5, 5⟩, .rw, 0x0, false⟩, ⟨⟨4, 3⟩, .rw, 0x0, false⟩, ⟨⟨1, 0⟩, .rw, 0x0, false⟩]⟩,
    ⟨0x101, 1, 1, [⟨⟨16, 0⟩, .ro, 0x0, false⟩]⟩,
    ⟨0x102, 1, 1, [⟨⟨13, 0⟩, .rw, 0xFA0, false⟩]⟩,
    ⟨0x103, 1, 1, [⟨⟨0, 0⟩, .rw, 0x0, false⟩]⟩,
    ⟨0x104, 1, 1, [⟨⟨23, 0⟩, .rw, 0x0, false⟩]⟩,
    ⟨0x105, 1, 1, [⟨⟨23, 0⟩, .rw, 0x0, false⟩]⟩,
    ⟨0x106, 1, 1, [⟨⟨13, 0⟩, .ro, 0x0, false⟩]⟩,
    ⟨0x107, 1, 1, [⟨⟨6, 6⟩, .w1c, 0x0, false⟩, ⟨⟨5, 5⟩, .w1c, 0x0, false⟩, ⟨⟨4, 4⟩, .w1c, 0x0, false⟩, ⟨⟨3, 3⟩, .ro, 0x0, false⟩, ⟨⟨2, 2⟩, .ro, 0x0, false⟩, ⟨⟨1, 0⟩, .ro, 0x3, false⟩]⟩,
    ⟨0x108, 1, 1, [⟨⟨23, 0⟩, .ro, 0x0, false⟩]⟩,
    ⟨0x109, 1, 1, [⟨⟨23, 0⟩, .ro, 0x0, false⟩]⟩,
    ⟨0x10A, 1, 1, [⟨⟨13, 0⟩, .rw, 0x0, false⟩]⟩,
    ⟨0x110, 8, 1, [⟨⟨11, 0⟩, .ro, 0x0, false⟩]⟩,
    ⟨0x118, 1, 1, [⟨⟨23, 0⟩, .rc, 0x0, false⟩]⟩,
    ⟨0x119, 1, 1, [⟨⟨7, 7⟩, .rc, 0x0, false⟩, ⟨⟨6, 0⟩, .ro, 0x0, false⟩]⟩,
    ⟨0x11A, 1, 1, [⟨⟨9, 8⟩, .ro, 0x0, false⟩, ⟨⟨6, 0⟩, .ro, 0x0, false⟩]⟩,
    ⟨0x200, 1, 1, [⟨⟨3, 3⟩, .rw, 0x0, false⟩, ⟨⟨2, 2⟩, .rw, 0x0, false⟩, ⟨⟨1, 1⟩, .rw, 0x0, false⟩, ⟨⟨0, 0⟩, .rw, 0x0, false⟩]⟩,
    ⟨0x201, 1, 1, [⟨⟨23, 0⟩, .rw, 0x0, false⟩]⟩,
    ⟨0x202, 1, 1, [⟨⟨23, 0⟩, .rw, 0x0, false⟩]⟩,
    ⟨0x203, 1, 1, [⟨⟨17, 15⟩, .ro, 0x0, false⟩, ⟨⟨14, 14⟩, .w1c, 0x0, false⟩, ⟨⟨13, 13⟩, .w1c, 0x0, false⟩, ⟨⟨12, 12⟩, .w1c, 0x0, false⟩, ⟨⟨11, 11⟩, .w1c, 0x0, false⟩, ⟨⟨10, 10⟩, .ro, 0x0, false⟩, ⟨⟨6, 0⟩, .ro, 0x0, false⟩]⟩,
    ⟨0x800, 1, 1, [⟨⟨9, 8⟩, .rw, 0x0, false⟩, ⟨⟨7, 0⟩, .rw, 0x0, false⟩]⟩,
    ⟨0x801, 1, 1, [⟨⟨12, 12⟩, .ro, 0x0, false⟩, ⟨⟨11, 10⟩, .ro, 0x0, false⟩, ⟨⟨7, 0⟩, .ro, 0x0, false⟩]⟩,
    ⟨0x802, 1, 1, [⟨⟨14, 14⟩, .ro, 0x0, false⟩, ⟨⟨13, 0⟩, .ro, 0x0, false⟩]⟩,
    ⟨0xF00, 1, 1, [⟨⟨23, 20⟩, .rw, 0x0, false⟩, ⟨⟨19, 16⟩, .rw, 0x0, false⟩, ⟨⟨15, 11⟩, .rw, 0x4, false⟩, ⟨⟨10, 10⟩, .rw, 0x0, false⟩, ⟨⟨9, 3⟩, .rw, 0x0, false⟩, ⟨⟨0, 0⟩, .rw, 0x0, false⟩]⟩,
    ⟨0xF01, 1, 1, [⟨⟨7, 7⟩, .ro, 0x0, false⟩, ⟨⟨6, 6⟩, .ro, 0x0, false⟩, ⟨⟨5, 5⟩, .ro, 0x0, false⟩, ⟨⟨4, 3⟩, .ro, 0x0, false⟩, ⟨⟨0, 0⟩, .ro, 0x0, false⟩]⟩,
    ⟨0xF02, 1, 1, [⟨⟨23, 0⟩, .rw, 0x0, false⟩]⟩,
    ⟨0xF03, 1, 1, [⟨⟨23, 0⟩, .rw, 0x0, false⟩]⟩,
    ⟨0xF04, 1, 1, [⟨⟨23, 0⟩, .rw, 0x0, false⟩]⟩,
    ⟨0xF05, 1, 1, [⟨⟨23, 0⟩, .rw, 0x0, false⟩]⟩,
    ⟨0xF06, 1, 1, [⟨⟨23, 0⟩, .rw, 0x0, false⟩]⟩,
    ⟨0xF07, 1, 1, [⟨⟨23, 0⟩, .rw, 0x0, false⟩]⟩,
    ⟨0xF08, 1, 1, [⟨⟨23, 0⟩, .rw, 0x0, false⟩]⟩,
    ⟨0xF09, 1, 1, [⟨⟨23, 0⟩, .rw, 0x0, false⟩]⟩,
    ⟨0xF0A, 1, 1, [⟨⟨23, 0⟩, .rw, 0x7FFFFF, false⟩]⟩ ]

/-- Package region, outside the blocks below: rows of its register map, part 1. -/
def pkgMap1 : List RegDesc :=
  [ ⟨0xF0B, 1, 1, [⟨⟨23, 0⟩, .rw, 0x0, false⟩]⟩,
    ⟨0xF0C, 1, 1, [⟨⟨15, 0⟩, .rw, 0x0, false⟩]⟩,
    ⟨0xF0D, 1, 1, [⟨⟨23, 0⟩, .rw, 0x0, false⟩]⟩,
    ⟨0xF0E, 1, 1, [⟨⟨7, 0⟩, .rw, 0x0, false⟩]⟩,
    ⟨0xF10, 16, 1, [⟨⟨23, 0⟩, .rw, 0x0, false⟩]⟩,
    ⟨0xF20, 1, 1, [⟨⟨23, 0⟩, .ro, 0x0, false⟩]⟩,
    ⟨0xF21, 1, 1, [⟨⟨23, 0⟩, .ro, 0x0, false⟩]⟩,
    ⟨0xF22, 1, 1, [⟨⟨23, 0⟩, .ro, 0x0, false⟩]⟩,
    ⟨0xF23, 1, 1, [⟨⟨23, 0⟩, .ro, 0x0, false⟩]⟩,
    ⟨0xF24, 1, 1, [⟨⟨23, 0⟩, .ro, 0x0, false⟩]⟩,
    ⟨0xF25, 1, 1, [⟨⟨23, 0⟩, .ro, 0x0, false⟩]⟩,
    ⟨0xF26, 1, 1, [⟨⟨23, 0⟩, .ro, 0x0, false⟩]⟩,
    ⟨0xF27, 1, 1, [⟨⟨23, 0⟩, .ro, 0x0, false⟩]⟩,
    ⟨0x1000, 1, 1, [⟨⟨7, 6⟩, .ro, 0x0, false⟩, ⟨⟨5, 5⟩, .ro, 0x0, false⟩, ⟨⟨4, 4⟩, .ro, 0x0, false⟩, ⟨⟨3, 3⟩, .ro, 0x0, false⟩, ⟨⟨1, 0⟩, .ro, 0x0, false⟩]⟩,
    ⟨0x1001, 1, 1, [⟨⟨10, 0⟩, .rw, 0x0, false⟩]⟩,
    ⟨0x1002, 1, 1, [⟨⟨23, 0⟩, .otp, 0x0, false⟩]⟩,
    ⟨0x1003, 1, 1, [⟨⟨23, 16⟩, .rw, 0x0, false⟩, ⟨⟨1, 1⟩, .rw, 0x0, false⟩, ⟨⟨0, 0⟩, .rw, 0x0, false⟩]⟩,
    ⟨0x1400, 1, 1, [⟨⟨18, 16⟩, .rw, 0x1, false⟩, ⟨⟨15, 15⟩, .rw, 0x1, false⟩, ⟨⟨14, 14⟩, .rw, 0x0, false⟩, ⟨⟨13, 8⟩, .rw, 0x3E, false⟩, ⟨⟨5, 0⟩, .rw, 0x3F, false⟩]⟩,
    ⟨0x1401, 1, 1, [⟨⟨23, 22⟩, .ro, 0x0, false⟩, ⟨⟨21, 21⟩, .ro, 0x0, false⟩, ⟨⟨15, 12⟩, .ro, 0x0, false⟩]⟩,
    ⟨0x1402, 1, 1, [⟨⟨23, 16⟩, .ro, 0x0, false⟩, ⟨⟨15, 15⟩, .ro, 0x0, false⟩, ⟨⟨13, 0⟩, .ro, 0x0, false⟩]⟩,
    ⟨0x1403, 1, 1, [⟨⟨23, 0⟩, .ro, 0x0, false⟩]⟩,
    ⟨0x1404, 1, 1, [⟨⟨23, 0⟩, .ro, 0x0, false⟩]⟩,
    ⟨0x1405, 1, 1, [⟨⟨23, 16⟩, .ro, 0x0, false⟩, ⟨⟨7, 0⟩, .ro, 0x0, false⟩]⟩,
    ⟨0x1406, 1, 1, [⟨⟨23, 23⟩, .ro, 0x0, false⟩, ⟨⟨22, 22⟩, .ro, 0x0, false⟩, ⟨⟨21, 21⟩, .w1c, 0x0, false⟩, ⟨⟨13, 0⟩, .ro, 0x0, false⟩]⟩,
    ⟨0x1407, 1, 1, [⟨⟨23, 0⟩, .ro, 0x0, false⟩]⟩,
    ⟨0x1408, 1, 1, [⟨⟨23, 0⟩, .rc, 0x0, false⟩]⟩,
    ⟨0x1409, 5, 1, [⟨⟨23, 0⟩, .rc, 0x0, false⟩]⟩,
    ⟨0x140E, 1, 1, [⟨⟨23, 0⟩, .rc, 0x0, false⟩]⟩,
    ⟨0x1410, 1, 1, [⟨⟨23, 21⟩, .rw, 0x0, false⟩, ⟨⟨20, 20⟩, .rw, 0x0, false⟩, ⟨⟨15, 0⟩, .rw, 0x0, false⟩]⟩,
    ⟨0x1460, 16, 1, [⟨⟨23, 23⟩, .rw, 0x0, false⟩, ⟨⟨22, 19⟩, .rw, 0x0, false⟩, ⟨⟨18, 16⟩, .rw, 0x2, false⟩, ⟨⟨13, 0⟩, .rw, 0x0, false⟩]⟩,
    ⟨0x1800, 1, 1, [⟨⟨0, 0⟩, .rw, 0x0, false⟩]⟩,
    ⟨0x1801, 1, 1, [⟨⟨3, 0⟩, .rw, 0x0, false⟩]⟩,
    ⟨0x1802, 1, 1, [⟨⟨15, 0⟩, .rw, 0x0, false⟩]⟩,
    ⟨0x1803, 1, 1, [⟨⟨23, 16⟩, .rw, 0x0, false⟩, ⟨⟨15, 8⟩, .rw, 0x0, false⟩, ⟨⟨7, 0⟩, .rw, 0x32, false⟩]⟩,
    ⟨0x1804, 1, 1, [⟨⟨17, 17⟩, .ro, 0x0, false⟩, ⟨⟨16, 16⟩, .ro, 0x0, false⟩, ⟨⟨15, 8⟩, .ro, 0x0, false⟩, ⟨⟨7, 0⟩, .ro, 0x0, false⟩]⟩,
    ⟨0x1805, 1, 1, [⟨⟨15, 0⟩, .ro, 0x0, false⟩]⟩,
    ⟨0x1806, 1, 1, [⟨⟨15, 0⟩, .ro, 0x0, false⟩]⟩,
    ⟨0x1808, 1, 1, [⟨⟨7, 0⟩, .rw, 0x10, false⟩]⟩,
    ⟨0x1809, 1, 1, [⟨⟨23, 22⟩, .rw, 0x0, false⟩, ⟨⟨21, 18⟩, .rw, 0x0, false⟩, ⟨⟨16, 16⟩, .rw, 0x0, false⟩, ⟨⟨15, 0⟩, .rw, 0x0, false⟩]⟩,
    ⟨0x180A, 1, 1, [⟨⟨15, 14⟩, .ro, 0x0, false⟩, ⟨⟨13, 13⟩, .ro, 0x0, false⟩, ⟨⟨12, 12⟩, .ro, 0x0, false⟩, ⟨⟨11, 0⟩, .ro, 0x0, false⟩]⟩ ]

/-- Package region, outside the blocks below: rows of its register map, part 2. -/
def pkgMap2 : List RegDesc :=
  [ ⟨0x180B, 1, 1, [⟨⟨23, 0⟩, .ro, 0x0, false⟩]⟩,
    ⟨0x180C, 1, 1, [⟨⟨23, 0⟩, .rc, 0x0, false⟩]⟩,
    ⟨0x180D, 1, 1, [⟨⟨23, 0⟩, .ro, 0x0, false⟩]⟩,
    ⟨0x180E, 1, 1, [⟨⟨23, 0⟩, .ro, 0x0, false⟩]⟩,
    ⟨0x1C00, 1, 1, [⟨⟨23, 16⟩, .rw, 0xA, false⟩, ⟨⟨4, 4⟩, .rw, 0x0, false⟩, ⟨⟨3, 3⟩, .rw, 0x0, false⟩, ⟨⟨1, 1⟩, .rw, 0x1, false⟩, ⟨⟨0, 0⟩, .rw, 0x1, false⟩]⟩,
    ⟨0x1C01, 1, 1, [⟨⟨7, 6⟩, .ro, 0x2, false⟩, ⟨⟨5, 4⟩, .ro, 0x2, false⟩, ⟨⟨3, 2⟩, .ro, 0x0, false⟩, ⟨⟨1, 0⟩, .ro, 0x0, false⟩]⟩,
    ⟨0x1C02, 1, 1, [⟨⟨15, 8⟩, .rw, 0x8, false⟩, ⟨⟨7, 0⟩, .rw, 0xA, false⟩]⟩,
    ⟨0x1C03, 1, 1, [⟨⟨16, 12⟩, .rw, 0xA, false⟩, ⟨⟨11, 8⟩, .rw, 0x3, false⟩, ⟨⟨7, 0⟩, .rw, 0x32, false⟩]⟩,
    ⟨0x1C20, 1, 1, [⟨⟨23, 0⟩, .ro, 0x0, false⟩]⟩,
    ⟨0x1C21, 1, 1, [⟨⟨23, 0⟩, .ro, 0x0, false⟩]⟩,
    ⟨0x1C22, 1, 1, [⟨⟨23, 0⟩, .rw, 0x0, false⟩]⟩,
    ⟨0x1C23, 1, 1, [⟨⟨7, 0⟩, .rw, 0x0, false⟩]⟩,
    ⟨0x1C24, 1, 1, [⟨⟨23, 0⟩, .rw, 0x0, false⟩]⟩,
    ⟨0x1C25, 1, 1, [⟨⟨7, 0⟩, .rw, 0x0, false⟩]⟩,
    ⟨0x1C26, 1, 1, [⟨⟨23, 0⟩, .rw, 0x0, false⟩]⟩,
    ⟨0x1C27, 1, 1, [⟨⟨23, 0⟩, .rw, 0x0, false⟩]⟩,
    ⟨0x1C28, 1, 1, [⟨⟨23, 0⟩, .rw, 0x0, false⟩]⟩,
    ⟨0x1C29, 1, 1, [⟨⟨23, 0⟩, .rw, 0x0, false⟩]⟩,
    ⟨0x1C2A, 1, 1, [⟨⟨23, 0⟩, .rw, 0x0, false⟩]⟩,
    ⟨0x1C2B, 1, 1, [⟨⟨7, 0⟩, .rw, 0x0, false⟩]⟩,
    ⟨0x1C2C, 1, 1, [⟨⟨23, 0⟩, .rw, 0x0, false⟩]⟩,
    ⟨0x1C2D, 1, 1, [⟨⟨23, 0⟩, .rw, 0x0, false⟩]⟩,
    ⟨0x1C2E, 1, 1, [⟨⟨23, 0⟩, .rw, 0x0, false⟩]⟩,
    ⟨0x1C2F, 1, 1, [⟨⟨23, 0⟩, .rw, 0x0, false⟩]⟩,
    ⟨0x1C30, 1, 1, [⟨⟨23, 0⟩, .rw, 0x0, false⟩]⟩,
    ⟨0x1C31, 1, 1, [⟨⟨7, 0⟩, .rw, 0x0, false⟩]⟩,
    ⟨0x1C32, 1, 1, [⟨⟨23, 0⟩, .rw, 0x0, false⟩]⟩,
    ⟨0x1C33, 1, 1, [⟨⟨23, 0⟩, .rw, 0x0, false⟩]⟩,
    ⟨0x1C34, 1, 1, [⟨⟨23, 0⟩, .rw, 0x0, false⟩]⟩,
    ⟨0x1C35, 1, 1, [⟨⟨23, 0⟩, .rw, 0x0, false⟩]⟩,
    ⟨0x1C36, 1, 1, [⟨⟨23, 0⟩, .rw, 0x0, false⟩]⟩,
    ⟨0x1C37, 1, 1, [⟨⟨7, 0⟩, .rw, 0x0, false⟩]⟩,
    ⟨0x1C38, 1, 1, [⟨⟨14, 8⟩, .rw, 0x40, false⟩, ⟨⟨5, 0⟩, .rw, 0x18, false⟩]⟩,
    ⟨0x1C39, 1, 1, [⟨⟨15, 0⟩, .rw, 0xBEA0, false⟩]⟩,
    ⟨0x1C3A, 1, 1, [⟨⟨16, 16⟩, .rw, 0x0, false⟩, ⟨⟨15, 0⟩, .rw, 0xBEA0, false⟩]⟩,
    ⟨0x1C3B, 1, 1, [⟨⟨23, 23⟩, .rw, 0x0, false⟩, ⟨⟨22, 19⟩, .rw, 0x1, false⟩, ⟨⟨15, 0⟩, .rw, 0x3E8, false⟩]⟩,
    ⟨0x1C3C, 7, 1, [⟨⟨19, 0⟩, .rw, 0x0, false⟩]⟩,
    ⟨0x1C44, 1, 1, [⟨⟨11, 11⟩, .rw, 0x0, false⟩, ⟨⟨10, 9⟩, .rw, 0x0, false⟩, ⟨⟨7, 0⟩, .rw, 0x0, false⟩]⟩,
    ⟨0x1C45, 1, 1, [⟨⟨23, 1⟩, .ro, 0x0, false⟩, ⟨⟨0, 0⟩, .ro, 0x0, false⟩]⟩,
    ⟨0x1C46, 1, 1, [⟨⟨23, 0⟩, .ro, 0x0, false⟩]⟩ ]

/-- Package region, outside the blocks below: rows of its register map, part 3. -/
def pkgMap3 : List RegDesc :=
  [ ⟨0x1C47, 1, 1, [⟨⟨23, 0⟩, .ro, 0x0, false⟩]⟩,
    ⟨0x1C48, 1, 1, [⟨⟨23, 0⟩, .ro, 0x0, false⟩]⟩,
    ⟨0x1C49, 1, 1, [⟨⟨23, 0⟩, .ro, 0x0, false⟩]⟩,
    ⟨0x1C4A, 1, 1, [⟨⟨23, 0⟩, .ro, 0x0, false⟩]⟩,
    ⟨0x1C4B, 1, 1, [⟨⟨23, 0⟩, .ro, 0x0, false⟩]⟩,
    ⟨0x1C4C, 1, 1, [⟨⟨23, 0⟩, .ro, 0x0, false⟩]⟩,
    ⟨0x1C4D, 1, 1, [⟨⟨23, 0⟩, .ro, 0x0, false⟩]⟩,
    ⟨0x2200, 21, 1, [⟨⟨5, 5⟩, .otp, 0x0, false⟩, ⟨⟨4, 0⟩, .otp, 0x0, false⟩]⟩,
    ⟨0x2215, 1, 1, [⟨⟨23, 0⟩, .otp, 0x0, false⟩]⟩,
    ⟨0x2216, 1, 1, [⟨⟨7, 0⟩, .otp, 0x0, false⟩]⟩,
    ⟨0x2220, 1, 1, [⟨⟨5, 5⟩, .wt, 0x1, false⟩, ⟨⟨4, 0⟩, .wt, 0x1F, false⟩]⟩,
    ⟨0x2221, 11, 1, [⟨⟨5, 5⟩, .wt, 0x0, false⟩, ⟨⟨4, 0⟩, .wt, 0x1, false⟩]⟩,
    ⟨0x222C, 1, 1, [⟨⟨5, 5⟩, .wt, 0x1, false⟩, ⟨⟨4, 0⟩, .wt, 0x1F, false⟩]⟩,
    ⟨0x222D, 8, 1, [⟨⟨5, 5⟩, .wt, 0x0, false⟩, ⟨⟨4, 0⟩, .wt, 0xF, false⟩]⟩,
    ⟨0x2240, 1, 1, [⟨⟨2, 2⟩, .ro, 0x0, false⟩, ⟨⟨1, 1⟩, .w1c, 0x0, false⟩, ⟨⟨0, 0⟩, .ro, 0x0, false⟩]⟩,
    ⟨0x2241, 1, 1, [⟨⟨23, 16⟩, .rw, 0x0, false⟩, ⟨⟨0, 0⟩, .rw, 0x0, false⟩]⟩,
    ⟨0x2242, 1, 1, [⟨⟨7, 7⟩, .rc, 0x0, false⟩, ⟨⟨6, 6⟩, .ro, 0x0, false⟩, ⟨⟨4, 0⟩, .ro, 0x0, false⟩]⟩,
    ⟨0x2243, 1, 1, [⟨⟨19, 0⟩, .ro, 0x0, false⟩]⟩,
    ⟨0x2244, 1, 1, [⟨⟨23, 0⟩, .rc, 0x0, false⟩]⟩,
    ⟨0x2245, 1, 1, [⟨⟨23, 0⟩, .rc, 0x0, false⟩]⟩,
    ⟨0x2400, 4, 1, [⟨⟨5, 0⟩, .rw, 0x1, false⟩]⟩,
    ⟨0x2404, 1, 1, [⟨⟨23, 23⟩, .rc, 0x0, false⟩, ⟨⟨22, 22⟩, .ro, 0x0, false⟩, ⟨⟨21, 20⟩, .ro, 0x0, false⟩, ⟨⟨19, 12⟩, .ro, 0x0, false⟩, ⟨⟨11, 0⟩, .ro, 0x0, false⟩]⟩,
    ⟨0x2405, 1, 1, [⟨⟨23, 0⟩, .ro, 0x0, false⟩]⟩,
    ⟨0x2406, 1, 1, [⟨⟨23, 0⟩, .ro, 0x0, false⟩]⟩,
    ⟨0x2407, 1, 1, [⟨⟨11, 0⟩, .ro, 0x0, false⟩]⟩,
    ⟨0x2408, 4, 1, [⟨⟨23, 0⟩, .rc, 0x0, false⟩]⟩,
    ⟨0x240C, 1, 1, [⟨⟨2, 1⟩, .ro, 0x0, false⟩, ⟨⟨0, 0⟩, .ro, 0x0, false⟩]⟩,
    ⟨0x2600, 1, 1, [⟨⟨5, 4⟩, .rw, 0x1, false⟩, ⟨⟨2, 0⟩, .rw, 0x4, false⟩]⟩,
    ⟨0x2601, 1, 1, [⟨⟨16, 0⟩, .rw, 0x3E8, false⟩]⟩,
    ⟨0x2602, 1, 1, [⟨⟨7, 0⟩, .rw, 0x14, false⟩]⟩,
    ⟨0x2603, 1, 1, [⟨⟨23, 0⟩, .rw, 0x0, false⟩]⟩,
    ⟨0x2604, 1, 1, [⟨⟨7, 7⟩, .ro, 0x0, false⟩, ⟨⟨6, 6⟩, .ro, 0x0, false⟩, ⟨⟨5, 5⟩, .ro, 0x0, false⟩, ⟨⟨4, 4⟩, .ro, 0x0, false⟩, ⟨⟨2, 0⟩, .ro, 0x0, false⟩]⟩,
    ⟨0x2605, 1, 1, [⟨⟨16, 0⟩, .ro, 0x0, false⟩]⟩,
    ⟨0x2C00, 1, 1, [⟨⟨6, 6⟩, .rw, 0x0, false⟩, ⟨⟨5, 5⟩, .rw, 0x0, false⟩, ⟨⟨4, 0⟩, .rw, 0x10, false⟩]⟩,
    ⟨0x2C01, 1, 1, [⟨⟨19, 12⟩, .ro, 0x0, false⟩, ⟨⟨11, 11⟩, .w1c, 0x0, false⟩, ⟨⟨10, 0⟩, .ro, 0x0, false⟩]⟩,
    ⟨0x2C02, 1, 1, [⟨⟨1, 1⟩, .ro, 0x0, false⟩, ⟨⟨0, 0⟩, .ro, 0x0, false⟩]⟩,
    ⟨0x2C03, 1, 1, [⟨⟨1, 1⟩, .rw, 0x0, false⟩, ⟨⟨0, 0⟩, .rw, 0x0, false⟩]⟩,
    ⟨0x2C04, 1, 1, [⟨⟨23, 16⟩, .rw, 0x8, false⟩, ⟨⟨15, 0⟩, .rw, 0x3E8, false⟩]⟩,
    ⟨0x2C05, 1, 1, [⟨⟨23, 0⟩, .ro, 0x0, false⟩]⟩,
    ⟨0x2C06, 1, 1, [⟨⟨7, 0⟩, .ro, 0x0, false⟩]⟩,
    ⟨0x2C07, 1, 1, [⟨⟨23, 0⟩, .ro, 0x0, false⟩]⟩,
    ⟨0x2C08, 1, 1, [⟨⟨23, 0⟩, .ro, 0x0, false⟩]⟩,
    ⟨0x2C09, 1, 1, [⟨⟨23, 0⟩, .ro, 0x0, false⟩]⟩ ]

/-- Package region, outside the blocks below: rows of its register map, part 4. -/
def pkgMap4 : List RegDesc :=
  [ ⟨0x2C0A, 1, 1, [⟨⟨15, 0⟩, .ro, 0x0, false⟩]⟩,
    ⟨0x2C0B, 1, 1, [⟨⟨23, 0⟩, .ro, 0x0, false⟩]⟩,
    ⟨0x2C0C, 1, 1, [⟨⟨15, 0⟩, .ro, 0x0, false⟩]⟩,
    ⟨0x2C0D, 1, 1, [⟨⟨23, 0⟩, .ro, 0x0, false⟩]⟩,
    ⟨0x2C0E, 1, 1, [⟨⟨15, 0⟩, .ro, 0x0, false⟩]⟩,
    ⟨0x2C0F, 1, 1, [⟨⟨23, 0⟩, .rc, 0x0, false⟩]⟩,
    ⟨0x2C10, 1, 1, [⟨⟨13, 0⟩, .rw, 0x0, false⟩]⟩,
    ⟨0x2C11, 1, 1, [⟨⟨1, 0⟩, .rw, 0x0, false⟩]⟩,
    ⟨0x2C12, 1, 1, [⟨⟨23, 0⟩, .rw, 0x0, false⟩]⟩,
    ⟨0x2C13, 1, 1, [⟨⟨15, 0⟩, .rw, 0x0, false⟩]⟩,
    ⟨0x2C14, 1, 1, [⟨⟨2, 1⟩, .ro, 0x0, false⟩, ⟨⟨0, 0⟩, .ro, 0x0, false⟩]⟩,
    ⟨0x2C20, 12, 1, [⟨⟨23, 0⟩, .ro, 0x0, false⟩]⟩,
    ⟨0x2D00, 64, 2, [⟨⟨23, 23⟩, .rw, 0x0, false⟩, ⟨⟨19, 0⟩, .rw, 0x0, false⟩]⟩,
    ⟨0x2D01, 64, 2, [⟨⟨23, 0⟩, .rw, 0x800000, false⟩]⟩,
    ⟨0x2D80, 64, 1, [⟨⟨4, 0⟩, .rw, 0x13, false⟩]⟩,
    ⟨0x3000, 1, 1, [⟨⟨23, 8⟩, .rw, 0x64, false⟩, ⟨⟨2, 2⟩, .rw, 0x0, false⟩, ⟨⟨1, 1⟩, .rw, 0x1, false⟩]⟩,
    ⟨0x3001, 1, 1, [⟨⟨15, 0⟩, .rw, 0xFFF0, false⟩]⟩,
    ⟨0x3002, 1, 1, [⟨⟨23, 18⟩, .rw, 0x14, false⟩, ⟨⟨17, 12⟩, .rw, 0xA, false⟩, ⟨⟨11, 7⟩, .rw, 0x17, false⟩, ⟨⟨6, 0⟩, .rw, 0x0, false⟩]⟩,
    ⟨0x3003, 1, 1, [⟨⟨1, 0⟩, .rw, 0x1, false⟩]⟩,
    ⟨0x3004, 1, 1, [⟨⟨9, 0⟩, .ro, 0x2EE, false⟩]⟩,
    ⟨0x3005, 1, 1, [⟨⟨9, 0⟩, .ro, 0x0, false⟩]⟩,
    ⟨0x3006, 1, 1, [⟨⟨23, 0⟩, .rw, 0x24000, false⟩]⟩,
    ⟨0x3007, 1, 1, [⟨⟨23, 0⟩, .rw, 0xB333, false⟩]⟩,
    ⟨0x3008, 1, 1, [⟨⟨23, 0⟩, .rw, 0x20000, false⟩]⟩,
    ⟨0x3009, 1, 1, [⟨⟨23, 0⟩, .rw, 0x18000, false⟩]⟩,
    ⟨0x300A, 1, 1, [⟨⟨23, 0⟩, .rw, 0x200000, false⟩]⟩,
    ⟨0x300B, 1, 1, [⟨⟨23, 12⟩, .rw, 0xA00, false⟩, ⟨⟨11, 0⟩, .rw, 0x800, false⟩]⟩,
    ⟨0x300C, 1, 1, [⟨⟨23, 0⟩, .rw, 0x1F40, false⟩]⟩,
    ⟨0x300D, 1, 1, [⟨⟨9, 9⟩, .rw, 0x0, false⟩, ⟨⟨8, 8⟩, .rw, 0x0, false⟩, ⟨⟨7, 7⟩, .rw, 0x0, false⟩, ⟨⟨6, 0⟩, .rw, 0x0, false⟩]⟩,
    ⟨0x3200, 1, 1, [⟨⟨2, 2⟩, .rw, 0x0, false⟩, ⟨⟨1, 1⟩, .rw, 0x1, false⟩, ⟨⟨0, 0⟩, .rw, 0x1, false⟩]⟩,
    ⟨0x3201, 1, 1, [⟨⟨23, 0⟩, .rw, 0x0, false⟩]⟩,
    ⟨0x3202, 1, 1, [⟨⟨15, 0⟩, .rw, 0x64, false⟩]⟩,
    ⟨0x3203, 1, 1, [⟨⟨7, 1⟩, .rw, 0x7F, false⟩]⟩,
    ⟨0x3204, 1, 1, [⟨⟨11, 11⟩, .w1c, 0x0, true⟩, ⟨⟨10, 10⟩, .ro, 0x0, false⟩, ⟨⟨9, 3⟩, .ro, 0x0, false⟩, ⟨⟨2, 0⟩, .ro, 0x0, false⟩]⟩,
    ⟨0x3205, 1, 1, [⟨⟨0, 0⟩, .rw, 0x0, false⟩]⟩,
    ⟨0x3206, 1, 1, [⟨⟨7, 7⟩, .ro, 0x0, false⟩, ⟨⟨6, 6⟩, .ro, 0x0, false⟩, ⟨⟨5, 5⟩, .ro, 0x0, false⟩, ⟨⟨4, 4⟩, .ro, 0x0, false⟩, ⟨⟨3, 3⟩, .ro, 0x0, false⟩, ⟨⟨2, 2⟩, .ro, 0x0, false⟩, ⟨⟨1, 1⟩, .ro, 0x0, false⟩, ⟨⟨0, 0⟩, .ro, 0x1, false⟩]⟩,
    ⟨0x3207, 1, 1, [⟨⟨23, 0⟩, .ro, 0x0, false⟩]⟩,
    ⟨0x3210, 4, 1, [⟨⟨23, 0⟩, .rw, 0x0, false⟩]⟩,
    ⟨0x3400, 1, 1, [⟨⟨11, 9⟩, .ro, 0x0, false⟩, ⟨⟨8, 8⟩, .ro, 0x0, false⟩, ⟨⟨7, 7⟩, .ro, 0x0, false⟩, ⟨⟨6, 6⟩, .ro, 0x0, false⟩, ⟨⟨5, 5⟩, .ro, 0x0, false⟩, ⟨⟨4, 4⟩, .ro, 0x0, false⟩, ⟨⟨1, 0⟩, .ro, 0x0, false⟩]⟩,
    ⟨0x3401, 1, 1, [⟨⟨6, 6⟩, .ro, 0x0, false⟩, ⟨⟨5, 5⟩, .ro, 0x0, false⟩, ⟨⟨4, 1⟩, .ro, 0x0, false⟩, ⟨⟨0, 0⟩, .ro, 0x0, false⟩]⟩ ]

/-- Package region, outside the blocks below: rows of its register map, part 5. -/
def pkgMap5 : List RegDesc :=
  [ ⟨0x3402, 1, 1, [⟨⟨23, 16⟩, .rw, 0x0, false⟩, ⟨⟨0, 0⟩, .rw, 0x0, false⟩]⟩,
    ⟨0x3403, 1, 1, [⟨⟨15, 0⟩, .ro, 0x0, false⟩]⟩,
    ⟨0x3404, 1, 1, [⟨⟨23, 0⟩, .ro, 0x0, false⟩]⟩,
    ⟨0x3405, 1, 1, [⟨⟨1, 0⟩, .ro, 0x0, false⟩]⟩,
    ⟨0x3600, 1, 1, [⟨⟨2, 2⟩, .rw, 0x1, false⟩, ⟨⟨0, 0⟩, .rw, 0x0, false⟩]⟩,
    ⟨0x3601, 1, 1, [⟨⟨4, 4⟩, .rw, 0x0, false⟩, ⟨⟨3, 3⟩, .rw, 0x0, false⟩, ⟨⟨2, 2⟩, .rw, 0x0, false⟩, ⟨⟨1, 1⟩, .rw, 0x0, false⟩, ⟨⟨0, 0⟩, .rw, 0x0, false⟩]⟩,
    ⟨0x3602, 1, 1, [⟨⟨23, 22⟩, .ro, 0x0, false⟩, ⟨⟨21, 19⟩, .ro, 0x0, false⟩, ⟨⟨18, 18⟩, .ro, 0x0, false⟩, ⟨⟨17, 17⟩, .ro, 0x0, false⟩, ⟨⟨16, 14⟩, .ro, 0x0, false⟩, ⟨⟨10, 7⟩, .ro, 0x0, false⟩, ⟨⟨2, 0⟩, .ro, 0x0, false⟩]⟩,
    ⟨0x3603, 1, 1, [⟨⟨23, 0⟩, .rw, 0x0, false⟩]⟩,
    ⟨0x3604, 1, 1, [⟨⟨11, 0⟩, .rw, 0x258, false⟩]⟩,
    ⟨0x3605, 1, 1, [⟨⟨11, 0⟩, .ro, 0x0, false⟩]⟩,
    ⟨0x3606, 1, 1, [⟨⟨23, 0⟩, .rw, 0x0, false⟩]⟩,
    ⟨0x3607, 1, 1, [⟨⟨23, 0⟩, .rw, 0x0, false⟩]⟩,
    ⟨0x3608, 1, 1, [⟨⟨6, 0⟩, .ro, 0x0, false⟩]⟩,
    ⟨0x3609, 1, 1, [⟨⟨23, 0⟩, .rw, 0x0, false⟩]⟩,
    ⟨0x360A, 1, 1, [⟨⟨7, 0⟩, .rw, 0x0, false⟩]⟩,
    ⟨0x360B, 1, 1, [⟨⟨23, 0⟩, .rw, 0x0, false⟩]⟩,
    ⟨0x360C, 1, 1, [⟨⟨23, 0⟩, .ro, 0x0, false⟩]⟩,
    ⟨0x360D, 1, 1, [⟨⟨7, 0⟩, .ro, 0x0, false⟩]⟩,
    ⟨0x360E, 1, 1, [⟨⟨23, 0⟩, .ro, 0x0, false⟩]⟩,
    ⟨0x360F, 1, 1, [⟨⟨5, 0⟩, .ro, 0x0, false⟩]⟩,
    ⟨0x3610, 1, 1, [⟨⟨5, 0⟩, .rw, 0x0, false⟩]⟩,
    ⟨0x3611, 1, 1, [⟨⟨23, 0⟩, .otp, 0x0, false⟩]⟩,
    ⟨0x3612, 1, 1, [⟨⟨7, 4⟩, .ro, 0x0, false⟩, ⟨⟨3, 0⟩, .ro, 0x0, false⟩]⟩,
    ⟨0x3613, 1, 1, [⟨⟨23, 16⟩, .rw, 0x0, false⟩, ⟨⟨2, 1⟩, .rw, 0x0, false⟩, ⟨⟨0, 0⟩, .rw, 0x0, false⟩]⟩,
    ⟨0x3800, 1, 1, [⟨⟨0, 0⟩, .rw, 0x0, false⟩]⟩,
    ⟨0x3801, 1, 1, [⟨⟨10, 8⟩, .rw, 0x0, false⟩, ⟨⟨7, 0⟩, .rw, 0x0, false⟩]⟩,
    ⟨0x3802, 1, 1, [⟨⟨15, 0⟩, .rw, 0x0, false⟩]⟩,
    ⟨0x3803, 1, 1, [⟨⟨23, 0⟩, .rw, 0x0, false⟩]⟩,
    ⟨0x3804, 1, 1, [⟨⟨23, 0⟩, .rw, 0x0, false⟩]⟩,
    ⟨0x3805, 1, 1, [⟨⟨23, 0⟩, .rw, 0x0, false⟩]⟩,
    ⟨0x3900, 1, 1, [⟨⟨1, 1⟩, .rw, 0x0, false⟩, ⟨⟨0, 0⟩, .rw, 0x0, false⟩]⟩,
    ⟨0x3901, 1, 1, [⟨⟨5, 1⟩, .rw, 0xA, false⟩, ⟨⟨0, 0⟩, .rw, 0x0, false⟩]⟩,
    ⟨0x3902, 1, 1, [⟨⟨13, 0⟩, .rw, 0x0, false⟩]⟩ ]

/-- Package region, outside the blocks below: its register map. -/
def pkgMap : List RegDesc := pkgMap0 ++ pkgMap1 ++ pkgMap2 ++ pkgMap3 ++ pkgMap4 ++ pkgMap5

/-- Tile control region: rows of its register map. -/
def tileMap : List RegDesc :=
  [ ⟨0x10, 8, 1, [⟨⟨23, 0⟩, .rw, 0x0, false⟩]⟩,
    ⟨0x20, 1, 1, [⟨⟨0, 0⟩, .rw, 0x0, false⟩]⟩,
    ⟨0x30, 4, 1, [⟨⟨5, 0⟩, .ro, 0x0, false⟩]⟩,
    ⟨0x34, 1, 1, [⟨⟨11, 0⟩, .ro, 0x0, false⟩]⟩,
    ⟨0x40, 1, 1, [⟨⟨4, 4⟩, .rw, 0x0, false⟩, ⟨⟨3, 3⟩, .rw, 0x0, false⟩, ⟨⟨2, 2⟩, .rw, 0x0, false⟩, ⟨⟨1, 1⟩, .rw, 0x0, false⟩, ⟨⟨0, 0⟩, .rw, 0x0, false⟩]⟩,
    ⟨0x41, 1, 1, [⟨⟨16, 16⟩, .ro, 0x0, false⟩, ⟨⟨15, 15⟩, .ro, 0x0, false⟩, ⟨⟨14, 0⟩, .ro, 0x0, false⟩]⟩,
    ⟨0x44, 4, 1, [⟨⟨15, 15⟩, .rw, 0x0, false⟩, ⟨⟨14, 0⟩, .rw, 0x0, false⟩]⟩,
    ⟨0x6E00, 1, 1, [⟨⟨23, 0⟩, .rw, 0x0, false⟩]⟩,
    ⟨0x6E01, 1, 1, [⟨⟨11, 0⟩, .rw, 0x0, false⟩]⟩,
    ⟨0x6E02, 1, 1, [⟨⟨13, 0⟩, .ro, 0x0, false⟩]⟩,
    ⟨0x6E03, 1, 1, [⟨⟨13, 0⟩, .ro, 0x0, false⟩]⟩,
    ⟨0x6E04, 1, 1, [⟨⟨13, 0⟩, .rw, 0x0, false⟩]⟩,
    ⟨0x6E05, 1, 1, [⟨⟨23, 0⟩, .ro, 0x0, false⟩]⟩,
    ⟨0x6E06, 1, 1, [⟨⟨23, 0⟩, .rc, 0x0, false⟩]⟩,
    ⟨0x6E07, 1, 1, [⟨⟨23, 0⟩, .rc, 0x0, false⟩]⟩,
    ⟨0x6E10, 1, 1, [⟨⟨23, 8⟩, .rw, 0x1, false⟩, ⟨⟨5, 1⟩, .rw, 0xC, false⟩, ⟨⟨0, 0⟩, .rw, 0x0, false⟩]⟩,
    ⟨0x6E11, 1, 1, [⟨⟨8, 0⟩, .ro, 0x0, false⟩]⟩,
    ⟨0x6E12, 4, 1, [⟨⟨23, 0⟩, .ro, 0x0, false⟩]⟩,
    ⟨0x6E16, 1, 1, [⟨⟨23, 0⟩, .rc, 0x0, false⟩]⟩,
    ⟨0x7000, 1, 1, [⟨⟨4, 4⟩, .rw, 0x0, false⟩, ⟨⟨3, 3⟩, .rw, 0x0, false⟩, ⟨⟨1, 1⟩, .rw, 0x0, false⟩, ⟨⟨0, 0⟩, .rw, 0x0, false⟩]⟩,
    ⟨0x7008, 8, 1, [⟨⟨23, 23⟩, .rw, 0x0, false⟩, ⟨⟨22, 20⟩, .rw, 0x0, false⟩, ⟨⟨7, 4⟩, .rw, 0x0, false⟩, ⟨⟨3, 0⟩, .rw, 0x0, false⟩]⟩,
    ⟨0x7010, 1, 1, [⟨⟨23, 22⟩, .rw, 0x3, false⟩, ⟨⟨21, 19⟩, .rw, 0x0, false⟩, ⟨⟨18, 16⟩, .rw, 0x0, false⟩, ⟨⟨8, 0⟩, .rw, 0x0, false⟩]⟩,
    ⟨0x7011, 1, 1, [⟨⟨23, 0⟩, .rw, 0x0, false⟩]⟩,
    ⟨0x7012, 1, 1, [⟨⟨15, 0⟩, .rw, 0x0, false⟩]⟩,
    ⟨0x7013, 1, 1, [⟨⟨3, 3⟩, .ro, 0x0, false⟩, ⟨⟨2, 2⟩, .ro, 0x0, false⟩, ⟨⟨1, 1⟩, .ro, 0x0, false⟩, ⟨⟨0, 0⟩, .ro, 0x0, false⟩]⟩,
    ⟨0x7014, 1, 1, [⟨⟨23, 0⟩, .ro, 0x0, false⟩]⟩,
    ⟨0x7015, 1, 1, [⟨⟨23, 0⟩, .ro, 0x0, false⟩]⟩,
    ⟨0x7016, 1, 1, [⟨⟨23, 0⟩, .rw, 0x0, false⟩]⟩,
    ⟨0x7018, 9, 1, [⟨⟨23, 0⟩, .ro, 0x0, false⟩]⟩ ]

/-- Port block: rows of its register map, part 0. -/
def portMap0 : List RegDesc :=
  [ ⟨0x0, 1, 1, [⟨⟨4, 4⟩, .rw, 0x0, false⟩, ⟨⟨2, 0⟩, .rw, 0x0, true⟩]⟩,
    ⟨0x1, 1, 1, [⟨⟨14, 13⟩, .ro, 0x0, false⟩, ⟨⟨12, 12⟩, .ro, 0x0, false⟩, ⟨⟨11, 11⟩, .ro, 0x0, false⟩, ⟨⟨10, 10⟩, .ro, 0x0, false⟩, ⟨⟨9, 9⟩, .ro, 0x0, false⟩, ⟨⟨8, 8⟩, .w1c, 0x0, false⟩, ⟨⟨7, 0⟩, .ro, 0x0, false⟩]⟩,
    ⟨0x2, 1, 1, [⟨⟨11, 11⟩, .rw, 0x0, true⟩, ⟨⟨10, 10⟩, .rw, 0x0, true⟩, ⟨⟨9, 9⟩, .rw, 0x0, true⟩, ⟨⟨7, 6⟩, .rw, 0x0, true⟩, ⟨⟨3, 0⟩, .rw, 0x1, true⟩]⟩,
    ⟨0x3, 1, 1, [⟨⟨17, 0⟩, .rw, 0x0, true⟩]⟩,
    ⟨0x4, 1, 1, [⟨⟨7, 0⟩, .rw, 0x0, true⟩]⟩,
    ⟨0x5, 1, 1, [⟨⟨9, 6⟩, .rw, 0xA, false⟩, ⟨⟨5, 5⟩, .rw, 0x1, false⟩, ⟨⟨4, 4⟩, .rw, 0x0, false⟩, ⟨⟨3, 3⟩, .rw, 0x0, false⟩, ⟨⟨2, 2⟩, .rw, 0x1, false⟩, ⟨⟨1, 1⟩, .rw, 0x1, false⟩, ⟨⟨0, 0⟩, .rw, 0x0, false⟩]⟩,
    ⟨0x6, 1, 1, [⟨⟨15, 0⟩, .rw, 0x0, false⟩]⟩,
    ⟨0x7, 1, 1, [⟨⟨23, 0⟩, .rw, 0x400000, false⟩]⟩,
    ⟨0x8, 1, 1, [⟨⟨15, 0⟩, .rw, 0x0, false⟩]⟩,
    ⟨0x9, 1, 1, [⟨⟨23, 0⟩, .rw, 0x400000, false⟩]⟩,
    ⟨0xA, 1, 1, [⟨⟨23, 12⟩, .rw, 0x0, false⟩, ⟨⟨11, 0⟩, .rw, 0x0, false⟩]⟩,
    ⟨0xB, 1, 1, [⟨⟨23, 12⟩, .rw, 0x0, false⟩, ⟨⟨11, 0⟩, .rw, 0x0, false⟩]⟩,
    ⟨0xC, 1, 1, [⟨⟨20, 15⟩, .rw, 0x5, true⟩, ⟨⟨14, 0⟩, .rw, 0x0, true⟩]⟩,
    ⟨0x10, 1, 1, [⟨⟨23, 0⟩, .ro, 0x0, false⟩]⟩,
    ⟨0x11, 1, 1, [⟨⟨23, 0⟩, .ro, 0x0, false⟩]⟩,
    ⟨0x12, 1, 1, [⟨⟨23, 0⟩, .ro, 0x0, false⟩]⟩,
    ⟨0x13, 1, 1, [⟨⟨23, 0⟩, .rc, 0x0, false⟩]⟩,
    ⟨0x14, 1, 1, [⟨⟨23, 0⟩, .rc, 0x0, false⟩]⟩,
    ⟨0x20, 1, 1, [⟨⟨7, 4⟩, .rw, 0x7, false⟩, ⟨⟨2, 0⟩, .rw, 0x1, false⟩]⟩,
    ⟨0x21, 1, 1, [⟨⟨23, 0⟩, .rw, 0x4E20, false⟩]⟩,
    ⟨0x22, 1, 1, [⟨⟨23, 0⟩, .ro, 0x0, false⟩]⟩,
    ⟨0x23, 1, 1, [⟨⟨23, 0⟩, .ro, 0x0, false⟩]⟩,
    ⟨0x40, 1, 1, [⟨⟨23, 21⟩, .rw, 0x0, true⟩, ⟨⟨20, 18⟩, .rw, 0x0, true⟩, ⟨⟨17, 14⟩, .rw, 0x0, true⟩, ⟨⟨13, 7⟩, .rw, 0x0, true⟩, ⟨⟨6, 4⟩, .rw, 0x0, true⟩, ⟨⟨0, 0⟩, .rw, 0x0, true⟩]⟩,
    ⟨0x41, 1, 1, [⟨⟨15, 0⟩, .rw, 0x0, true⟩]⟩,
    ⟨0x42, 1, 1, [⟨⟨23, 0⟩, .ro, 0x0, false⟩]⟩,
    ⟨0x43, 1, 1, [⟨⟨23, 0⟩, .ro, 0x0, false⟩]⟩,
    ⟨0x44, 1, 1, [⟨⟨23, 0⟩, .rc, 0xFFFFFF, false⟩]⟩,
    ⟨0x45, 1, 1, [⟨⟨23, 0⟩, .rc, 0x0, false⟩]⟩,
    ⟨0x46, 1, 1, [⟨⟨23, 0⟩, .rc, 0x0, false⟩]⟩,
    ⟨0x47, 1, 1, [⟨⟨23, 0⟩, .ro, 0x0, false⟩]⟩,
    ⟨0x50, 1, 1, [⟨⟨7, 3⟩, .rw, 0x14, true⟩, ⟨⟨1, 1⟩, .rw, 0x0, true⟩, ⟨⟨0, 0⟩, .rw, 0x1, true⟩]⟩,
    ⟨0x51, 1, 1, [⟨⟨0, 0⟩, .rw, 0x0, false⟩]⟩,
    ⟨0x52, 1, 1, [⟨⟨13, 13⟩, .ro, 0x0, false⟩, ⟨⟨12, 12⟩, .ro, 0x0, false⟩, ⟨⟨11, 9⟩, .ro, 0x0, false⟩, ⟨⟨7, 4⟩, .ro, 0x0, false⟩, ⟨⟨2, 0⟩, .ro, 0x0, false⟩]⟩,
    ⟨0x53, 1, 1, [⟨⟨23, 0⟩, .rw, 0x0, true⟩]⟩,
    ⟨0x54, 1, 1, [⟨⟨23, 0⟩, .rw, 0x0, true⟩]⟩,
    ⟨0x55, 1, 1, [⟨⟨23, 0⟩, .rw, 0x0, true⟩]⟩,
    ⟨0x56, 1, 1, [⟨⟨23, 0⟩, .rw, 0xFA0, true⟩]⟩,
    ⟨0x57, 1, 1, [⟨⟨23, 0⟩, .rw, 0x10000, true⟩]⟩,
    ⟨0x58, 1, 1, [⟨⟨23, 0⟩, .rw, 0x0, true⟩]⟩,
    ⟨0x59, 1, 1, [⟨⟨23, 20⟩, .rw, 0x3, true⟩, ⟨⟨19, 12⟩, .rw, 0x64, true⟩, ⟨⟨11, 4⟩, .rw, 0x64, true⟩, ⟨⟨3, 0⟩, .rw, 0x6, true⟩]⟩ ]

/-- Port block: rows of its register map, part 1. -/
def portMap1 : List RegDesc :=
  [ ⟨0x5A, 1, 1, [⟨⟨23, 0⟩, .ro, 0x0, false⟩]⟩,
    ⟨0x5B, 1, 1, [⟨⟨23, 0⟩, .rc, 0x0, false⟩]⟩,
    ⟨0x60, 8, 1, [⟨⟨23, 0⟩, .rw, 0x7FFFFF, true⟩]⟩,
    ⟨0x68, 8, 1, [⟨⟨23, 0⟩, .rw, 0x1, true⟩]⟩,
    ⟨0x70, 1, 1, [⟨⟨0, 0⟩, .rw, 0x1, true⟩]⟩,
    ⟨0x71, 1, 1, [⟨⟨2, 2⟩, .w1c, 0x0, false⟩, ⟨⟨1, 0⟩, .ro, 0x0, false⟩]⟩,
    ⟨0x72, 1, 1, [⟨⟨23, 0⟩, .rw, 0x7FFFFF, true⟩]⟩,
    ⟨0x73, 1, 1, [⟨⟨23, 0⟩, .rw, 0x0, true⟩]⟩,
    ⟨0x74, 1, 1, [⟨⟨23, 0⟩, .rw, 0x0, true⟩]⟩,
    ⟨0x75, 1, 1, [⟨⟨23, 0⟩, .rw, 0x10000, true⟩]⟩,
    ⟨0x76, 1, 1, [⟨⟨23, 0⟩, .rw, 0x0, true⟩]⟩,
    ⟨0x80, 1, 1, [⟨⟨23, 0⟩, .wt, 0x0, false⟩]⟩,
    ⟨0x81, 1, 1, [⟨⟨17, 0⟩, .wt, 0x0, false⟩]⟩,
    ⟨0x82, 1, 1, [⟨⟨23, 0⟩, .wt, 0x0, false⟩]⟩,
    ⟨0x83, 1, 1, [⟨⟨23, 0⟩, .wt, 0x0, false⟩]⟩,
    ⟨0x84, 1, 1, [⟨⟨23, 0⟩, .wt, 0x0, false⟩]⟩,
    ⟨0x85, 1, 1, [⟨⟨23, 0⟩, .wt, 0x0, false⟩]⟩,
    ⟨0x86, 1, 1, [⟨⟨23, 0⟩, .wt, 0x0, false⟩]⟩,
    ⟨0x87, 1, 1, [⟨⟨11, 7⟩, .ro, 0x0, false⟩, ⟨⟨5, 5⟩, .wt, 0x0, false⟩, ⟨⟨4, 0⟩, .wt, 0x0, false⟩]⟩,
    ⟨0x88, 1, 1, [⟨⟨5, 3⟩, .ro, 0x0, false⟩, ⟨⟨2, 2⟩, .ro, 0x0, false⟩, ⟨⟨1, 1⟩, .ro, 0x0, false⟩, ⟨⟨0, 0⟩, .ro, 0x0, false⟩]⟩,
    ⟨0x89, 1, 1, [⟨⟨23, 0⟩, .ro, 0x0, false⟩]⟩,
    ⟨0x90, 1, 1, [⟨⟨8, 8⟩, .ro, 0x0, true⟩, ⟨⟨3, 3⟩, .rw, 0x0, true⟩, ⟨⟨2, 0⟩, .rw, 0x0, true⟩]⟩,
    ⟨0xA0, 1, 1, [⟨⟨23, 0⟩, .rw, 0x0, true⟩]⟩,
    ⟨0xA1, 1, 1, [⟨⟨23, 0⟩, .rw, 0x0, true⟩]⟩,
    ⟨0xA2, 1, 1, [⟨⟨23, 0⟩, .rw, 0x0, true⟩]⟩,
    ⟨0xA3, 1, 1, [⟨⟨23, 0⟩, .rw, 0x0, true⟩]⟩,
    ⟨0xB0, 1, 1, [⟨⟨1, 1⟩, .rw, 0x0, true⟩, ⟨⟨0, 0⟩, .rw, 0x0, true⟩]⟩,
    ⟨0xB1, 1, 1, [⟨⟨1, 1⟩, .ro, 0x0, false⟩, ⟨⟨0, 0⟩, .ro, 0x1, false⟩]⟩,
    ⟨0xB2, 1, 1, [⟨⟨23, 0⟩, .ro, 0x0, false⟩]⟩,
    ⟨0xB3, 1, 1, [⟨⟨23, 0⟩, .ro, 0x0, false⟩]⟩,
    ⟨0xB4, 1, 1, [⟨⟨23, 0⟩, .ro, 0x0, false⟩]⟩,
    ⟨0xB5, 1, 1, [⟨⟨23, 0⟩, .ro, 0x0, false⟩]⟩,
    ⟨0xB6, 1, 1, [⟨⟨23, 0⟩, .ro, 0x0, false⟩]⟩ ]

/-- Port block: its register map. -/
def portMap : List RegDesc := portMap0 ++ portMap1

/-- Lane block: rows of its register map. -/
def laneMap : List RegDesc :=
  [ ⟨0x0, 1, 1, [⟨⟨1, 1⟩, .rw, 0x0, false⟩, ⟨⟨0, 0⟩, .rw, 0x0, false⟩]⟩,
    ⟨0x1, 1, 1, [⟨⟨11, 8⟩, .ro, 0x0, false⟩, ⟨⟨7, 7⟩, .w1c, 0x0, false⟩, ⟨⟨6, 6⟩, .ro, 0x0, false⟩, ⟨⟨5, 5⟩, .w1c, 0x0, false⟩, ⟨⟨4, 4⟩, .w1c, 0x0, false⟩, ⟨⟨3, 3⟩, .ro, 0x0, false⟩, ⟨⟨2, 2⟩, .ro, 0x0, false⟩, ⟨⟨1, 1⟩, .ro, 0x0, false⟩, ⟨⟨0, 0⟩, .ro, 0x0, false⟩]⟩,
    ⟨0x2, 1, 1, [⟨⟨15, 0⟩, .ro, 0x0, false⟩]⟩,
    ⟨0x3, 1, 1, [⟨⟨15, 0⟩, .ro, 0x0, false⟩]⟩,
    ⟨0x4, 1, 1, [⟨⟨15, 0⟩, .ro, 0x0, false⟩]⟩,
    ⟨0x5, 1, 1, [⟨⟨15, 0⟩, .rc, 0x0, false⟩]⟩,
    ⟨0x6, 1, 1, [⟨⟨11, 0⟩, .rw, 0x0, false⟩]⟩,
    ⟨0x7, 1, 1, [⟨⟨23, 0⟩, .rw, 0x0, false⟩]⟩,
    ⟨0x8, 1, 1, [⟨⟨23, 0⟩, .rw, 0x0, false⟩]⟩,
    ⟨0x9, 1, 1, [⟨⟨15, 0⟩, .rw, 0x0, false⟩]⟩,
    ⟨0xA, 1, 1, [⟨⟨0, 0⟩, .rw, 0x0, false⟩]⟩,
    ⟨0x10, 1, 1, [⟨⟨17, 17⟩, .rw, 0x0, false⟩, ⟨⟨16, 5⟩, .rw, 0x0, false⟩, ⟨⟨3, 3⟩, .rw, 0x0, false⟩, ⟨⟨2, 2⟩, .rw, 0x0, false⟩, ⟨⟨1, 1⟩, .rw, 0x0, false⟩, ⟨⟨0, 0⟩, .rw, 0x0, false⟩]⟩,
    ⟨0x11, 1, 1, [⟨⟨13, 13⟩, .ro, 0x0, false⟩, ⟨⟨12, 12⟩, .ro, 0x0, false⟩, ⟨⟨11, 0⟩, .ro, 0x0, false⟩]⟩ ]

/-- Rail block: rows of its register map. -/
def railMap : List RegDesc :=
  [ ⟨0x0, 1, 1, [⟨⟨16, 13⟩, .rw, 0xA, false⟩, ⟨⟨12, 12⟩, .rw, 0x1, false⟩, ⟨⟨11, 11⟩, .rw, 0x1, false⟩, ⟨⟨10, 10⟩, .rw, 0x0, false⟩, ⟨⟨9, 9⟩, .rw, 0x1, false⟩, ⟨⟨8, 6⟩, .rw, 0x0, false⟩, ⟨⟨2, 0⟩, .rw, 0x0, false⟩]⟩,
    ⟨0x1, 1, 1, [⟨⟨14, 8⟩, .rw, 0x0, false⟩, ⟨⟨6, 0⟩, .rw, 0x0, false⟩]⟩,
    ⟨0x2, 1, 1, [⟨⟨15, 15⟩, .ro, 0x0, false⟩, ⟨⟨14, 14⟩, .w1c, 0x0, false⟩, ⟨⟨13, 13⟩, .w1c, 0x0, false⟩, ⟨⟨12, 12⟩, .w1c, 0x0, false⟩, ⟨⟨11, 11⟩, .ro, 0x0, false⟩, ⟨⟨10, 10⟩, .ro, 0x0, false⟩, ⟨⟨9, 9⟩, .ro, 0x0, false⟩, ⟨⟨8, 8⟩, .ro, 0x0, false⟩, ⟨⟨6, 0⟩, .ro, 0x0, false⟩]⟩,
    ⟨0x3, 1, 1, [⟨⟨23, 18⟩, .ro, 0x0, false⟩, ⟨⟨17, 0⟩, .ro, 0x0, false⟩]⟩,
    ⟨0x4, 1, 1, [⟨⟨23, 0⟩, .rw, 0x0, false⟩]⟩,
    ⟨0x5, 1, 1, [⟨⟨23, 0⟩, .rw, 0x0, false⟩]⟩,
    ⟨0x6, 1, 1, [⟨⟨23, 0⟩, .rw, 0x0, false⟩]⟩,
    ⟨0x7, 1, 1, [⟨⟨23, 0⟩, .rw, 0x0, false⟩]⟩,
    ⟨0x8, 1, 1, [⟨⟨23, 0⟩, .rw, 0x0, false⟩]⟩,
    ⟨0x9, 1, 1, [⟨⟨7, 0⟩, .rw, 0x0, false⟩]⟩,
    ⟨0xA, 1, 1, [⟨⟨23, 0⟩, .ro, 0x0, false⟩]⟩,
    ⟨0xB, 1, 1, [⟨⟨23, 0⟩, .ro, 0x0, false⟩]⟩,
    ⟨0xC, 1, 1, [⟨⟨23, 0⟩, .ro, 0x0, false⟩]⟩,
    ⟨0xD, 1, 1, [⟨⟨23, 0⟩, .ro, 0x0, false⟩]⟩,
    ⟨0xE, 1, 1, [⟨⟨23, 0⟩, .ro, 0x0, false⟩]⟩,
    ⟨0xF, 1, 1, [⟨⟨7, 0⟩, .ro, 0x0, false⟩]⟩,
    ⟨0x10, 1, 1, [⟨⟨23, 0⟩, .rw, 0x7FFFFF, false⟩]⟩,
    ⟨0x11, 1, 1, [⟨⟨23, 0⟩, .rw, 0x800000, false⟩]⟩,
    ⟨0x12, 1, 1, [⟨⟨23, 0⟩, .rw, 0x7FFFFF, false⟩]⟩,
    ⟨0x13, 1, 1, [⟨⟨23, 0⟩, .rw, 0x800000, false⟩]⟩,
    ⟨0x14, 1, 1, [⟨⟨23, 0⟩, .rw, 0x0, false⟩]⟩,
    ⟨0x15, 1, 1, [⟨⟨23, 0⟩, .rw, 0x0, false⟩]⟩,
    ⟨0x16, 1, 1, [⟨⟨7, 0⟩, .rw, 0x28, false⟩]⟩,
    ⟨0x18, 4, 1, [⟨⟨23, 0⟩, .rw, 0x7FFFFF, false⟩]⟩,
    ⟨0x1C, 1, 1, [⟨⟨19, 15⟩, .rw, 0x0, false⟩, ⟨⟨14, 10⟩, .rw, 0x0, false⟩, ⟨⟨9, 5⟩, .rw, 0x0, false⟩, ⟨⟨4, 0⟩, .rw, 0x0, false⟩]⟩,
    ⟨0x1D, 1, 1, [⟨⟨23, 0⟩, .rw, 0x7FFFFF, false⟩]⟩,
    ⟨0x1E, 1, 1, [⟨⟨23, 0⟩, .ro, 0x7FFFFF, false⟩]⟩,
    ⟨0x1F, 1, 1, [⟨⟨23, 0⟩, .ro, 0x7FFFFF, false⟩]⟩,
    ⟨0x20, 1, 1, [⟨⟨4, 0⟩, .rw, 0x8, false⟩]⟩,
    ⟨0x21, 1, 1, [⟨⟨23, 0⟩, .ro, 0x0, false⟩]⟩,
    ⟨0x22, 1, 1, [⟨⟨23, 0⟩, .ro, 0x0, false⟩]⟩,
    ⟨0x23, 1, 1, [⟨⟨23, 0⟩, .ro, 0x0, false⟩]⟩,
    ⟨0x24, 1, 1, [⟨⟨23, 0⟩, .ro, 0x0, false⟩]⟩,
    ⟨0x25, 1, 1, [⟨⟨23, 0⟩, .rc, 0x800000, false⟩]⟩,
    ⟨0x26, 1, 1, [⟨⟨23, 0⟩, .rc, 0x7FFFFF, false⟩]⟩,
    ⟨0x27, 1, 1, [⟨⟨23, 0⟩, .rc, 0x800000, false⟩]⟩,
    ⟨0x28, 1, 1, [⟨⟨23, 0⟩, .rc, 0x800000, false⟩]⟩,
    ⟨0x29, 1, 1, [⟨⟨23, 0⟩, .rc, 0x800000, false⟩]⟩ ]

/-- String block: rows of its register map. -/
def stringMap : List RegDesc :=
  [ ⟨0x0, 1, 1, [⟨⟨23, 16⟩, .rw, 0x1, false⟩, ⟨⟨14, 14⟩, .rw, 0x1, false⟩, ⟨⟨13, 13⟩, .rw, 0x0, false⟩, ⟨⟨12, 11⟩, .rw, 0x0, false⟩, ⟨⟨7, 7⟩, .rw, 0x0, false⟩, ⟨⟨6, 0⟩, .rw, 0x0, false⟩]⟩,
    ⟨0x1, 1, 1, [⟨⟨9, 9⟩, .ro, 0x0, false⟩, ⟨⟨8, 8⟩, .ro, 0x0, false⟩, ⟨⟨7, 7⟩, .ro, 0x0, false⟩, ⟨⟨6, 6⟩, .ro, 0x0, false⟩, ⟨⟨5, 5⟩, .ro, 0x0, false⟩, ⟨⟨4, 4⟩, .ro, 0x0, false⟩, ⟨⟨3, 3⟩, .ro, 0x0, false⟩, ⟨⟨2, 2⟩, .ro, 0x0, false⟩]⟩,
    ⟨0x2, 1, 1, [⟨⟨23, 0⟩, .ro, 0x0, false⟩]⟩,
    ⟨0x3, 1, 1, [⟨⟨23, 0⟩, .rw, 0x0, false⟩]⟩,
    ⟨0x4, 1, 1, [⟨⟨23, 0⟩, .rw, 0x0, false⟩]⟩,
    ⟨0x5, 1, 1, [⟨⟨23, 0⟩, .rw, 0x0, false⟩]⟩,
    ⟨0x6, 1, 1, [⟨⟨23, 0⟩, .rw, 0x0, false⟩]⟩,
    ⟨0x7, 1, 1, [⟨⟨23, 0⟩, .rw, 0x0, false⟩]⟩,
    ⟨0x8, 1, 1, [⟨⟨23, 0⟩, .rw, 0x7FFFFF, false⟩]⟩,
    ⟨0x9, 1, 1, [⟨⟨23, 0⟩, .rw, 0x7FFFFF, false⟩]⟩,
    ⟨0xA, 1, 1, [⟨⟨23, 0⟩, .rw, 0x0, false⟩]⟩,
    ⟨0xB, 1, 1, [⟨⟨23, 0⟩, .rw, 0x0, false⟩]⟩,
    ⟨0xC, 1, 1, [⟨⟨23, 0⟩, .rw, 0x7FFFFF, false⟩]⟩,
    ⟨0xD, 1, 1, [⟨⟨23, 0⟩, .rw, 0x0, false⟩]⟩,
    ⟨0xE, 1, 1, [⟨⟨23, 0⟩, .rw, 0x0, false⟩]⟩,
    ⟨0xF, 1, 1, [⟨⟨23, 0⟩, .rw, 0x733333, false⟩]⟩,
    ⟨0x10, 1, 1, [⟨⟨23, 0⟩, .rw, 0x0, false⟩]⟩,
    ⟨0x11, 1, 1, [⟨⟨23, 0⟩, .rw, 0x0, false⟩]⟩,
    ⟨0x12, 1, 1, [⟨⟨23, 0⟩, .rw, 0x0, false⟩]⟩,
    ⟨0x13, 1, 1, [⟨⟨23, 0⟩, .rw, 0x7FFFFF, false⟩]⟩,
    ⟨0x14, 1, 1, [⟨⟨23, 0⟩, .rw, 0x0, false⟩]⟩,
    ⟨0x15, 1, 1, [⟨⟨23, 0⟩, .rw, 0x0, false⟩]⟩,
    ⟨0x16, 1, 1, [⟨⟨23, 0⟩, .rw, 0x708, false⟩]⟩,
    ⟨0x17, 1, 1, [⟨⟨23, 16⟩, .rw, 0x14, false⟩, ⟨⟨15, 0⟩, .rw, 0x78, false⟩]⟩,
    ⟨0x18, 1, 1, [⟨⟨23, 16⟩, .rw, 0x14, false⟩, ⟨⟨15, 0⟩, .rw, 0x78, false⟩]⟩,
    ⟨0x19, 1, 1, [⟨⟨23, 0⟩, .ro, 0x0, false⟩]⟩,
    ⟨0x1A, 1, 1, [⟨⟨23, 0⟩, .ro, 0x0, false⟩]⟩,
    ⟨0x1B, 1, 1, [⟨⟨23, 0⟩, .ro, 0x0, false⟩]⟩ ]

/-- BAT_OCV block: rows of its register map. -/
def chemMap : List RegDesc :=
  [ ⟨0x0, 33, 1, [⟨⟨23, 0⟩, .rw, 0x0, false⟩]⟩ ]

/-- Link block: rows of its register map. -/
def linkMap : List RegDesc :=
  [ ⟨0x0, 1, 1, [⟨⟨7, 7⟩, .ro, 0x0, false⟩, ⟨⟨6, 4⟩, .ro, 0x0, false⟩]⟩,
    ⟨0x1, 1, 1, [⟨⟨23, 0⟩, .ro, 0x0, false⟩]⟩,
    ⟨0x2, 1, 1, [⟨⟨23, 0⟩, .rw, 0x0, false⟩]⟩,
    ⟨0x3, 1, 1, [⟨⟨23, 0⟩, .ro, 0x0, false⟩]⟩,
    ⟨0x4, 1, 1, [⟨⟨23, 0⟩, .rc, 0x0, false⟩]⟩,
    ⟨0x5, 1, 1, [⟨⟨5, 0⟩, .ro, 0x0, false⟩]⟩ ]

/-- Cap entry block: rows of its register map. -/
def entryMap : List RegDesc :=
  [ ⟨0x0, 1, 1, [⟨⟨7, 0⟩, .rw, 0x0, false⟩]⟩,
    ⟨0x10, 16, 1, [⟨⟨23, 0⟩, .rw, 0x7FFFFF, false⟩]⟩ ]

/-- Path block: rows of its register map. -/
def pathMap : List RegDesc :=
  [ ⟨0x0, 1, 1, [⟨⟨9, 2⟩, .ro, 0x0, false⟩, ⟨⟨1, 1⟩, .ro, 0x0, false⟩, ⟨⟨0, 0⟩, .ro, 0x0, false⟩]⟩,
    ⟨0x1, 1, 1, [⟨⟨23, 0⟩, .rc, 0x0, false⟩]⟩,
    ⟨0x2, 1, 1, [⟨⟨23, 0⟩, .rc, 0x0, false⟩]⟩,
    ⟨0x3, 1, 1, [⟨⟨23, 0⟩, .rc, 0x0, false⟩]⟩,
    ⟨0x4, 1, 1, [⟨⟨23, 0⟩, .rc, 0x0, false⟩]⟩,
    ⟨0x5, 1, 1, [⟨⟨23, 0⟩, .ro, 0x0, false⟩]⟩,
    ⟨0x6, 1, 1, [⟨⟨23, 0⟩, .rc, 0x0, false⟩]⟩ ]

/-- Two-wire bus block: rows of its register map. -/
def busMap : List RegDesc :=
  [ ⟨0x0, 1, 1, [⟨⟨23, 19⟩, .rw, 0x17, false⟩, ⟨⟨18, 16⟩, .rw, 0x3, false⟩, ⟨⟨7, 7⟩, .rw, 0x1, false⟩, ⟨⟨6, 6⟩, .rw, 0x0, false⟩, ⟨⟨5, 5⟩, .rw, 0x0, false⟩, ⟨⟨3, 2⟩, .rw, 0x0, false⟩, ⟨⟨1, 0⟩, .rw, 0x0, false⟩]⟩,
    ⟨0x1, 1, 1, [⟨⟨6, 0⟩, .rw, 0x40, false⟩]⟩,
    ⟨0x2, 1, 1, [⟨⟨23, 12⟩, .rw, 0x1F4, false⟩, ⟨⟨11, 0⟩, .rw, 0x1F4, false⟩]⟩,
    ⟨0x3, 1, 1, [⟨⟨23, 12⟩, .rw, 0x190, false⟩, ⟨⟨11, 0⟩, .rw, 0x1D6, false⟩]⟩,
    ⟨0x4, 1, 1, [⟨⟨23, 12⟩, .rw, 0x1D6, false⟩, ⟨⟨11, 0⟩, .rw, 0x190, false⟩]⟩,
    ⟨0x5, 1, 1, [⟨⟨15, 8⟩, .rw, 0x1E, false⟩, ⟨⟨7, 0⟩, .rw, 0x19, false⟩]⟩,
    ⟨0x6, 1, 1, [⟨⟨23, 16⟩, .ro, 0x0, false⟩, ⟨⟨7, 7⟩, .ro, 0x0, false⟩, ⟨⟨6, 6⟩, .ro, 0x0, false⟩, ⟨⟨5, 5⟩, .w1c, 0x0, false⟩, ⟨⟨4, 4⟩, .ro, 0x0, false⟩, ⟨⟨3, 3⟩, .ro, 0x0, false⟩, ⟨⟨2, 2⟩, .w1c, 0x0, false⟩]⟩,
    ⟨0x7, 1, 1, [⟨⟨23, 12⟩, .rc, 0x0, false⟩, ⟨⟨11, 0⟩, .rc, 0x0, false⟩]⟩,
    ⟨0x8, 1, 1, [⟨⟨23, 23⟩, .rw, 0x0, false⟩, ⟨⟨22, 22⟩, .rw, 0x0, false⟩, ⟨⟨21, 21⟩, .rw, 0x1, false⟩, ⟨⟨20, 14⟩, .rw, 0x0, false⟩, ⟨⟨13, 7⟩, .rw, 0x0, false⟩, ⟨⟨6, 0⟩, .rw, 0x0, false⟩]⟩,
    ⟨0x9, 1, 1, [⟨⟨11, 6⟩, .ro, 0x0, false⟩, ⟨⟨3, 0⟩, .ro, 0x0, false⟩]⟩,
    ⟨0xA, 1, 1, [⟨⟨7, 4⟩, .rw, 0x0, false⟩, ⟨⟨2, 2⟩, .rw, 0x1, false⟩, ⟨⟨1, 0⟩, .rw, 0x2, false⟩]⟩,
    ⟨0xB, 1, 1, [⟨⟨7, 0⟩, .w1c, 0x0, false⟩]⟩,
    ⟨0xC, 1, 1, [⟨⟨23, 0⟩, .rc, 0x0, false⟩]⟩,
    ⟨0xD, 1, 1, [⟨⟨23, 0⟩, .rc, 0x0, false⟩]⟩,
    ⟨0x10, 21, 1, [⟨⟨23, 0⟩, .rw, 0x0, false⟩]⟩ ]

/-- TWB_ALERT of buses 1 to 3, where PIN is reserved. -/
def alertDesc : RegDesc := ⟨0xA, 1, 1, [⟨⟨7, 4⟩, .rw, 0x0, false⟩, ⟨⟨1, 0⟩, .rw, 0x2, false⟩]⟩

/-- Rail probe block: rows of its register map. -/
def probeMap : List RegDesc :=
  [ ⟨0x0, 1, 1, [⟨⟨23, 23⟩, .rw, 0x0, false⟩, ⟨⟨22, 22⟩, .rw, 0x0, false⟩, ⟨⟨21, 14⟩, .rw, 0x3C, false⟩, ⟨⟨13, 7⟩, .rw, 0x0, false⟩, ⟨⟨6, 0⟩, .rw, 0x8, false⟩]⟩,
    ⟨0x1, 1, 1, [⟨⟨23, 12⟩, .rw, 0x20, false⟩, ⟨⟨11, 0⟩, .rw, 0x10, false⟩]⟩,
    ⟨0x2, 1, 1, [⟨⟨23, 0⟩, .rw, 0x4000, false⟩]⟩,
    ⟨0x3, 1, 1, [⟨⟨23, 0⟩, .rc, 0x0, false⟩]⟩ ]

/-- Counter block: rows of its register map. -/
def prfMap : List RegDesc :=
  [ ⟨0x0, 8, 1, [⟨⟨8, 8⟩, .w1c, 0x0, false⟩, ⟨⟨7, 0⟩, .rw, 0x0, false⟩]⟩,
    ⟨0x10, 8, 2, [⟨⟨23, 0⟩, .rw, 0x0, false⟩]⟩,
    ⟨0x11, 8, 2, [⟨⟨23, 0⟩, .rw, 0x0, false⟩]⟩ ]

/-- FLT_CLS of a fault source (R361). -/
def fclsDesc : RegDesc := ⟨0, 1, 1, [⟨⟨23, 16⟩, .rw, 0x1, false⟩, ⟨⟨15, 15⟩, .rw, 0x0, false⟩, ⟨⟨13, 0⟩, .rw, 0x1, false⟩]⟩

/-- FLT_SRC of a fault source (R361). -/
def fsrcDesc : RegDesc := ⟨0, 1, 1, [⟨⟨23, 22⟩, .rw, 0x0, false⟩, ⟨⟨21, 21⟩, .rw, 0x0, false⟩, ⟨⟨20, 20⟩, .w1c, 0x0, false⟩, ⟨⟨15, 8⟩, .ro, 0x0, false⟩]⟩

/-- The register that a place holds, if the maps assign it one (R468 to R472). -/
def Loc.desc : Loc → Option RegDesc
  | .pkg o => pkgMap.find? (·.has o)
  | .tile n o => if n < 8 then tileMap.find? (·.has o) else none
  | .port p o => if p < 128 then portMap.find? (·.has o) else none
  | .lane l o => if l < 128 then laneMap.find? (·.has o) else none
  | .rail r o => if r < 16 then railMap.find? (·.has o) else none
  | .string s o => if s < 32 then stringMap.find? (·.has o) else none
  | .chem c o => if c < 4 then chemMap.find? (·.has o) else none
  | .link l o => if l < 6 then linkMap.find? (·.has o) else none
  | .entry e o => if e < 16 then entryMap.find? (·.has o) else none
  | .path p o => if p < 2 then pathMap.find? (·.has o) else none
  | .bus b o => if b = 0 ∨ o ≠ 0xA then (if b < 4 then busMap.find? (·.has o) else none) else if b < 4 then some alertDesc else none
  | .probe r o => if r < 16 then probeMap.find? (·.has o) else none
  | .pprf b o => if b < 14 then prfMap.find? (·.has o) else none
  | .tprf n b o => if n < 8 ∧ b < 36 then prfMap.find? (·.has o) else none
  | .fcls x => if x < 3584 then some fclsDesc else none
  | .fsrc x => if x < 3584 then some fsrcDesc else none
  | .cram _ _ => some ⟨0, 1, 1, [⟨⟨23, 0⟩, .rw, 0, false⟩]⟩

/-- A hole: an address to which the maps assign no register (R468). -/
def isHole (a : Nat) : Bool :=
  match locate a with
  | none => true
  | some l => l.desc.isNone

/-! ### Names of the registers and of their fields -/

abbrev PKG_ID : Loc := .pkg 0x0
abbrev PKG_ID_PART : Fld := ⟨23, 8⟩
abbrev PKG_ID_TILES : Fld := ⟨7, 4⟩
abbrev PKG_ID_STEP : Fld := ⟨3, 0⟩
abbrev PKG_HOLE_CNT : Loc := .pkg 0x1
abbrev PKG_HOLE_LAST : Loc := .pkg 0x2
abbrev PKG_HOLE_LAST_VALID : Fld := ⟨23, 23⟩
abbrev PKG_HOLE_LAST_WRITE : Fld := ⟨22, 22⟩
abbrev PKG_HOLE_LAST_PORT : Fld := ⟨4, 0⟩
abbrev PKG_HOLE_ADDR : Loc := .pkg 0x3
abbrev PKG_HOLE_ADDR_ADDR : Fld := ⟨19, 0⟩
abbrev PKG_TILE_STAT : Loc := .pkg 0x40
abbrev PKG_TILE_STAT_FAB_ERR : Fld := ⟨15, 8⟩
abbrev PKG_TILE_STAT_RUN : Fld := ⟨7, 0⟩
abbrev PKG_TILE_RST : Loc := .pkg 0x41
abbrev PKG_TILE_RST_TILE : Fld := ⟨7, 1⟩
abbrev PKG_ORDER : Loc := .pkg 0x42
abbrev PKG_ORDER_SCALE : Fld := ⟨2, 0⟩
abbrev MER_CTL : Loc := .pkg 0x100
abbrev MER_CTL_SYNC_OUT_EN : Fld := ⟨5, 5⟩
abbrev MER_CTL_SYNC_DIV : Fld := ⟨4, 3⟩
abbrev MER_CTL_SRC : Fld := ⟨1, 0⟩
abbrev MER_PERIOD : Loc := .pkg 0x101
abbrev MER_PERIOD_N : Fld := ⟨16, 0⟩
abbrev MER_PERIOD_REQ : Loc := .pkg 0x102
abbrev MER_PERIOD_REQ_N : Fld := ⟨13, 0⟩
abbrev MER_RATE_CTL : Loc := .pkg 0x103
abbrev MER_RATE_CTL_WHEN : Fld := ⟨0, 0⟩
abbrev MER_RATE_AT_LO : Loc := .pkg 0x104
abbrev MER_RATE_AT_HI : Loc := .pkg 0x105
abbrev MER_BUDGET : Loc := .pkg 0x106
abbrev MER_BUDGET_B : Fld := ⟨13, 0⟩
abbrev MER_STAT : Loc := .pkg 0x107
abbrev MER_STAT_RATE_CANCEL : Fld := ⟨6, 6⟩
abbrev MER_STAT_RATE_LATE : Fld := ⟨5, 5⟩
abbrev MER_STAT_RATE_REFUSED : Fld := ⟨4, 4⟩
abbrev MER_STAT_RATE_PEND : Fld := ⟨3, 3⟩
abbrev MER_STAT_REF_OK : Fld := ⟨2, 2⟩
abbrev MER_STAT_LOCK : Fld := ⟨1, 0⟩
abbrev MER_COUNT_LO : Loc := .pkg 0x108
abbrev MER_COUNT_HI : Loc := .pkg 0x109
abbrev MER_SYNC_OFS : Loc := .pkg 0x10A
abbrev MER_SYNC_OFS_OFS : Fld := ⟨13, 0⟩
abbrev MER_TILE_DLY (i : Nat) : Loc := .pkg (0x110 + i)
abbrev MER_TILE_DLY_DLY : Fld := ⟨11, 0⟩
abbrev MER_OVR_CNT : Loc := .pkg 0x118
abbrev MER_OVR_LAST : Loc := .pkg 0x119
abbrev MER_OVR_LAST_VALID : Fld := ⟨7, 7⟩
abbrev MER_OVR_LAST_LANE : Fld := ⟨6, 0⟩
abbrev MER_REFUSE : Loc := .pkg 0x11A
abbrev MER_REFUSE_CAUSE : Fld := ⟨9, 8⟩
abbrev MER_REFUSE_LANE : Fld := ⟨6, 0⟩
abbrev LAN_SW_CTL : Loc := .pkg 0x200
abbrev LAN_SW_CTL_CANCEL : Fld := ⟨3, 3⟩
abbrev LAN_SW_CTL_STW : Fld := ⟨2, 2⟩
abbrev LAN_SW_CTL_WHEN : Fld := ⟨1, 1⟩
abbrev LAN_SW_CTL_SCHED : Fld := ⟨0, 0⟩
abbrev LAN_SW_AT_LO : Loc := .pkg 0x201
abbrev LAN_SW_AT_HI : Loc := .pkg 0x202
abbrev LAN_SW_STAT : Loc := .pkg 0x203
abbrev LAN_SW_STAT_CAUSE : Fld := ⟨17, 15⟩
abbrev LAN_SW_STAT_REFUSED : Fld := ⟨14, 14⟩
abbrev LAN_SW_STAT_CANCELLED : Fld := ⟨13, 13⟩
abbrev LAN_SW_STAT_LATE : Fld := ⟨12, 12⟩
abbrev LAN_SW_STAT_DONE : Fld := ⟨11, 11⟩
abbrev LAN_SW_STAT_PEND : Fld := ⟨10, 10⟩
abbrev LAN_SW_STAT_LANE : Fld := ⟨6, 0⟩
abbrev FUS_STG_CTL : Loc := .pkg 0x800
abbrev FUS_STG_CTL_SRC : Fld := ⟨9, 8⟩
abbrev FUS_STG_CTL_VAL : Fld := ⟨7, 0⟩
abbrev FUS_STG_STAT : Loc := .pkg 0x801
abbrev FUS_STG_STAT_RUNNING : Fld := ⟨12, 12⟩
abbrev FUS_STG_STAT_BASIS : Fld := ⟨11, 10⟩
abbrev FUS_STG_STAT_STEP : Fld := ⟨7, 0⟩
abbrev FUS_STG_ADDR : Loc := .pkg 0x802
abbrev FUS_STG_ADDR_VALID : Fld := ⟨14, 14⟩
abbrev FUS_STG_ADDR_ADDR : Fld := ⟨13, 0⟩
abbrev HLD_CTL : Loc := .pkg 0xF00
abbrev HLD_CTL_CAPENT2 : Fld := ⟨23, 20⟩
abbrev HLD_CTL_CAPENT1 : Fld := ⟨19, 16⟩
abbrev HLD_CTL_AVG : Fld := ⟨15, 11⟩
abbrev HLD_CTL_VCH : Fld := ⟨10, 10⟩
abbrev HLD_CTL_VPORT : Fld := ⟨9, 3⟩
abbrev HLD_CTL_EN : Fld := ⟨0, 0⟩
abbrev HLD_STAT : Loc := .pkg 0xF01
abbrev HLD_STAT_LOWCONF : Fld := ⟨7, 7⟩
abbrev HLD_STAT_BUSLOW : Fld := ⟨6, 6⟩
abbrev HLD_STAT_PFAIL : Fld := ⟨5, 5⟩
abbrev HLD_STAT_LEVEL : Fld := ⟨4, 3⟩
abbrev HLD_STAT_HOLD : Fld := ⟨0, 0⟩
abbrev HLD_VFS : Loc := .pkg 0xF02
abbrev HLD_CBUS : Loc := .pkg 0xF03
abbrev HLD_VMIN : Loc := .pkg 0xF04
abbrev HLD_VDIS : Loc := .pkg 0xF05
abbrev HLD_VREL : Loc := .pkg 0xF06
abbrev HLD_TREL : Loc := .pkg 0xF07
abbrev HLD_TREQ1 : Loc := .pkg 0xF08
abbrev HLD_TREQ2 : Loc := .pkg 0xF09
abbrev HLD_ETA : Loc := .pkg 0xF0A
abbrev HLD_PAUX : Loc := .pkg 0xF0B
abbrev HLD_RMASK : Loc := .pkg 0xF0C
abbrev HLD_RMASK_MASK : Fld := ⟨15, 0⟩
abbrev HLD_BMASK_LO : Loc := .pkg 0xF0D
abbrev HLD_BMASK_HI : Loc := .pkg 0xF0E
abbrev HLD_BMASK_HI_MASK : Fld := ⟨7, 0⟩
abbrev HLD_RSCALE (i : Nat) : Loc := .pkg (0xF10 + i)
abbrev HLD_VBUS : Loc := .pkg 0xF20
abbrev HLD_PLOAD : Loc := .pkg 0xF21
abbrev HLD_PBAT : Loc := .pkg 0xF22
abbrev HLD_ECAP : Loc := .pkg 0xF23
abbrev HLD_EBAT_LO : Loc := .pkg 0xF24
abbrev HLD_EBAT_HI : Loc := .pkg 0xF25
abbrev HLD_TRIDE_LO : Loc := .pkg 0xF26
abbrev HLD_TRIDE_HI : Loc := .pkg 0xF27
abbrev ENV_OTP_STAT : Loc := .pkg 0x1000
abbrev ENV_OTP_STAT_ERR : Fld := ⟨7, 6⟩
abbrev ENV_OTP_STAT_BLANK : Fld := ⟨5, 5⟩
abbrev ENV_OTP_STAT_LOCK : Fld := ⟨4, 4⟩
abbrev ENV_OTP_STAT_SEALED : Fld := ⟨3, 3⟩
abbrev ENV_OTP_STAT_GEN : Fld := ⟨1, 0⟩
abbrev ENV_OTP_ADDR : Loc := .pkg 0x1001
abbrev ENV_OTP_ADDR_ADDR : Fld := ⟨10, 0⟩
abbrev ENV_OTP_DATA : Loc := .pkg 0x1002
abbrev ENV_OTP_CMD : Loc := .pkg 0x1003
abbrev ENV_OTP_CMD_CONFIRM : Fld := ⟨23, 16⟩
abbrev ENV_OTP_CMD_LOCK : Fld := ⟨1, 1⟩
abbrev ENV_OTP_CMD_SEAL : Fld := ⟨0, 0⟩
abbrev TRP_CTL : Loc := .pkg 0x1400
abbrev TRP_CTL_THRU : Fld := ⟨18, 16⟩
abbrev TRP_CTL_AUTO_LINK : Fld := ⟨15, 15⟩
abbrev TRP_CTL_RESURVEY : Fld := ⟨14, 14⟩
abbrev TRP_CTL_DOWN : Fld := ⟨13, 8⟩
abbrev TRP_CTL_EN : Fld := ⟨5, 0⟩
abbrev TRP_STAT : Loc := .pkg 0x1401
abbrev TRP_STAT_ROLE : Fld := ⟨23, 22⟩
abbrev TRP_STAT_ALIGNED : Fld := ⟨21, 21⟩
abbrev TRP_STAT_SSTATE : Fld := ⟨15, 12⟩
abbrev TRP_ADDR : Loc := .pkg 0x1402
abbrev TRP_ADDR_EPOCH : Fld := ⟨23, 16⟩
abbrev TRP_ADDR_VALID : Fld := ⟨15, 15⟩
abbrev TRP_ADDR_ADDR : Fld := ⟨13, 0⟩
abbrev TRP_UID_LO : Loc := .pkg 0x1403
abbrev TRP_UID_HI : Loc := .pkg 0x1404
abbrev TRP_SYS : Loc := .pkg 0x1405
abbrev TRP_SYS_SYS_EPOCH : Fld := ⟨23, 16⟩
abbrev TRP_SYS_HOPS : Fld := ⟨7, 0⟩
abbrev TRP_SURVEY : Loc := .pkg 0x1406
abbrev TRP_SURVEY_DONE : Fld := ⟨23, 23⟩
abbrev TRP_SURVEY_RUN : Fld := ⟨22, 22⟩
abbrev TRP_SURVEY_GAP : Fld := ⟨21, 21⟩
abbrev TRP_SURVEY_MEMBERS : Fld := ⟨13, 0⟩
abbrev TRP_SURVEY_TIME : Loc := .pkg 0x1407
abbrev TRP_ALM_FOLD : Loc := .pkg 0x1408
abbrev TRP_DROP (i : Nat) : Loc := .pkg (0x1409 + i)
abbrev TRP_STALE_CNT : Loc := .pkg 0x140E
abbrev TRP_SHR_IN : Loc := .pkg 0x1410
abbrev TRP_SHR_IN_TILE : Fld := ⟨23, 21⟩
abbrev TRP_SHR_IN_EN : Fld := ⟨20, 20⟩
abbrev TRP_SHR_IN_BASE : Fld := ⟨15, 0⟩
abbrev TRP_SHR_OUT (i : Nat) : Loc := .pkg (0x1460 + i)
abbrev TRP_SHR_OUT_EN : Fld := ⟨23, 23⟩
abbrev TRP_SHR_OUT_SLOT : Fld := ⟨22, 19⟩
abbrev TRP_SHR_OUT_WORD : Fld := ⟨18, 16⟩
abbrev TRP_SHR_OUT_DEST : Fld := ⟨13, 0⟩
abbrev CAP_CTL : Loc := .pkg 0x1800
abbrev CAP_CTL_PIN_EN : Fld := ⟨0, 0⟩
abbrev CAP_ARM : Loc := .pkg 0x1801
abbrev CAP_ARM_ENT : Fld := ⟨3, 0⟩
abbrev CAP_LOCAL : Loc := .pkg 0x1802
abbrev CAP_LOCAL_MASK : Fld := ⟨15, 0⟩
abbrev CAP_SEQ : Loc := .pkg 0x1803
abbrev CAP_SEQ_SDLY : Fld := ⟨23, 16⟩
abbrev CAP_SEQ_SHED_SP : Fld := ⟨15, 8⟩
abbrev CAP_SEQ_REST_SP : Fld := ⟨7, 0⟩
abbrev CAP_STAT : Loc := .pkg 0x1804
abbrev CAP_STAT_HOLDUP : Fld := ⟨17, 17⟩
abbrev CAP_STAT_PIN : Fld := ⟨16, 16⟩
abbrev CAP_STAT_TGT : Fld := ⟨15, 8⟩
abbrev CAP_STAT_SHED : Fld := ⟨7, 0⟩
abbrev CAP_WV_MASK : Loc := .pkg 0x1805
abbrev CAP_WV_MASK_MASK : Fld := ⟨15, 0⟩
abbrev CAP_REQ : Loc := .pkg 0x1806
abbrev CAP_REQ_MASK : Fld := ⟨15, 0⟩
abbrev CAP_WV_LEAD : Loc := .pkg 0x1808
abbrev CAP_WV_LEAD_LEAD : Fld := ⟨7, 0⟩
abbrev CAP_WV_CMD : Loc := .pkg 0x1809
abbrev CAP_WV_CMD_OP : Fld := ⟨23, 22⟩
abbrev CAP_WV_CMD_ENT : Fld := ⟨21, 18⟩
abbrev CAP_WV_CMD_SEND : Fld := ⟨16, 16⟩
abbrev CAP_WV_CMD_MASK : Fld := ⟨15, 0⟩
abbrev CAP_WV_LAST : Loc := .pkg 0x180A
abbrev CAP_WV_LAST_OP : Fld := ⟨15, 14⟩
abbrev CAP_WV_LAST_LATE : Fld := ⟨13, 13⟩
abbrev CAP_WV_LAST_VALID : Fld := ⟨12, 12⟩
abbrev CAP_WV_LAST_WID : Fld := ⟨11, 0⟩
abbrev CAP_WV_LATE : Loc := .pkg 0x180B
abbrev CAP_WV_LCNT : Loc := .pkg 0x180C
abbrev CAP_WV_AT_LO : Loc := .pkg 0x180D
abbrev CAP_WV_AT_HI : Loc := .pkg 0x180E
abbrev MGT_CTL : Loc := .pkg 0x1C00
abbrev MGT_CTL_REVERT : Fld := ⟨23, 16⟩
abbrev MGT_CTL_PTP_EN : Fld := ⟨4, 4⟩
abbrev MGT_CTL_PREF : Fld := ⟨3, 3⟩
abbrev MGT_CTL_EN_B : Fld := ⟨1, 1⟩
abbrev MGT_CTL_EN_A : Fld := ⟨0, 0⟩
abbrev MGT_STAT : Loc := .pkg 0x1C01
abbrev MGT_STAT_REC : Fld := ⟨7, 6⟩
abbrev MGT_STAT_BULK : Fld := ⟨5, 4⟩
abbrev MGT_STAT_STATE_B : Fld := ⟨3, 2⟩
abbrev MGT_STAT_STATE_A : Fld := ⟨1, 0⟩
abbrev MGT_CMP : Loc := .pkg 0x1C02
abbrev MGT_CMP_MISS : Fld := ⟨15, 8⟩
abbrev MGT_CMP_WIN : Fld := ⟨7, 0⟩
abbrev MGT_PROBE : Loc := .pkg 0x1C03
abbrev MGT_PROBE_PASS : Fld := ⟨16, 12⟩
abbrev MGT_PROBE_FAIL : Fld := ⟨11, 8⟩
abbrev MGT_PROBE_TMO : Fld := ⟨7, 0⟩
abbrev MGT_MAC_LO : Loc := .pkg 0x1C20
abbrev MGT_MAC_HI : Loc := .pkg 0x1C21
abbrev MGT_IP4_ADDR0 : Loc := .pkg 0x1C22
abbrev MGT_IP4_ADDR1 : Loc := .pkg 0x1C23
abbrev MGT_IP4_ADDR1_ADDR : Fld := ⟨7, 0⟩
abbrev MGT_IP4_GW0 : Loc := .pkg 0x1C24
abbrev MGT_IP4_GW1 : Loc := .pkg 0x1C25
abbrev MGT_IP4_GW1_ADDR : Fld := ⟨7, 0⟩
abbrev MGT_IP6_ADDR0 : Loc := .pkg 0x1C26
abbrev MGT_IP6_ADDR1 : Loc := .pkg 0x1C27
abbrev MGT_IP6_ADDR2 : Loc := .pkg 0x1C28
abbrev MGT_IP6_ADDR3 : Loc := .pkg 0x1C29
abbrev MGT_IP6_ADDR4 : Loc := .pkg 0x1C2A
abbrev MGT_IP6_ADDR5 : Loc := .pkg 0x1C2B
abbrev MGT_IP6_ADDR5_ADDR : Fld := ⟨7, 0⟩
abbrev MGT_IP6_GW0 : Loc := .pkg 0x1C2C
abbrev MGT_IP6_GW1 : Loc := .pkg 0x1C2D
abbrev MGT_IP6_GW2 : Loc := .pkg 0x1C2E
abbrev MGT_IP6_GW3 : Loc := .pkg 0x1C2F
abbrev MGT_IP6_GW4 : Loc := .pkg 0x1C30
abbrev MGT_IP6_GW5 : Loc := .pkg 0x1C31
abbrev MGT_IP6_GW5_ADDR : Fld := ⟨7, 0⟩
abbrev MGT_PEER_IP0 : Loc := .pkg 0x1C32
abbrev MGT_PEER_IP1 : Loc := .pkg 0x1C33
abbrev MGT_PEER_IP2 : Loc := .pkg 0x1C34
abbrev MGT_PEER_IP3 : Loc := .pkg 0x1C35
abbrev MGT_PEER_IP4 : Loc := .pkg 0x1C36
abbrev MGT_PEER_IP5 : Loc := .pkg 0x1C37
abbrev MGT_PEER_IP5_ADDR : Fld := ⟨7, 0⟩
abbrev MGT_NET : Loc := .pkg 0x1C38
abbrev MGT_NET_PFX6 : Fld := ⟨14, 8⟩
abbrev MGT_NET_PFX4 : Fld := ⟨5, 0⟩
abbrev MGT_UDP : Loc := .pkg 0x1C39
abbrev MGT_UDP_PORT : Fld := ⟨15, 0⟩
abbrev MGT_PEER : Loc := .pkg 0x1C3A
abbrev MGT_PEER_V6 : Fld := ⟨16, 16⟩
abbrev MGT_PEER_PORT : Fld := ⟨15, 0⟩
abbrev MGT_TLM : Loc := .pkg 0x1C3B
abbrev MGT_TLM_EN : Fld := ⟨23, 23⟩
abbrev MGT_TLM_N : Fld := ⟨22, 19⟩
abbrev MGT_TLM_PER : Fld := ⟨15, 0⟩
abbrev MGT_TLM_ADDR (i : Nat) : Loc := .pkg (0x1C3C + i)
abbrev MGT_TLM_ADDR_ADDR : Fld := ⟨19, 0⟩
abbrev MGT_PTP : Loc := .pkg 0x1C44
abbrev MGT_PTP_V6 : Fld := ⟨11, 11⟩
abbrev MGT_PTP_PATH : Fld := ⟨10, 9⟩
abbrev MGT_PTP_DOMAIN : Fld := ⟨7, 0⟩
abbrev MGT_PTP_STAT : Loc := .pkg 0x1C45
abbrev MGT_PTP_STAT_OFS : Fld := ⟨23, 1⟩
abbrev MGT_PTP_STAT_LOCK : Fld := ⟨0, 0⟩
abbrev MGT_TIME_COUNT_LO : Loc := .pkg 0x1C46
abbrev MGT_TIME_COUNT_HI : Loc := .pkg 0x1C47
abbrev MGT_TIME_SEC_LO : Loc := .pkg 0x1C48
abbrev MGT_TIME_SEC_HI : Loc := .pkg 0x1C49
abbrev MGT_TIME_NS_LO : Loc := .pkg 0x1C4A
abbrev MGT_TIME_NS_HI : Loc := .pkg 0x1C4B
abbrev MGT_TIME_RATE_LO : Loc := .pkg 0x1C4C
abbrev MGT_TIME_RATE_HI : Loc := .pkg 0x1C4D
abbrev RGT_MAP (i : Nat) : Loc := .pkg (0x2200 + i)
abbrev RGT_MAP_LIVE : Fld := ⟨5, 5⟩
abbrev RGT_MAP_RIGHTS : Fld := ⟨4, 0⟩
abbrev RGT_MAP_CRC_LO : Loc := .pkg 0x2215
abbrev RGT_MAP_CRC_HI : Loc := .pkg 0x2216
abbrev RGT_MAP_CRC_HI_CRC : Fld := ⟨7, 0⟩
abbrev RGT_PORT (i : Nat) : Loc := .pkg (0x2220 + i)
abbrev RGT_PORT_LIVE : Fld := ⟨5, 5⟩
abbrev RGT_PORT_RIGHTS : Fld := ⟨4, 0⟩
abbrev RGT_STAT : Loc := .pkg 0x2240
abbrev RGT_STAT_MAPERR : Fld := ⟨2, 2⟩
abbrev RGT_STAT_ERR : Fld := ⟨1, 1⟩
abbrev RGT_STAT_SEALED : Fld := ⟨0, 0⟩
abbrev RGT_CMD : Loc := .pkg 0x2241
abbrev RGT_CMD_CONFIRM : Fld := ⟨23, 16⟩
abbrev RGT_CMD_SEAL : Fld := ⟨0, 0⟩
abbrev RGT_LAST : Loc := .pkg 0x2242
abbrev RGT_LAST_VALID : Fld := ⟨7, 7⟩
abbrev RGT_LAST_STRADDLE : Fld := ⟨6, 6⟩
abbrev RGT_LAST_PORT : Fld := ⟨4, 0⟩
abbrev RGT_LAST_ADDR : Loc := .pkg 0x2243
abbrev RGT_LAST_ADDR_ADDR : Fld := ⟨19, 0⟩
abbrev RGT_DENY_CNT : Loc := .pkg 0x2244
abbrev RGT_STR_CNT : Loc := .pkg 0x2245
abbrev FLT_TIER_ACT (i : Nat) : Loc := .pkg (0x2400 + i)
abbrev FLT_TIER_ACT_ACT : Fld := ⟨5, 0⟩
abbrev FLT_LAST : Loc := .pkg 0x2404
abbrev FLT_LAST_VALID : Fld := ⟨23, 23⟩
abbrev FLT_LAST_FORCED : Fld := ⟨22, 22⟩
abbrev FLT_LAST_TIER : Fld := ⟨21, 20⟩
abbrev FLT_LAST_ARG : Fld := ⟨19, 12⟩
abbrev FLT_LAST_SRC : Fld := ⟨11, 0⟩
abbrev FLT_LAST_CNT_LO : Loc := .pkg 0x2405
abbrev FLT_LAST_CNT_HI : Loc := .pkg 0x2406
abbrev FLT_LAST_SUB : Loc := .pkg 0x2407
abbrev FLT_LAST_SUB_STAMP : Fld := ⟨11, 0⟩
abbrev FLT_TIER_CNT (i : Nat) : Loc := .pkg (0x2408 + i)
abbrev FLT_ALIVE : Loc := .pkg 0x240C
abbrev FLT_ALIVE_CAUSE : Fld := ⟨2, 1⟩
abbrev FLT_ALIVE_LEVEL : Fld := ⟨0, 0⟩
abbrev WDG_CTL : Loc := .pkg 0x2600
abbrev WDG_CTL_ACT : Fld := ⟨5, 4⟩
abbrev WDG_CTL_WIN : Fld := ⟨2, 0⟩
abbrev WDG_PERIOD : Loc := .pkg 0x2601
abbrev WDG_PERIOD_P : Fld := ⟨16, 0⟩
abbrev WDG_PULSE : Loc := .pkg 0x2602
abbrev WDG_PULSE_WIDTH : Fld := ⟨7, 0⟩
abbrev WDG_KEY : Loc := .pkg 0x2603
abbrev WDG_STAT : Loc := .pkg 0x2604
abbrev WDG_STAT_EXPIRED : Fld := ⟨7, 7⟩
abbrev WDG_STAT_OPEN : Fld := ⟨6, 6⟩
abbrev WDG_STAT_KEY1 : Fld := ⟨5, 5⟩
abbrev WDG_STAT_RUN : Fld := ⟨4, 4⟩
abbrev WDG_STAT_CAUSE : Fld := ⟨2, 0⟩
abbrev WDG_TIMER : Loc := .pkg 0x2605
abbrev WDG_TIMER_ELAPSED : Fld := ⟨16, 0⟩
abbrev FLT_CLS (x : Nat) : Loc := .fcls x
abbrev FLT_CLS_N : Fld := ⟨23, 16⟩
abbrev FLT_CLS_WUNIT : Fld := ⟨15, 15⟩
abbrev FLT_CLS_W : Fld := ⟨13, 0⟩
abbrev FLT_SRC (x : Nat) : Loc := .fsrc x
abbrev FLT_SRC_TIER : Fld := ⟨23, 22⟩
abbrev FLT_SRC_FORCE : Fld := ⟨21, 21⟩
abbrev FLT_SRC_SEEN : Fld := ⟨20, 20⟩
abbrev FLT_SRC_COUNT : Fld := ⟨15, 8⟩
abbrev REC_CTL : Loc := .pkg 0x2C00
abbrev REC_CTL_STRM_LINK : Fld := ⟨6, 6⟩
abbrev REC_CTL_STRM_EN : Fld := ⟨5, 5⟩
abbrev REC_CTL_HDIV : Fld := ⟨4, 0⟩
abbrev REC_STAT : Loc := .pkg 0x2C01
abbrev REC_STAT_BAD : Fld := ⟨19, 12⟩
abbrev REC_STAT_OVF : Fld := ⟨11, 11⟩
abbrev REC_STAT_FILL : Fld := ⟨10, 0⟩
abbrev REC_STAT2 : Loc := .pkg 0x2C02
abbrev REC_STAT2_FLUSHING : Fld := ⟨1, 1⟩
abbrev REC_STAT2_PERM_FULL : Fld := ⟨0, 0⟩
abbrev REC_CMD : Loc := .pkg 0x2C03
abbrev REC_CMD_CLEAR : Fld := ⟨1, 1⟩
abbrev REC_CMD_FLUSH : Fld := ⟨0, 0⟩
abbrev REC_RL : Loc := .pkg 0x2C04
abbrev REC_RL_BURST : Fld := ⟨23, 16⟩
abbrev REC_RL_PER : Fld := ⟨15, 0⟩
abbrev REC_HOURS_LO : Loc := .pkg 0x2C05
abbrev REC_HOURS_HI : Loc := .pkg 0x2C06
abbrev REC_HOURS_HI_VALUE : Fld := ⟨7, 0⟩
abbrev REC_CYCLES : Loc := .pkg 0x2C07
abbrev REC_CLEARS : Loc := .pkg 0x2C08
abbrev REC_NEXT_LO : Loc := .pkg 0x2C09
abbrev REC_NEXT_HI : Loc := .pkg 0x2C0A
abbrev REC_NEXT_HI_VALUE : Fld := ⟨15, 0⟩
abbrev REC_BASE_LO : Loc := .pkg 0x2C0B
abbrev REC_BASE_HI : Loc := .pkg 0x2C0C
abbrev REC_BASE_HI_VALUE : Fld := ⟨15, 0⟩
abbrev REC_STRM_ACK_LO : Loc := .pkg 0x2C0D
abbrev REC_STRM_ACK_HI : Loc := .pkg 0x2C0E
abbrev REC_STRM_ACK_HI_VALUE : Fld := ⟨15, 0⟩
abbrev REC_SUPP : Loc := .pkg 0x2C0F
abbrev REC_STRM : Loc := .pkg 0x2C10
abbrev REC_STRM_DEST : Fld := ⟨13, 0⟩
abbrev REC_RD_SEL : Loc := .pkg 0x2C11
abbrev REC_RD_SEL_AREA : Fld := ⟨1, 0⟩
abbrev REC_RD_IDX_LO : Loc := .pkg 0x2C12
abbrev REC_RD_IDX_HI : Loc := .pkg 0x2C13
abbrev REC_RD_IDX_HI_VALUE : Fld := ⟨15, 0⟩
abbrev REC_RD_STAT : Loc := .pkg 0x2C14
abbrev REC_RD_STAT_RESULT : Fld := ⟨2, 1⟩
abbrev REC_RD_STAT_BUSY : Fld := ⟨0, 0⟩
abbrev REC_RD_W (i : Nat) : Loc := .pkg (0x2C20 + i)
abbrev REC_HQ0 (i : Nat) : Loc := .pkg (0x2D00 + 2 * i)
abbrev REC_HQ0_EN : Fld := ⟨23, 23⟩
abbrev REC_HQ0_ADDR : Fld := ⟨19, 0⟩
abbrev REC_HQ1 (i : Nat) : Loc := .pkg (0x2D01 + 2 * i)
abbrev REC_HSH (i : Nat) : Loc := .pkg (0x2D80 + i)
abbrev REC_HSH_SH : Fld := ⟨4, 0⟩
abbrev AGE_CTL : Loc := .pkg 0x3000
abbrev AGE_CTL_MINS : Fld := ⟨23, 8⟩
abbrev AGE_CTL_CBUS : Fld := ⟨2, 2⟩
abbrev AGE_CTL_APPLY : Fld := ⟨1, 1⟩
abbrev AGE_WBASE : Loc := .pkg 0x3001
abbrev AGE_WBASE_WBASE : Fld := ⟨15, 0⟩
abbrev AGE_AVS : Loc := .pkg 0x3002
abbrev AGE_AVS_HI : Fld := ⟨23, 18⟩
abbrev AGE_AVS_LO : Fld := ⟨17, 12⟩
abbrev AGE_AVS_VEXP : Fld := ⟨11, 7⟩
abbrev AGE_AVS_TADDR : Fld := ⟨6, 0⟩
abbrev AGE_AVS_BUS : Loc := .pkg 0x3003
abbrev AGE_AVS_BUS_BUS : Fld := ⟨1, 0⟩
abbrev AGE_VREQ : Loc := .pkg 0x3004
abbrev AGE_VREQ_MV : Fld := ⟨9, 0⟩
abbrev AGE_SI_MEAN : Loc := .pkg 0x3005
abbrev AGE_SI_MEAN_MV : Fld := ⟨9, 0⟩
abbrev AGE_LIM_RHO : Loc := .pkg 0x3006
abbrev AGE_LIM_CAP : Loc := .pkg 0x3007
abbrev AGE_LIM_ESR : Loc := .pkg 0x3008
abbrev AGE_LIM_FAN : Loc := .pkg 0x3009
abbrev AGE_RDS : Loc := .pkg 0x300A
abbrev AGE_RDS_T : Loc := .pkg 0x300B
abbrev AGE_RDS_T_THI : Fld := ⟨23, 12⟩
abbrev AGE_RDS_T_TLO : Fld := ⟨11, 0⟩
abbrev AGE_FAN : Loc := .pkg 0x300C
abbrev AGE_CMD : Loc := .pkg 0x300D
abbrev AGE_CMD_REVISE : Fld := ⟨9, 9⟩
abbrev AGE_CMD_BASE : Fld := ⟨8, 8⟩
abbrev AGE_CMD_ALL : Fld := ⟨7, 7⟩
abbrev AGE_CMD_PORT : Fld := ⟨6, 0⟩
abbrev PWS_CTL : Loc := .pkg 0x3200
abbrev PWS_CTL_KEEP_EN : Fld := ⟨2, 2⟩
abbrev PWS_CTL_MGT_KEEP : Fld := ⟨1, 1⟩
abbrev PWS_CTL_TRIM_EN : Fld := ⟨0, 0⟩
abbrev PWS_LTOL : Loc := .pkg 0x3201
abbrev PWS_DWELL : Loc := .pkg 0x3202
abbrev PWS_DWELL_MS : Fld := ⟨15, 0⟩
abbrev PWS_DOZE_MASK : Loc := .pkg 0x3203
abbrev PWS_DOZE_MASK_ALLOW : Fld := ⟨7, 1⟩
abbrev PWS_STAT : Loc := .pkg 0x3204
abbrev PWS_STAT_KWAKE : Fld := ⟨11, 11⟩
abbrev PWS_STAT_ENTERING : Fld := ⟨10, 10⟩
abbrev PWS_STAT_DOZED : Fld := ⟨9, 3⟩
abbrev PWS_STAT_STATE : Fld := ⟨2, 0⟩
abbrev PWS_CMD : Loc := .pkg 0x3205
abbrev PWS_CMD_WAKE : Fld := ⟨0, 0⟩
abbrev PWS_BLOCK : Loc := .pkg 0x3206
abbrev PWS_BLOCK_WAKEPIN : Fld := ⟨7, 7⟩
abbrev PWS_BLOCK_KEEPEN : Fld := ⟨6, 6⟩
abbrev PWS_BLOCK_LINK : Fld := ⟨5, 5⟩
abbrev PWS_BLOCK_MGT : Fld := ⟨4, 4⟩
abbrev PWS_BLOCK_DEBUG : Fld := ⟨3, 3⟩
abbrev PWS_BLOCK_MASK : Fld := ⟨2, 2⟩
abbrev PWS_BLOCK_PORTS : Fld := ⟨1, 1⟩
abbrev PWS_BLOCK_LTOL : Fld := ⟨0, 0⟩
abbrev PWS_EXIT_LAST : Loc := .pkg 0x3207
abbrev PWS_KEEP (i : Nat) : Loc := .pkg (0x3210 + i)
abbrev BOOT_STAT : Loc := .pkg 0x3400
abbrev BOOT_STAT_RCAUSE : Fld := ⟨11, 9⟩
abbrev BOOT_STAT_RECOVERY : Fld := ⟨8, 8⟩
abbrev BOOT_STAT_FALLBACK : Fld := ⟨7, 7⟩
abbrev BOOT_STAT_TRIAL_INT : Fld := ⟨6, 6⟩
abbrev BOOT_STAT_SETDEF : Fld := ⟨5, 5⟩
abbrev BOOT_STAT_SLOT : Fld := ⟨4, 4⟩
abbrev BOOT_STAT_KIND : Fld := ⟨1, 0⟩
abbrev BOOT_STRAP : Loc := .pkg 0x3401
abbrev BOOT_STRAP_BOOTSEL : Fld := ⟨6, 6⟩
abbrev BOOT_STRAP_INTEG : Fld := ⟨5, 5⟩
abbrev BOOT_STRAP_STAGGER : Fld := ⟨4, 1⟩
abbrev BOOT_STRAP_ROLE : Fld := ⟨0, 0⟩
abbrev BOOT_CMD : Loc := .pkg 0x3402
abbrev BOOT_CMD_CONFIRM : Fld := ⟨23, 16⟩
abbrev BOOT_CMD_PKG_RST : Fld := ⟨0, 0⟩
abbrev BOOT_TIME : Loc := .pkg 0x3403
abbrev BOOT_TIME_MS : Fld := ⟨15, 0⟩
abbrev BOOT_IMG : Loc := .pkg 0x3404
abbrev BOOT_KEY : Loc := .pkg 0x3405
abbrev BOOT_KEY_SLOT : Fld := ⟨1, 0⟩
abbrev UPD_CTL : Loc := .pkg 0x3600
abbrev UPD_CTL_FB_T3 : Fld := ⟨2, 2⟩
abbrev UPD_CTL_WHEN : Fld := ⟨0, 0⟩
abbrev UPD_CMD : Loc := .pkg 0x3601
abbrev UPD_CMD_REJECT : Fld := ⟨4, 4⟩
abbrev UPD_CMD_ABORT : Fld := ⟨3, 3⟩
abbrev UPD_CMD_ACTIVATE : Fld := ⟨2, 2⟩
abbrev UPD_CMD_VERIFY : Fld := ⟨1, 1⟩
abbrev UPD_CMD_OPEN : Fld := ⟨0, 0⟩
abbrev UPD_STAT : Loc := .pkg 0x3602
abbrev UPD_STAT_ENTRY : Fld := ⟨23, 22⟩
abbrev UPD_STAT_FB_REASON : Fld := ⟨21, 19⟩
abbrev UPD_STAT_SETNEW : Fld := ⟨18, 18⟩
abbrev UPD_STAT_SLOT : Fld := ⟨17, 17⟩
abbrev UPD_STAT_CHECK : Fld := ⟨16, 14⟩
abbrev UPD_STAT_ERR : Fld := ⟨10, 7⟩
abbrev UPD_STAT_STATE : Fld := ⟨2, 0⟩
abbrev UPD_CONFIRM : Loc := .pkg 0x3603
abbrev UPD_WIN : Loc := .pkg 0x3604
abbrev UPD_WIN_SEC : Fld := ⟨11, 0⟩
abbrev UPD_REMAIN : Loc := .pkg 0x3605
abbrev UPD_REMAIN_SEC : Fld := ⟨11, 0⟩
abbrev UPD_AT_LO : Loc := .pkg 0x3606
abbrev UPD_AT_HI : Loc := .pkg 0x3607
abbrev UPD_LANE : Loc := .pkg 0x3608
abbrev UPD_LANE_LANE : Fld := ⟨6, 0⟩
abbrev UPD_DL_ADDR_LO : Loc := .pkg 0x3609
abbrev UPD_DL_ADDR_HI : Loc := .pkg 0x360A
abbrev UPD_DL_ADDR_HI_VALUE : Fld := ⟨7, 0⟩
abbrev UPD_DL_DATA : Loc := .pkg 0x360B
abbrev UPD_DL_OFS_LO : Loc := .pkg 0x360C
abbrev UPD_DL_OFS_HI : Loc := .pkg 0x360D
abbrev UPD_DL_OFS_HI_VALUE : Fld := ⟨7, 0⟩
abbrev UPD_VER_NEW : Loc := .pkg 0x360E
abbrev UPD_BOOTREC : Loc := .pkg 0x360F
abbrev UPD_BOOTREC_REC : Fld := ⟨5, 0⟩
abbrev UPD_KEY_ADDR : Loc := .pkg 0x3610
abbrev UPD_KEY_ADDR_ADDR : Fld := ⟨5, 0⟩
abbrev UPD_KEY_DATA : Loc := .pkg 0x3611
abbrev UPD_KEY_STAT : Loc := .pkg 0x3612
abbrev UPD_KEY_STAT_REVOKED : Fld := ⟨7, 4⟩
abbrev UPD_KEY_STAT_PROG : Fld := ⟨3, 0⟩
abbrev UPD_REVOKE : Loc := .pkg 0x3613
abbrev UPD_REVOKE_CONFIRM : Fld := ⟨23, 16⟩
abbrev UPD_REVOKE_SLOT : Fld := ⟨2, 1⟩
abbrev UPD_REVOKE_GO : Fld := ⟨0, 0⟩
abbrev DBG_CTL : Loc := .pkg 0x3800
abbrev DBG_CTL_SESSION : Fld := ⟨0, 0⟩
abbrev DBG_MEM_SEL : Loc := .pkg 0x3801
abbrev DBG_MEM_SEL_SPACE : Fld := ⟨10, 8⟩
abbrev DBG_MEM_SEL_UNIT : Fld := ⟨7, 0⟩
abbrev DBG_MEM_ADDR : Loc := .pkg 0x3802
abbrev DBG_MEM_ADDR_ADDR : Fld := ⟨15, 0⟩
abbrev DBG_MEM_DATA0 : Loc := .pkg 0x3803
abbrev DBG_MEM_DATA1 : Loc := .pkg 0x3804
abbrev DBG_MEM_DATA2 : Loc := .pkg 0x3805
abbrev PRF_CTL : Loc := .pkg 0x3900
abbrev PRF_CTL_CLR : Fld := ⟨1, 1⟩
abbrev PRF_CTL_RUN : Fld := ⟨0, 0⟩
abbrev PRF_CEN_CTL : Loc := .pkg 0x3901
abbrev PRF_CEN_CTL_K : Fld := ⟨5, 1⟩
abbrev PRF_CEN_CTL_EN : Fld := ⟨0, 0⟩
abbrev PRF_CEN_PMASK : Loc := .pkg 0x3902
abbrev PRF_CEN_PMASK_MASK : Fld := ⟨13, 0⟩
abbrev LAN_MBOX (n : Nat) (i : Nat) : Loc := .tile n (0x10 + i)
abbrev LAN_CRAM_PAGE (n : Nat) : Loc := .tile n 0x20
abbrev LAN_CRAM_PAGE_PAGE : Fld := ⟨0, 0⟩
abbrev AGE_RO (n : Nat) (i : Nat) : Loc := .tile n (0x30 + i)
abbrev AGE_RO_MARGIN : Fld := ⟨5, 0⟩
abbrev AGE_TJ (n : Nat) : Loc := .tile n 0x34
abbrev AGE_TJ_TJ : Fld := ⟨11, 0⟩
abbrev DBG_SCTL (n : Nat) : Loc := .tile n 0x40
abbrev DBG_SCTL_REQ : Fld := ⟨4, 4⟩
abbrev DBG_SCTL_STEP : Fld := ⟨3, 3⟩
abbrev DBG_SCTL_RESUME : Fld := ⟨2, 2⟩
abbrev DBG_SCTL_HARD : Fld := ⟨1, 1⟩
abbrev DBG_SCTL_HALT : Fld := ⟨0, 0⟩
abbrev DBG_SSTAT (n : Nat) : Loc := .tile n 0x41
abbrev DBG_SSTAT_PEND : Fld := ⟨16, 16⟩
abbrev DBG_SSTAT_HALTED : Fld := ⟨15, 15⟩
abbrev DBG_SSTAT_PC : Fld := ⟨14, 0⟩
abbrev DBG_SBP (n : Nat) (i : Nat) : Loc := .tile n (0x44 + i)
abbrev DBG_SBP_EN : Fld := ⟨15, 15⟩
abbrev DBG_SBP_ADDR : Fld := ⟨14, 0⟩
abbrev PRF_CEN_MASK_LO (n : Nat) : Loc := .tile n 0x6E00
abbrev PRF_CEN_MASK_HI (n : Nat) : Loc := .tile n 0x6E01
abbrev PRF_CEN_MASK_HI_MASK : Fld := ⟨11, 0⟩
abbrev PRF_CEN_HEAD (n : Nat) : Loc := .tile n 0x6E02
abbrev PRF_CEN_HEAD_VALUE : Fld := ⟨13, 0⟩
abbrev PRF_CEN_OLD (n : Nat) : Loc := .tile n 0x6E03
abbrev PRF_CEN_OLD_VALUE : Fld := ⟨13, 0⟩
abbrev PRF_CEN_RD_ADDR (n : Nat) : Loc := .tile n 0x6E04
abbrev PRF_CEN_RD_ADDR_VALUE : Fld := ⟨13, 0⟩
abbrev PRF_CEN_RD_DATA (n : Nat) : Loc := .tile n 0x6E05
abbrev PRF_CEN_DROP (n : Nat) : Loc := .tile n 0x6E06
abbrev PRF_CEN_SKIP (n : Nat) : Loc := .tile n 0x6E07
abbrev PRF_TAG_CTL (n : Nat) : Loc := .tile n 0x6E10
abbrev PRF_TAG_CTL_SEED : Fld := ⟨23, 8⟩
abbrev PRF_TAG_CTL_K : Fld := ⟨5, 1⟩
abbrev PRF_TAG_CTL_EN : Fld := ⟨0, 0⟩
abbrev PRF_TAG_POP (n : Nat) : Loc := .tile n 0x6E11
abbrev PRF_TAG_POP_FILL : Fld := ⟨8, 0⟩
abbrev PRF_TAG_W (n : Nat) (i : Nat) : Loc := .tile n (0x6E12 + i)
abbrev PRF_TAG_LOST (n : Nat) : Loc := .tile n 0x6E16
abbrev TRC_CTL (n : Nat) : Loc := .tile n 0x7000
abbrev TRC_CTL_XIN : Fld := ⟨4, 4⟩
abbrev TRC_CTL_XOUT : Fld := ⟨3, 3⟩
abbrev TRC_CTL_FORCE : Fld := ⟨1, 1⟩
abbrev TRC_CTL_ARM : Fld := ⟨0, 0⟩
abbrev TRC_NODE (n : Nat) (i : Nat) : Loc := .tile n (0x7008 + i)
abbrev TRC_NODE_EN : Fld := ⟨23, 23⟩
abbrev TRC_NODE_KIND : Fld := ⟨22, 20⟩
abbrev TRC_NODE_UNIT : Fld := ⟨7, 4⟩
abbrev TRC_NODE_SEL : Fld := ⟨3, 0⟩
abbrev TRC_TRIG (n : Nat) : Loc := .tile n 0x7010
abbrev TRC_TRIG_SRC : Fld := ⟨23, 22⟩
abbrev TRC_TRIG_COND : Fld := ⟨21, 19⟩
abbrev TRC_TRIG_NODE : Fld := ⟨18, 16⟩
abbrev TRC_TRIG_SRCNUM : Fld := ⟨8, 0⟩
abbrev TRC_TRIG_VAL (n : Nat) : Loc := .tile n 0x7011
abbrev TRC_POST (n : Nat) : Loc := .tile n 0x7012
abbrev TRC_POST_VALUE : Fld := ⟨15, 0⟩
abbrev TRC_STAT (n : Nat) : Loc := .tile n 0x7013
abbrev TRC_STAT_WRAP : Fld := ⟨3, 3⟩
abbrev TRC_STAT_DONE : Fld := ⟨2, 2⟩
abbrev TRC_STAT_TRIGGERED : Fld := ⟨1, 1⟩
abbrev TRC_STAT_ARMED : Fld := ⟨0, 0⟩
abbrev TRC_TRIG_CNT_LO (n : Nat) : Loc := .tile n 0x7014
abbrev TRC_TRIG_CNT_HI (n : Nat) : Loc := .tile n 0x7015
abbrev TRC_RD_ROW (n : Nat) : Loc := .tile n 0x7016
abbrev TRC_RD_W (n : Nat) (i : Nat) : Loc := .tile n (0x7018 + i)
abbrev STG_CTL (p : Nat) : Loc := .port p 0x0
abbrev STG_CTL_EN : Fld := ⟨4, 4⟩
abbrev STG_CTL_PERS : Fld := ⟨2, 0⟩
abbrev STG_STAT (p : Nat) : Loc := .port p 0x1
abbrev STG_STAT_STATE : Fld := ⟨14, 13⟩
abbrev STG_STAT_OC_LATCH : Fld := ⟨12, 12⟩
abbrev STG_STAT_RC_LATCH : Fld := ⟨11, 11⟩
abbrev STG_STAT_DRV_FLT : Fld := ⟨10, 10⟩
abbrev STG_STAT_SYNC_HOLD : Fld := ⟨9, 9⟩
abbrev STG_STAT_OC_SEEN : Fld := ⟨8, 8⟩
abbrev STG_STAT_FE : Fld := ⟨7, 0⟩
abbrev STG_PWM (p : Nat) : Loc := .port p 0x2
abbrev STG_PWM_SYNC : Fld := ⟨11, 11⟩
abbrev STG_PWM_POLB : Fld := ⟨10, 10⟩
abbrev STG_PWM_POLA : Fld := ⟨9, 9⟩
abbrev STG_PWM_MODE : Fld := ⟨7, 6⟩
abbrev STG_PWM_MULT : Fld := ⟨3, 0⟩
abbrev STG_PHS (p : Nat) : Loc := .port p 0x3
abbrev STG_PHS_OFS : Fld := ⟨17, 0⟩
abbrev STG_DT (p : Nat) : Loc := .port p 0x4
abbrev STG_DT_DT : Fld := ⟨7, 0⟩
abbrev STG_SNS (p : Nat) : Loc := .port p 0x5
abbrev STG_SNS_OPEN_INT : Fld := ⟨9, 6⟩
abbrev STG_SNS_TEN : Fld := ⟨5, 5⟩
abbrev STG_SNS_OPEN_EN_V : Fld := ⟨4, 4⟩
abbrev STG_SNS_OPEN_EN_I : Fld := ⟨3, 3⟩
abbrev STG_SNS_FRZ_EN_V : Fld := ⟨2, 2⟩
abbrev STG_SNS_FRZ_EN_I : Fld := ⟨1, 1⟩
abbrev STG_SNS_DEC : Fld := ⟨0, 0⟩
abbrev STG_CAL_IO (p : Nat) : Loc := .port p 0x6
abbrev STG_CAL_IO_OFS : Fld := ⟨15, 0⟩
abbrev STG_CAL_IG (p : Nat) : Loc := .port p 0x7
abbrev STG_CAL_VO (p : Nat) : Loc := .port p 0x8
abbrev STG_CAL_VO_OFS : Fld := ⟨15, 0⟩
abbrev STG_CAL_VG (p : Nat) : Loc := .port p 0x9
abbrev STG_OPEN_I (p : Nat) : Loc := .port p 0xA
abbrev STG_OPEN_I_STEP_MAX : Fld := ⟨23, 12⟩
abbrev STG_OPEN_I_STEP_MIN : Fld := ⟨11, 0⟩
abbrev STG_OPEN_V (p : Nat) : Loc := .port p 0xB
abbrev STG_OPEN_V_STEP_MAX : Fld := ⟨23, 12⟩
abbrev STG_OPEN_V_STEP_MIN : Fld := ⟨11, 0⟩
abbrev STG_CMP (p : Nat) : Loc := .port p 0xC
abbrev STG_CMP_BLANK : Fld := ⟨20, 15⟩
abbrev STG_CMP_RC_THR : Fld := ⟨14, 0⟩
abbrev STG_SMP_I (p : Nat) : Loc := .port p 0x10
abbrev STG_SMP_V (p : Nat) : Loc := .port p 0x11
abbrev STG_SMP_T (p : Nat) : Loc := .port p 0x12
abbrev STG_OC_CNT (p : Nat) : Loc := .port p 0x13
abbrev STG_RC_CNT (p : Nat) : Loc := .port p 0x14
abbrev FAN_CTL (p : Nat) : Loc := .port p 0x20
abbrev FAN_CTL_DIV : Fld := ⟨7, 4⟩
abbrev FAN_CTL_PPR : Fld := ⟨2, 0⟩
abbrev FAN_FS (p : Nat) : Loc := .port p 0x21
abbrev FAN_SPD (p : Nat) : Loc := .port p 0x22
abbrev FAN_PER (p : Nat) : Loc := .port p 0x23
abbrev PHS_GS_CTL (p : Nat) : Loc := .port p 0x40
abbrev PHS_GS_CTL_SRC : Fld := ⟨23, 21⟩
abbrev PHS_GS_CTL_NBP : Fld := ⟨20, 18⟩
abbrev PHS_GS_CTL_PORT : Fld := ⟨17, 14⟩
abbrev PHS_GS_CTL_LANE : Fld := ⟨13, 7⟩
abbrev PHS_GS_CTL_WORD : Fld := ⟨6, 4⟩
abbrev PHS_GS_CTL_EN : Fld := ⟨0, 0⟩
abbrev PHS_GS_BASE (p : Nat) : Loc := .port p 0x41
abbrev PHS_GS_BASE_BASE : Fld := ⟨15, 0⟩
abbrev PHS_GS_X (p : Nat) : Loc := .port p 0x42
abbrev PHS_DLY_LAST (p : Nat) : Loc := .port p 0x43
abbrev PHS_DLY_MIN (p : Nat) : Loc := .port p 0x44
abbrev PHS_DLY_MAX (p : Nat) : Loc := .port p 0x45
abbrev PHS_DLY_NEXT (p : Nat) : Loc := .port p 0x46
abbrev PHS_IAVG (p : Nat) : Loc := .port p 0x47
abbrev FUS_CTL (p : Nat) : Loc := .port p 0x50
abbrev FUS_CTL_COOL : Fld := ⟨7, 3⟩
abbrev FUS_CTL_CURVE_EN : Fld := ⟨1, 1⟩
abbrev FUS_CTL_INR_EN : Fld := ⟨0, 0⟩
abbrev FUS_CMD (p : Nat) : Loc := .port p 0x51
abbrev FUS_CMD_CLEAR : Fld := ⟨0, 0⟩
abbrev FUS_STAT (p : Nat) : Loc := .port p 0x52
abbrev FUS_STAT_HELD : Fld := ⟨13, 13⟩
abbrev FUS_STAT_RETRY : Fld := ⟨12, 12⟩
abbrev FUS_STAT_CAUSE : Fld := ⟨11, 9⟩
abbrev FUS_STAT_RCNT : Fld := ⟨7, 4⟩
abbrev FUS_STAT_STATE : Fld := ⟨2, 0⟩
abbrev FUS_PLIM (p : Nat) : Loc := .port p 0x53
abbrev FUS_IINR (p : Nat) : Loc := .port p 0x54
abbrev FUS_VDS_ON (p : Nat) : Loc := .port p 0x55
abbrev FUS_TINR (p : Nat) : Loc := .port p 0x56
abbrev FUS_KG (p : Nat) : Loc := .port p 0x57
abbrev FUS_GREF0 (p : Nat) : Loc := .port p 0x58
abbrev FUS_RETRY (p : Nat) : Loc := .port p 0x59
abbrev FUS_RETRY_COUNT : Fld := ⟨23, 20⟩
abbrev FUS_RETRY_TON : Fld := ⟨19, 12⟩
abbrev FUS_RETRY_TOFF : Fld := ⟨11, 4⟩
abbrev FUS_RETRY_CLEAN : Fld := ⟨3, 0⟩
abbrev FUS_ACC (p : Nat) : Loc := .port p 0x5A
abbrev FUS_TRIP_CNT (p : Nat) : Loc := .port p 0x5B
abbrev FUS_TC_I (p : Nat) (i : Nat) : Loc := .port p (0x60 + i)
abbrev FUS_TC_T (p : Nat) (i : Nat) : Loc := .port p (0x68 + i)
abbrev ORG_CTL (p : Nat) : Loc := .port p 0x70
abbrev ORG_CTL_REG : Fld := ⟨0, 0⟩
abbrev ORG_STAT (p : Nat) : Loc := .port p 0x71
abbrev ORG_STAT_SLOW_SEEN : Fld := ⟨2, 2⟩
abbrev ORG_STAT_STATE : Fld := ⟨1, 0⟩
abbrev ORG_VON (p : Nat) : Loc := .port p 0x72
abbrev ORG_VOFF (p : Nat) : Loc := .port p 0x73
abbrev ORG_VREG (p : Nat) : Loc := .port p 0x74
abbrev ORG_KG (p : Nat) : Loc := .port p 0x75
abbrev ORG_GMIN (p : Nat) : Loc := .port p 0x76
abbrev ENV_DUTY (p : Nat) : Loc := .port p 0x80
abbrev ENV_OFFT (p : Nat) : Loc := .port p 0x81
abbrev ENV_OFFT_MINOFF : Fld := ⟨17, 0⟩
abbrev ENV_FAST (p : Nat) : Loc := .port p 0x82
abbrev ENV_SLOW (p : Nat) : Loc := .port p 0x83
abbrev ENV_VHI (p : Nat) : Loc := .port p 0x84
abbrev ENV_VLO (p : Nat) : Loc := .port p 0x85
abbrev ENV_SLEW (p : Nat) : Loc := .port p 0x86
abbrev ENV_PERS (p : Nat) : Loc := .port p 0x87
abbrev ENV_PERS_SLOW_A : Fld := ⟨11, 7⟩
abbrev ENV_PERS_FUSE_OPEN : Fld := ⟨5, 5⟩
abbrev ENV_PERS_ALLOW : Fld := ⟨4, 0⟩
abbrev ENV_STAT (p : Nat) : Loc := .port p 0x88
abbrev ENV_STAT_CAUSE : Fld := ⟨5, 3⟩
abbrev ENV_STAT_TIGHT : Fld := ⟨2, 2⟩
abbrev ENV_STAT_VWIN : Fld := ⟨1, 1⟩
abbrev ENV_STAT_SLOW : Fld := ⟨0, 0⟩
abbrev ENV_SAVG (p : Nat) : Loc := .port p 0x89
abbrev CAP_PORT (p : Nat) : Loc := .port p 0x90
abbrev CAP_PORT_SHED : Fld := ⟨8, 8⟩
abbrev CAP_PORT_SHEDDABLE : Fld := ⟨3, 3⟩
abbrev CAP_PORT_CLASS : Fld := ⟨2, 0⟩
abbrev TWB_PFS_V (p : Nat) : Loc := .port p 0xA0
abbrev TWB_PFS_I (p : Nat) : Loc := .port p 0xA1
abbrev TWB_PT_SPAN (p : Nat) : Loc := .port p 0xA2
abbrev TWB_PT_OFS (p : Nat) : Loc := .port p 0xA3
abbrev AGE_PORT (p : Nat) : Loc := .port p 0xB0
abbrev AGE_PORT_FAN_EN : Fld := ⟨1, 1⟩
abbrev AGE_PORT_RDS_EN : Fld := ⟨0, 0⟩
abbrev AGE_PORT_STAT (p : Nat) : Loc := .port p 0xB1
abbrev AGE_PORT_STAT_EOL : Fld := ⟨1, 1⟩
abbrev AGE_PORT_STAT_NOBASE : Fld := ⟨0, 0⟩
abbrev AGE_RHO (p : Nat) : Loc := .port p 0xB2
abbrev AGE_KC (p : Nat) : Loc := .port p 0xB3
abbrev AGE_KF (p : Nat) : Loc := .port p 0xB4
abbrev AGE_D (p : Nat) : Loc := .port p 0xB5
abbrev AGE_EOL (p : Nat) : Loc := .port p 0xB6
abbrev LAN_CTL (l : Nat) : Loc := .lane l 0x0
abbrev LAN_CTL_SWITCH_SEL : Fld := ⟨1, 1⟩
abbrev LAN_CTL_RUN : Fld := ⟨0, 0⟩
abbrev LAN_STAT (l : Nat) : Loc := .lane l 0x1
abbrev LAN_STAT_CAUSE : Fld := ⟨11, 8⟩
abbrev LAN_STAT_OVER_COST : Fld := ⟨7, 7⟩
abbrev LAN_STAT_HELD : Fld := ⟨6, 6⟩
abbrev LAN_STAT_BUDGET : Fld := ⟨5, 5⟩
abbrev LAN_STAT_REFUSED : Fld := ⟨4, 4⟩
abbrev LAN_STAT_CHECK_BUSY : Fld := ⟨3, 3⟩
abbrev LAN_STAT_INACT_OK : Fld := ⟨2, 2⟩
abbrev LAN_STAT_ACT_OK : Fld := ⟨1, 1⟩
abbrev LAN_STAT_BANK : Fld := ⟨0, 0⟩
abbrev LAN_COST (l : Nat) : Loc := .lane l 0x2
abbrev LAN_COST_CYCLES : Fld := ⟨15, 0⟩
abbrev LAN_COST_INACT (l : Nat) : Loc := .lane l 0x3
abbrev LAN_COST_INACT_CYCLES : Fld := ⟨15, 0⟩
abbrev LAN_CYC_LAST (l : Nat) : Loc := .lane l 0x4
abbrev LAN_CYC_LAST_CYCLES : Fld := ⟨15, 0⟩
abbrev LAN_CYC_MAX (l : Nat) : Loc := .lane l 0x5
abbrev LAN_CYC_MAX_CYCLES : Fld := ⟨15, 0⟩
abbrev LAN_PGM_ADDR (l : Nat) : Loc := .lane l 0x6
abbrev LAN_PGM_ADDR_ADDR : Fld := ⟨11, 0⟩
abbrev LAN_PGM_DATA0 (l : Nat) : Loc := .lane l 0x7
abbrev LAN_PGM_DATA1 (l : Nat) : Loc := .lane l 0x8
abbrev LAN_PGM_DATA2 (l : Nat) : Loc := .lane l 0x9
abbrev LAN_PGM_DATA2_BUNDLE : Fld := ⟨15, 0⟩
abbrev LAN_LOAD (l : Nat) : Loc := .lane l 0xA
abbrev LAN_LOAD_CHECK : Fld := ⟨0, 0⟩
abbrev DBG_LCTL (l : Nat) : Loc := .lane l 0x10
abbrev DBG_LCTL_BP_EN : Fld := ⟨17, 17⟩
abbrev DBG_LCTL_BP_ADDR : Fld := ⟨16, 5⟩
abbrev DBG_LCTL_STEP : Fld := ⟨3, 3⟩
abbrev DBG_LCTL_RESUME : Fld := ⟨2, 2⟩
abbrev DBG_LCTL_HARD : Fld := ⟨1, 1⟩
abbrev DBG_LCTL_HALT : Fld := ⟨0, 0⟩
abbrev DBG_LSTAT (l : Nat) : Loc := .lane l 0x11
abbrev DBG_LSTAT_PEND : Fld := ⟨13, 13⟩
abbrev DBG_LSTAT_HALTED : Fld := ⟨12, 12⟩
abbrev DBG_LSTAT_PC : Fld := ⟨11, 0⟩
abbrev PHS_RAIL_CTL (r : Nat) : Loc := .rail r 0x0
abbrev PHS_RAIL_CTL_HOLD : Fld := ⟨16, 13⟩
abbrev PHS_RAIL_CTL_AF_EN : Fld := ⟨12, 12⟩
abbrev PHS_RAIL_CTL_TR_EN : Fld := ⟨11, 11⟩
abbrev PHS_RAIL_CTL_G7LIM : Fld := ⟨10, 10⟩
abbrev PHS_RAIL_CTL_CAR_EN : Fld := ⟨9, 9⟩
abbrev PHS_RAIL_CTL_ODIV : Fld := ⟨8, 6⟩
abbrev PHS_RAIL_CTL_STATE : Fld := ⟨2, 0⟩
abbrev PHS_RAIL_LEAD (r : Nat) : Loc := .rail r 0x1
abbrev PHS_RAIL_LEAD_ALT : Fld := ⟨14, 8⟩
abbrev PHS_RAIL_LEAD_LEAD : Fld := ⟨6, 0⟩
abbrev PHS_RAIL_STAT (r : Nat) : Loc := .rail r 0x2
abbrev PHS_RAIL_STAT_MULT_ERR : Fld := ⟨15, 15⟩
abbrev PHS_RAIL_STAT_AF_HELD : Fld := ⟨14, 14⟩
abbrev PHS_RAIL_STAT_AF_SEEN : Fld := ⟨13, 13⟩
abbrev PHS_RAIL_STAT_TRUNC_SEEN : Fld := ⟨12, 12⟩
abbrev PHS_RAIL_STAT_TRUNC : Fld := ⟨11, 11⟩
abbrev PHS_RAIL_STAT_OVL : Fld := ⟨10, 10⟩
abbrev PHS_RAIL_STAT_LEAD_LOST : Fld := ⟨9, 9⟩
abbrev PHS_RAIL_STAT_ALT_ACT : Fld := ⟨8, 8⟩
abbrev PHS_RAIL_STAT_COUNT : Fld := ⟨6, 0⟩
abbrev PHS_RAIL_CAR (r : Nat) : Loc := .rail r 0x3
abbrev PHS_RAIL_CAR_C : Fld := ⟨23, 18⟩
abbrev PHS_RAIL_CAR_SLOT : Fld := ⟨17, 0⟩
abbrev PHS_RAIL_MASK0 (r : Nat) : Loc := .rail r 0x4
abbrev PHS_RAIL_MASK1 (r : Nat) : Loc := .rail r 0x5
abbrev PHS_RAIL_MASK2 (r : Nat) : Loc := .rail r 0x6
abbrev PHS_RAIL_MASK3 (r : Nat) : Loc := .rail r 0x7
abbrev PHS_RAIL_MASK4 (r : Nat) : Loc := .rail r 0x8
abbrev PHS_RAIL_MASK5 (r : Nat) : Loc := .rail r 0x9
abbrev PHS_RAIL_MASK5_LANES : Fld := ⟨7, 0⟩
abbrev PHS_RAIL_PRES0 (r : Nat) : Loc := .rail r 0xA
abbrev PHS_RAIL_PRES1 (r : Nat) : Loc := .rail r 0xB
abbrev PHS_RAIL_PRES2 (r : Nat) : Loc := .rail r 0xC
abbrev PHS_RAIL_PRES3 (r : Nat) : Loc := .rail r 0xD
abbrev PHS_RAIL_PRES4 (r : Nat) : Loc := .rail r 0xE
abbrev PHS_RAIL_PRES5 (r : Nat) : Loc := .rail r 0xF
abbrev PHS_RAIL_PRES5_LANES : Fld := ⟨7, 0⟩
abbrev PHS_RAIL_VHI (r : Nat) : Loc := .rail r 0x10
abbrev PHS_RAIL_VLO (r : Nat) : Loc := .rail r 0x11
abbrev PHS_RAIL_VOS (r : Nat) : Loc := .rail r 0x12
abbrev PHS_RAIL_VUS (r : Nat) : Loc := .rail r 0x13
abbrev PHS_RAIL_DVDT (r : Nat) : Loc := .rail r 0x14
abbrev PHS_RAIL_HYS (r : Nat) : Loc := .rail r 0x15
abbrev PHS_RAIL_AF (r : Nat) : Loc := .rail r 0x16
abbrev PHS_RAIL_AF_TON : Fld := ⟨7, 0⟩
abbrev PHS_RAIL_OVL_L (r : Nat) (i : Nat) : Loc := .rail r (0x18 + i)
abbrev PHS_RAIL_OVL_A (r : Nat) : Loc := .rail r 0x1C
abbrev PHS_RAIL_OVL_A_A3 : Fld := ⟨19, 15⟩
abbrev PHS_RAIL_OVL_A_A2 : Fld := ⟨14, 10⟩
abbrev PHS_RAIL_OVL_A_A1 : Fld := ⟨9, 5⟩
abbrev PHS_RAIL_OVL_A_A0 : Fld := ⟨4, 0⟩
abbrev PHS_RAIL_FOLD (r : Nat) : Loc := .rail r 0x1D
abbrev PHS_RAIL_CAPLIM (r : Nat) : Loc := .rail r 0x1E
abbrev PHS_RAIL_ILIM (r : Nat) : Loc := .rail r 0x1F
abbrev PHS_TLM_CTL (r : Nat) : Loc := .rail r 0x20
abbrev PHS_TLM_CTL_K : Fld := ⟨4, 0⟩
abbrev PHS_TLM_V (r : Nat) : Loc := .rail r 0x21
abbrev PHS_TLM_I (r : Nat) : Loc := .rail r 0x22
abbrev PHS_TLM_P (r : Nat) : Loc := .rail r 0x23
abbrev PHS_TLM_T (r : Nat) : Loc := .rail r 0x24
abbrev PHS_PK_VMAX (r : Nat) : Loc := .rail r 0x25
abbrev PHS_PK_VMIN (r : Nat) : Loc := .rail r 0x26
abbrev PHS_PK_IMAX (r : Nat) : Loc := .rail r 0x27
abbrev PHS_PK_PMAX (r : Nat) : Loc := .rail r 0x28
abbrev PHS_PK_TMAX (r : Nat) : Loc := .rail r 0x29
abbrev BAT_CTL (s : Nat) : Loc := .string s 0x0
abbrev BAT_CTL_CELLS : Fld := ⟨23, 16⟩
abbrev BAT_CTL_KEEP : Fld := ⟨14, 14⟩
abbrev BAT_CTL_GOVR : Fld := ⟨13, 13⟩
abbrev BAT_CTL_CHEM : Fld := ⟨12, 11⟩
abbrev BAT_CTL_EN : Fld := ⟨7, 7⟩
abbrev BAT_CTL_PORT : Fld := ⟨6, 0⟩
abbrev BAT_STAT (s : Nat) : Loc := .string s 0x1
abbrev BAT_STAT_NVM_BUSY : Fld := ⟨9, 9⟩
abbrev BAT_STAT_REST : Fld := ⟨8, 8⟩
abbrev BAT_STAT_EOD : Fld := ⟨7, 7⟩
abbrev BAT_STAT_EOC : Fld := ⟨6, 6⟩
abbrev BAT_STAT_CONF : Fld := ⟨5, 5⟩
abbrev BAT_STAT_PRES : Fld := ⟨4, 4⟩
abbrev BAT_STAT_TEMP_OK : Fld := ⟨3, 3⟩
abbrev BAT_STAT_HOLDREQ : Fld := ⟨2, 2⟩
abbrev BAT_SOC (s : Nat) : Loc := .string s 0x2
abbrev BAT_QFULL (s : Nat) : Loc := .string s 0x3
abbrev BAT_QNOM (s : Nat) : Loc := .string s 0x4
abbrev BAT_RES (s : Nat) : Loc := .string s 0x5
abbrev BAT_IFS (s : Nat) : Loc := .string s 0x6
abbrev BAT_VFS (s : Nat) : Loc := .string s 0x7
abbrev BAT_ETAC (s : Nat) : Loc := .string s 0x8
abbrev BAT_ETAD (s : Nat) : Loc := .string s 0x9
abbrev BAT_IDEAD (s : Nat) : Loc := .string s 0xA
abbrev BAT_IREST (s : Nat) : Loc := .string s 0xB
abbrev BAT_VEOC (s : Nat) : Loc := .string s 0xC
abbrev BAT_VEOD (s : Nat) : Loc := .string s 0xD
abbrev BAT_SOCMIN (s : Nat) : Loc := .string s 0xE
abbrev BAT_RECHG (s : Nat) : Loc := .string s 0xF
abbrev BAT_ICHG (s : Nat) : Loc := .string s 0x10
abbrev BAT_IDIS (s : Nat) : Loc := .string s 0x11
abbrev BAT_TLO (s : Nat) : Loc := .string s 0x12
abbrev BAT_THI (s : Nat) : Loc := .string s 0x13
abbrev BAT_VPRES (s : Nat) : Loc := .string s 0x14
abbrev BAT_PMAX (s : Nat) : Loc := .string s 0x15
abbrev BAT_TREST (s : Nat) : Loc := .string s 0x16
abbrev BAT_EOC (s : Nat) : Loc := .string s 0x17
abbrev BAT_EOC_DIV : Fld := ⟨23, 16⟩
abbrev BAT_EOC_TIME : Fld := ⟨15, 0⟩
abbrev BAT_EOD (s : Nat) : Loc := .string s 0x18
abbrev BAT_EOD_DIV : Fld := ⟨23, 16⟩
abbrev BAT_EOD_TIME : Fld := ⟨15, 0⟩
abbrev BAT_CYC (s : Nat) : Loc := .string s 0x19
abbrev BAT_EAVAIL_LO (s : Nat) : Loc := .string s 0x1A
abbrev BAT_EAVAIL_HI (s : Nat) : Loc := .string s 0x1B
abbrev BAT_OCV (c : Nat) (i : Nat) : Loc := .chem c (0x0 + i)
abbrev TRP_LNK_STAT (l : Nat) : Loc := .link l 0x0
abbrev TRP_LNK_STAT_PARTNER_ALIGNED : Fld := ⟨7, 7⟩
abbrev TRP_LNK_STAT_STATE : Fld := ⟨6, 4⟩
abbrev TRP_LNK_DLY (l : Nat) : Loc := .link l 0x1
abbrev TRP_LNK_ASYM (l : Nat) : Loc := .link l 0x2
abbrev TRP_LNK_OFS (l : Nat) : Loc := .link l 0x3
abbrev TRP_LNK_ERR (l : Nat) : Loc := .link l 0x4
abbrev TRP_LNK_LEN (l : Nat) : Loc := .link l 0x5
abbrev TRP_LNK_LEN_LEN : Fld := ⟨5, 0⟩
abbrev CAP_ENT_CTL (e : Nat) : Loc := .entry e 0x0
abbrev CAP_ENT_CTL_SHED : Fld := ⟨7, 0⟩
abbrev CAP_ENT_RAIL (e : Nat) (i : Nat) : Loc := .entry e (0x10 + i)
abbrev MGT_PATH_STAT (p : Nat) : Loc := .path p 0x0
abbrev MGT_PATH_STAT_MISSW : Fld := ⟨9, 2⟩
abbrev MGT_PATH_STAT_SYNC : Fld := ⟨1, 1⟩
abbrev MGT_PATH_STAT_LINK : Fld := ⟨0, 0⟩
abbrev MGT_PATH_MISM (p : Nat) : Loc := .path p 0x1
abbrev MGT_PATH_LOST (p : Nat) : Loc := .path p 0x2
abbrev MGT_PATH_RXERR (p : Nat) : Loc := .path p 0x3
abbrev MGT_PATH_SUPV (p : Nat) : Loc := .path p 0x4
abbrev MGT_PATH_RTT (p : Nat) : Loc := .path p 0x5
abbrev MGT_PATH_RTTMAX (p : Nat) : Loc := .path p 0x6
abbrev TWB_CTL (b : Nat) : Loc := .bus b 0x0
abbrev TWB_CTL_VEXP : Fld := ⟨23, 19⟩
abbrev TWB_CTL_RETRY : Fld := ⟨18, 16⟩
abbrev TWB_CTL_EN : Fld := ⟨7, 7⟩
abbrev TWB_CTL_WHISTLE : Fld := ⟨6, 6⟩
abbrev TWB_CTL_PEC_REQ : Fld := ⟨5, 5⟩
abbrev TWB_CTL_ROLE : Fld := ⟨3, 2⟩
abbrev TWB_CTL_MODE : Fld := ⟨1, 0⟩
abbrev TWB_ADDR (b : Nat) : Loc := .bus b 0x1
abbrev TWB_ADDR_ADDR : Fld := ⟨6, 0⟩
abbrev TWB_TMG0 (b : Nat) : Loc := .bus b 0x2
abbrev TWB_TMG0_A : Fld := ⟨23, 12⟩
abbrev TWB_TMG0_B : Fld := ⟨11, 0⟩
abbrev TWB_TMG1 (b : Nat) : Loc := .bus b 0x3
abbrev TWB_TMG1_A : Fld := ⟨23, 12⟩
abbrev TWB_TMG1_B : Fld := ⟨11, 0⟩
abbrev TWB_TMG2 (b : Nat) : Loc := .bus b 0x4
abbrev TWB_TMG2_A : Fld := ⟨23, 12⟩
abbrev TWB_TMG2_B : Fld := ⟨11, 0⟩
abbrev TWB_TMG3 (b : Nat) : Loc := .bus b 0x5
abbrev TWB_TMG3_HDDAT : Fld := ⟨15, 8⟩
abbrev TWB_TMG3_SUDAT : Fld := ⟨7, 0⟩
abbrev TWB_STAT (b : Nat) : Loc := .bus b 0x6
abbrev TWB_STAT_PAGE : Fld := ⟨23, 16⟩
abbrev TWB_STAT_ALERT : Fld := ⟨7, 7⟩
abbrev TWB_STAT_WHS_ACT : Fld := ⟨6, 6⟩
abbrev TWB_STAT_MISFIT : Fld := ⟨5, 5⟩
abbrev TWB_STAT_QFULL : Fld := ⟨4, 4⟩
abbrev TWB_STAT_BUSY : Fld := ⟨3, 3⟩
abbrev TWB_STAT_WHS_SEEN : Fld := ⟨2, 2⟩
abbrev TWB_RISE (b : Nat) : Loc := .bus b 0x7
abbrev TWB_RISE_SDA : Fld := ⟨23, 12⟩
abbrev TWB_RISE_SCL : Fld := ⟨11, 0⟩
abbrev TWB_XFER (b : Nat) : Loc := .bus b 0x8
abbrev TWB_XFER_GO : Fld := ⟨23, 23⟩
abbrev TWB_XFER_PEC : Fld := ⟨22, 22⟩
abbrev TWB_XFER_RSTART : Fld := ⟨21, 21⟩
abbrev TWB_XFER_RCNT : Fld := ⟨20, 14⟩
abbrev TWB_XFER_WCNT : Fld := ⟨13, 7⟩
abbrev TWB_XFER_TADDR : Fld := ⟨6, 0⟩
abbrev TWB_RES (b : Nat) : Loc := .bus b 0x9
abbrev TWB_RES_NB : Fld := ⟨11, 6⟩
abbrev TWB_RES_ERR : Fld := ⟨3, 0⟩
abbrev TWB_ALERT (b : Nat) : Loc := .bus b 0xA
abbrev TWB_ALERT_REP : Fld := ⟨7, 4⟩
abbrev TWB_ALERT_PIN : Fld := ⟨2, 2⟩
abbrev TWB_ALERT_TIER : Fld := ⟨1, 0⟩
abbrev TWB_CML (b : Nat) : Loc := .bus b 0xB
abbrev TWB_CML_CML : Fld := ⟨7, 0⟩
abbrev TWB_ERR_CNT (b : Nat) : Loc := .bus b 0xC
abbrev TWB_WHS_CNT (b : Nat) : Loc := .bus b 0xD
abbrev TWB_BUF (b : Nat) (i : Nat) : Loc := .bus b (0x10 + i)
abbrev AGE_CAP_CTL (r : Nat) : Loc := .probe r 0x0
abbrev AGE_CAP_CTL_EN : Fld := ⟨23, 23⟩
abbrev AGE_CAP_CTL_SEL : Fld := ⟨22, 22⟩
abbrev AGE_CAP_CTL_EVERY : Fld := ⟨21, 14⟩
abbrev AGE_CAP_CTL_INJ : Fld := ⟨13, 7⟩
abbrev AGE_CAP_CTL_H : Fld := ⟨6, 0⟩
abbrev AGE_CAP_AMP (r : Nat) : Loc := .probe r 0x1
abbrev AGE_CAP_AMP_DELTA : Fld := ⟨23, 12⟩
abbrev AGE_CAP_AMP_AMIN : Fld := ⟨11, 0⟩
abbrev AGE_CAP_LIM (r : Nat) : Loc := .probe r 0x2
abbrev AGE_CAP_STAT (r : Nat) : Loc := .probe r 0x3
abbrev TPRF_SEL (n b c : Nat) : Loc := .tprf n b (0x0 + 1 * c)
abbrev PPRF_SEL (b c : Nat) : Loc := .pprf b (0x0 + 1 * c)
abbrev PRF_SEL_OVF : Fld := ⟨8, 8⟩
abbrev PRF_SEL_EVT : Fld := ⟨7, 0⟩
abbrev TPRF_CNT_LO (n b c : Nat) : Loc := .tprf n b (0x10 + 2 * c)
abbrev PPRF_CNT_LO (b c : Nat) : Loc := .pprf b (0x10 + 2 * c)
abbrev TPRF_CNT_HI (n b c : Nat) : Loc := .tprf n b (0x11 + 2 * c)
abbrev PPRF_CNT_HI (b c : Nat) : Loc := .pprf b (0x11 + 2 * c)

/-- The bits of a register that the tables give as RW fields that read 0: commands, and the values that confirm one. -/
def Loc.commandBits (l : Loc) : Nat :=
  match l with
  | .pkg o =>
    if o = 0x200 then 0x9 else if o = 0x1003 then 0xFF0002 else if o = 0x1400 then 0x4000 else if o = 0x1809 then 0x10000
    else if o = 0x2241 then 0xFF0000 else if o = 0x2603 then 0xFFFFFF else if o = 0x2C03 then 0x3 else if o = 0x300D then 0x300
    else if o = 0x3205 then 0x1 else if o = 0x3402 then 0xFF0001 else if o = 0x3601 then 0x1F else if o = 0x3603 then 0xFFFFFF
    else if o = 0x3613 then 0xFF0001 else if o = 0x3900 then 0x2 else 0
  | .tile _ o => if o = 0x40 then 0x1F else if o = 0x7000 then 0x2 else 0
  | .port _ o => if o = 0x51 then 0x1 else 0
  | .lane _ o => if o = 0x10 then 0xF else 0
  | .bus _ o => if o = 8 then 0x800000 else 0
  | .fsrc _ => 0x200000
  | _ => 0

end Sys2Proof.Machine
end

