-- ==== Sys2Proof/Machine/Faults.lean ====
section
/-! DEFINITION. The fault source numbers (R345 to R347) and the default classification of every source (R349). -/

namespace Sys2Proof.Machine

/-- How a source's events are classified (R348): tier, count, window, and whether the window is in ms. -/
structure Cls where
  tier : Nat
  n : Nat
  ms : Bool
  w : Nat
  deriving DecidableEq, Repr

/-- Source number of offset `o` of port `p` (R345, R346). -/
def portSrc (p o : Nat) : Nat := 512 + 384 * (p / 16) + 22 * (p % 16) + o

/-- Source number of tile-level source `y` of tile `n` (R345). -/
def tileSrc (n y : Nat) : Nat := 512 + 384 * n + y

/-! Offsets of the sources of one port (R346). -/
abbrev STG_FROZEN_I : Nat := 0
abbrev STG_FROZEN_V : Nat := 1
abbrev STG_OPEN_I_SRC : Nat := 2
abbrev STG_OPEN_V_SRC : Nat := 3
abbrev STG_CLIP_I : Nat := 4
abbrev STG_CLIP_V : Nat := 5
abbrev STG_OC_TRIP : Nat := 6
abbrev STG_RC_TRIP : Nat := 7
abbrev STG_DRV_FLT : Nat := 8
abbrev STG_PWM_SYNC_LOST : Nat := 9
abbrev FAN_STALL : Nat := 10
abbrev FUS_TRIP : Nat := 11
abbrev FUS_RETRY_FAIL : Nat := 12
abbrev FUS_LATCHED : Nat := 13
abbrev FUS_TOGGLE_HELD : Nat := 14
abbrev FUS_CURVE_ORDER : Nat := 15
abbrev ORG_SLOW_OFF : Nat := 16
abbrev ENV_SLOW_OC : Nat := 17
abbrev ENV_VWIN : Nat := 18
abbrev MER_OVERRUN : Nat := 19
abbrev LAN_MEM_DED : Nat := 20
abbrev PHS_GS_ORDER : Nat := 21

/-! Tile-level sources (R346, R395, R465). -/
abbrev STG_PERS_REFUSED : Nat := 352
abbrev ENV_WT_REFUSED : Nat := 353
abbrev LAN_MEM_CE : Nat := 354
abbrev LAN_COST_EXCEED : Nat := 355
abbrev LAN_OUT_PERS : Nat := 356
abbrev LAN_ENVT_REFUSED : Nat := 357
abbrev LAN_LOAD_REFUSED : Nat := 358
abbrev LAN_STW_MPU : Nat := 359
abbrev LAN_STW_DOUBLE : Nat := 360
abbrev LAN_MEM_DED_STW : Nat := 361
abbrev AGE_RO_LOW : Nat := 362
abbrev PRF_TAG_LOST_SRC : Nat := 363
abbrev TRC_TRIGGER : Nat := 364
abbrev DBG_LIVE_REFUSED : Nat := 365

/-! Package sources (R347). -/
abbrev PKG_RSVD_WRITE : Nat := 0
abbrev PKG_FABRIC_ERR : Nat := 1
abbrev PKG_TILE_DOWN : Nat := 2
abbrev PKG_TILE_DOWN_ACCESS : Nat := 3
abbrev MER_SYNC_LOST : Nat := 4
abbrev MER_ALIGN : Nat := 5
abbrev ENV_OTP_ERR : Nat := 6
abbrev BAT_NO_UNIT : Nat := 7
abbrev WDG_EXPIRED : Nat := 8
abbrev WDG_CFG_REFUSED : Nat := 9
abbrev HLD_PFAIL : Nat := 16
abbrev HLD_CAP : Nat := 17
abbrev HLD_BUS_LOW : Nat := 18
abbrev CAP_PIN : Nat := 19
abbrev CAP_WAVE_LATE : Nat := 20
abbrev CAP_WAVE_RIGHTS : Nat := 21
abbrev CAP_WAVE_UNALIGNED : Nat := 22
abbrev TRP_LINK_DOWN : Nat := 24
abbrev TRP_CRC : Nat := 25
abbrev TRP_ROLE_STALE : Nat := 26
abbrev TRP_ALIGN_LOST : Nat := 27
abbrev TRP_RATE_REFUSED : Nat := 28
abbrev TRP_SURVEY_GAP_SRC : Nat := 29
abbrev TRP_TOPOLOGY : Nat := 30
abbrev TRP_DROP_CTL : Nat := 31
abbrev MGT_PATH_DOWN : Nat := 32
abbrev MGT_BOTH_DOWN : Nat := 33
abbrev MGT_MISMATCH : Nat := 34
abbrev MGT_LINK_SPEED : Nat := 35
abbrev MGT_SES_NVM : Nat := 36
abbrev MGT_PTP_LOST : Nat := 37
abbrev TWB_MISFIT : Nat := 40
abbrev TWB_PEC : Nat := 41
abbrev TWB_TIMEOUT_SRC : Nat := 42
abbrev TWB_ARB_SS : Nat := 43
abbrev TWB_BUS_STUCK : Nat := 44
abbrev RGT_DENIED : Nat := 48
abbrev RGT_STRADDLE : Nat := 49
abbrev RGT_MAP_ERR : Nat := 50
/-- Sources of rail `r`, by row of the table of R179. -/
def railSrc (r o : Nat) : Nat := 64 + 8 * r + o
abbrev PHS_PHASE_LOST : Nat := 0
abbrev PHS_LEAD_SWITCH : Nat := 1
abbrev PHS_LEAD_LOST : Nat := 2
abbrev PHS_OVERLOAD : Nat := 3
abbrev PHS_TRUNC : Nat := 4
abbrev PHS_ALLFIRE : Nat := 5
abbrev PHS_UNDERSHOOT : Nat := 6
/-- Sources of string unit `u`. -/
def stringSrc (u o : Nat) : Nat := 192 + 8 * u + o
abbrev BAT_INSERTED : Nat := 0
abbrev BAT_REMOVED : Nat := 1
abbrev BAT_OCV_ORDER : Nat := 2
abbrev BAT_TEMP : Nat := 3
abbrev BAT_EMPTY : Nat := 4
abbrev BAT_LEARN_RANGE : Nat := 5
abbrev BAT_NVM_ERR : Nat := 6
abbrev REC_OVERFLOW : Nat := 448
abbrev REC_NVM_ERR : Nat := 449
abbrev REC_PERM_FULL : Nat := 450
abbrev AGE_VCORE_LIMIT : Nat := 456
abbrev AGE_AVS_FAIL : Nat := 457
abbrev AGE_EOL_REACHED : Nat := 458
abbrev AGE_NVM_ERR : Nat := 459
abbrev PWS_EXIT_LATE : Nat := 464
abbrev PWS_ENTRY_CANCEL : Nat := 465
abbrev PWS_KEEP_ABANDON : Nat := 466
abbrev BOOT_IMAGE_FAIL : Nat := 472
abbrev BOOT_LANE_REFUSED : Nat := 473
abbrev BOOT_SETTINGS_ERR : Nat := 474
abbrev BOOT_RECORD_ERR : Nat := 475
abbrev UPD_VERIFY_FAIL : Nat := 480
abbrev UPD_ACT_FAIL : Nat := 481
abbrev UPD_FALLBACK : Nat := 482
abbrev UPD_FLASH_ERR : Nat := 483
abbrev DBG_SESSION_SRC : Nat := 488
abbrev DBG_HARD_HALT : Nat := 489

/-- A source with a tier alone: N is 1 and W is 1 tick (R349). -/
def Cls.tierOnly (t : Nat) : Cls := ⟨t, 1, false, 1⟩

/-- Default of the sources of one port in a personality (R153, R179, R197, R232, R349). -/
def portCls (pers o : Nat) : Cls :=
  match o with
  | 0 => .tierOnly (if pers = 4 then 1 else 2)
  | 1 => .tierOnly (if pers = 4 then 1 else 2)
  | 2 => .tierOnly 2
  | 3 => .tierOnly 2
  | 4 => ⟨1, 8, false, 64⟩
  | 5 => ⟨1, 8, false, 64⟩
  | 6 => .tierOnly (if pers = 1 then 1 else 0)
  | 7 => .tierOnly 1
  | 8 => .tierOnly 2
  | 9 => .tierOnly 1
  | 10 => .tierOnly 1
  | 11 => .tierOnly 1
  | 12 => .tierOnly 0
  | 13 => .tierOnly 1
  | 14 => .tierOnly 0
  | 15 => .tierOnly 1
  | 16 => .tierOnly 0
  | 17 => .tierOnly 2
  | 18 => ⟨2, 4, false, 4⟩
  | 19 => .tierOnly 2
  | 20 => .tierOnly 2
  | 21 => .tierOnly 1
  | _ => .tierOnly 0

/-- Default of the tile-level sources (R349, R395, R465). -/
def tileCls (y : Nat) : Cls :=
  match y with
  | 356 => .tierOnly 1
  | 359 => .tierOnly 2
  | 360 => .tierOnly 3
  | 361 => .tierOnly 2
  | 362 => ⟨2, 10, true, 10⟩
  | 365 => .tierOnly 1
  | _ => .tierOnly 0

/-- Default of the package sources (R347, R349 and the fault source table of each chapter). -/
def pkgCls (x : Nat) : Cls :=
  if 64 ≤ x ∧ x < 192 then
    match x % 8 with
    | 0 => .tierOnly 1
    | 1 => .tierOnly 1
    | 2 => ⟨2, 16, false, 16⟩
    | 3 => .tierOnly 1
    | _ => .tierOnly 0
  else if 192 ≤ x ∧ x < 448 then
    match x % 8 with
    | 0 => .tierOnly 0
    | 5 => .tierOnly 0
    | 7 => .tierOnly 0
    | _ => .tierOnly 1
  else if x = 18 then ⟨2, 16, false, 16⟩
  else if x = 25 then ⟨0, 64, true, 1000⟩
  else if x = 41 then ⟨0, 16, true, 1000⟩
  else if x ∈ [6, 50] then .tierOnly 3
  else if x ∈ [2, 5, 8, 27, 28, 33, 44, 457, 482] then .tierOnly 2
  else if x ∈ [1, 4, 7, 9, 16, 17, 20, 21, 24, 29, 30, 31, 32, 34, 35, 36, 37, 40, 42, 43, 49, 448, 449, 456, 458, 459,
      464, 465, 472, 473, 474, 475, 480, 481, 483, 488, 489] then .tierOnly 1
  else .tierOnly 0

/-- The default classification of source `x`, in personality `pers` of its port (R349). -/
def defaultCls (pers x : Nat) : Cls :=
  if x < 512 then pkgCls x
  else if (x - 512) % 384 < 352 then portCls pers ((x - 512) % 384 % 22)
  else tileCls ((x - 512) % 384)

/-- FLT_CLS of a classification (R361). -/
def Cls.clsWord (c : Cls) : Word := BitVec.ofNat 24 (c.n * 2 ^ 16 + (if c.ms then 2 ^ 15 else 0) + c.w)

/-- FLT_SRC of a classification, nothing seen (R361). -/
def Cls.srcWord (c : Cls) : Word := BitVec.ofNat 24 (c.tier * 2 ^ 22)

/-- The classification that FLT_CLS and FLT_SRC hold. -/
def Cls.ofWords (c r : Word) : Cls := ⟨FLT_SRC_TIER.get r, FLT_CLS_N.get c, FLT_CLS_WUNIT.on c, FLT_CLS_W.get c⟩

/-- The port of a source, if a port owns it (R345, R346). -/
def srcPort (x : Nat) : Option Nat :=
  if x < 512 then none
  else if (x - 512) % 384 < 352 then some (16 * ((x - 512) / 384) + (x - 512) % 384 / 22) else none

/-- The tile of a source: tile 0 for a package source (R351). -/
def srcTile (x : Nat) : Nat := if x < 512 then 0 else (x - 512) / 384

/-- The rights that an arrival port has before the map is sealed, LIVE in bit 5 (R335). -/
def defaultRights (p : Nat) : Nat :=
  if p = 0 ∨ p = 12 then 0x3F else if 13 ≤ p ∧ p ≤ 20 then 0x0F else 0x01

/-- What a register holds at reset (R10), with the values of R335, R231, R349, R351 and R312 for the registers whose instances differ. -/
def Loc.reset (l : Loc) : Word :=
  match l with
  | .fcls x => (defaultCls 0 x).clsWord
  | .fsrc x => (defaultCls 0 x).srcWord
  | .cram _ _ => 0
  | .port _ 0x87 => 0x20
  | .bus b 0 => if b = 0 then 0xBB0080 else 0xBB0000
  | .pkg 0x1000 => 0x20
  | .pkg 0x2400 => 0x01
  | .pkg 0x2401 => 0x03
  | .pkg 0x2402 => 0x07
  | .pkg 0x2403 => 0x37
  | .pkg o =>
    if 0x2220 ≤ o ∧ o < 0x2235 then BitVec.ofNat 24 (defaultRights (o - 0x2220))
    else match l.desc with | some d => BitVec.ofNat 24 d.rst | none => 0
  | l => match l.desc with | some d => BitVec.ofNat 24 d.rst | none => 0

/-- What the word at a gazetteer address holds at reset. -/
def resetWord (a : Nat) : Word := match locate a with | some l => l.reset | none => 0

end Sys2Proof.Machine
end

