-- ==== Sys2Proof/Machine/Pairing.lean ====
section
/-! DEFINITION. What each instruction reads and writes and when (R94, R108), the pairing rules (R93, R110), and the reserved encodings
that a well-formed command can still spell (R85). -/

namespace Sys2Proof.Machine

/-! ### What an instruction reads and writes

Resources are numbered: d 0 to 15, a 16 to 19, p 20 to 27, P0 28, P1 29, the other flags of c0 30, c7 31. -/

/-- What the pairing rules and the cost model ask of an instruction (R93, R94, R108, R110). -/
structure InsInfo where
  reads : List Nat := []
  /-- Resources written, with the result latency (R60). -/
  writes : List (Nat × Nat) := []
  /-- The accumulator read as the addend of MAC or MSU, and whether MPY, MAC or MSU writes it (R94). -/
  addend : Option Nat := none
  chain : Bool := false
  mem : Bool := false
  transfer : Bool := false
  system : Bool := false
  portFmt : Bool := false
  /-- LOCK, UNLOCK and TICKEND: slot 1 only, beside another format-P instruction in slot 0. -/
  seqEnd : Bool := false
  shared : Bool := false
  ldc : Bool := false
  sco : Bool := false
  steward : Bool := false
  laneOnly : Bool := false
  mvc0 : Bool := false
  isNop : Bool := false
  deriving DecidableEq, Repr

def xA (n : Nat) : Nat := 16 + n
def xP (n : Nat) : Nat := 20 + n
def xPred (p1 : Bool) : Nat := if p1 then 29 else 28

/-- An instruction from data registers to a data register that sets flags, latency 1. -/
def infoAlu (d : Nat) (srcs : List Nat) (sat : Bool) : InsInfo :=
  { reads := srcs, writes := [(d, 1), (30, 1)] ++ if sat then [(31, 1)] else [] }
/-- A multiply-accumulate instruction to an accumulator, latency 2. -/
def infoAcc (ad : Nat) (srcs : List Nat) : InsInfo := { reads := srcs, writes := [(xA ad, 2), (30, 2)] }
/-- A multiply-accumulate instruction to a data register, latency 2. -/
def infoMacD (d : Nat) (srcs : List Nat) (sat : Bool) : InsInfo :=
  { reads := srcs, writes := [(d, 2), (30, 2)] ++ if sat then [(31, 2)] else [] }
/-- A pointer access: the pointer is read, and written with latency 1 under a modifying mode. -/
def infoMem (pb : Nat) (m : AMode) (reads : List Nat) (writes : List (Nat × Nat)) : InsInfo :=
  { reads := xP pb :: reads, writes := writes ++ (if m = .offset then [] else [(xP pb, 1)]), mem := true }
/-- A control transfer. -/
def infoJump (reads : List Nat) (writes : List (Nat × Nat)) (steward : Bool) : InsInfo :=
  { reads := reads, writes := writes, transfer := true, steward := steward }
/-- A system instruction. -/
def infoSys (reads : List Nat) (writes : List (Nat × Nat)) : InsInfo :=
  { reads := reads, writes := writes, system := true, steward := true }

/-- The resource that a predicate code reads (R86). -/
def predReads (pred : Nat) : List Nat :=
  match pred with
  | 0 => []
  | 1 => [28]
  | 2 => [28]
  | 3 => [29]
  | 4 => [29]
  | _ => [30]

/-- What an instruction asks, its predicate apart. A command that is no instruction has the default. -/
def insInfo : Instr → InsInfo
  | .nop _ => { isNop := true }
  | .add _ d a b => infoAlu d [a, b] false
  | .adds _ d a b => infoAlu d [a, b] true
  | .sub _ d a b => infoAlu d [a, b] false
  | .subs _ d a b => infoAlu d [a, b] true
  | .addu _ d a b => infoAlu d [a, b] true
  | .subu _ d a b => infoAlu d [a, b] true
  | .neg _ d a => infoAlu d [a] false
  | .negs _ d a => infoAlu d [a] true
  | .abs _ d a => infoAlu d [a] false
  | .abss _ d a => infoAlu d [a] true
  | .min _ d a b => infoAlu d [a, b] false
  | .max _ d a b => infoAlu d [a, b] false
  | .clip _ d a b => infoAlu d [a, b] false
  | .norm _ d a => infoAlu d [a] false
  | .and _ d a b => infoAlu d [a, b] false
  | .or _ d a b => infoAlu d [a, b] false
  | .xor _ d a b => infoAlu d [a, b] false
  | .not _ d a => infoAlu d [a] false
  | .asr _ d a b => infoAlu d [a, b] false
  | .lsr _ d a b => infoAlu d [a, b] false
  | .lsl _ d a b => infoAlu d [a, b] false
  | .lsls _ d a b => infoAlu d [a, b] true
  | .cmp _ p a b _ => { reads := [a, b], writes := [(xPred p, 1)] }
  | .addi _ d a _ => infoAlu d [a] false
  | .addis _ d a _ => infoAlu d [a] true
  | .andi _ d a _ => infoAlu d [a] false
  | .ori _ d a _ => infoAlu d [a] false
  | .xori _ d a _ => infoAlu d [a] false
  | .asri _ d a _ => infoAlu d [a] false
  | .lsri _ d a _ => infoAlu d [a] false
  | .lsli _ d a _ => infoAlu d [a] false
  | .lslis _ d a _ => infoAlu d [a] true
  | .cmpi _ p a _ _ => { reads := [a], writes := [(xPred p, 1)] }
  | .paddi _ d a _ => { reads := [xP a], writes := [(xP d, 1)] }
  | .trap _ _ => infoSys [] []
  | .mpy _ d a b _ => { infoAcc d [a, b] with chain := true }
  | .mac _ d a b _ => { infoAcc d [a, b, xA d] with chain := true, addend := some (xA d) }
  | .msu _ d a b _ => { infoAcc d [a, b, xA d] with chain := true, addend := some (xA d) }
  | .mpyd _ d a b _ _ => infoMacD d [a, b] true
  | .macd _ d a b _ _ => infoMacD d [a, b, d] true
  | .aclr _ d => { writes := [(xA d, 2)] }
  | .aadd _ d a b => infoAcc d [xA a, xA b]
  | .asub _ d a b => infoAcc d [xA a, xA b]
  | .ash _ d a b => infoAcc d [xA a, b]
  | .mvda _ d a _ => infoAcc d [a]
  | .satw _ d a _ => infoMacD d [xA a] true
  | .wrw _ d a _ => infoMacD d [xA a] false
  | .satg _ d a _ => infoMacD d [xA a] true
  | .satc _ d a => infoMacD d [xA a] true
  | .aget _ d a _ => { reads := [xA a], writes := [(d, 2)] }
  | .aput _ d a _ => { reads := [a, xA d], writes := [(xA d, 2)] }
  | .mov _ d a => { reads := [a], writes := [(d, 1)] }
  | .mvp _ d a => { reads := [a], writes := [(xP d, 1)] }
  | .mpd _ d a => { reads := [xP a], writes := [(d, 1)] }
  | .mvc _ c7 a => { reads := [a], writes := if c7 then [(31, 1)] else [(28, 1), (29, 1), (30, 1)], mvc0 := !c7 }
  | .mcd _ d c => { reads := if c = 0 then [28, 29, 30] else if c = 7 then [31] else [], writes := [(d, 1)] }
  | .movl _ d _ => { writes := [(d, 1)] }
  | .movh _ d _ => { reads := [d], writes := [(d, 1)] }
  | .movp _ d _ => { writes := [(xP d, 1)] }
  | .ld _ d pb m _ _ => infoMem pb m [] [(d, 2)]
  | .st _ d pb m _ => infoMem pb m [d] []
  | .ldc _ d pb m _ _ => { infoMem pb m [] [(d, 2)] with shared := true, ldc := true }
  | .stc _ d pb m _ => { infoMem pb m [d] [(30, 1)] with steward := true }
  | .ldg _ d b _ => { reads := [b], writes := [(d, 2), (30, 2)], mem := true, steward := true }
  | .stg _ d b _ => { reads := [d, b], writes := [(30, 1)], mem := true, steward := true }
  | .ldp _ d pb m _ _ => infoMem pb m [] [(xP d, 2)]
  | .stp _ d pb m _ => infoMem pb m [xP d] []
  | .br _ _ => infoJump [] [] false
  | .call _ _ => infoJump [] [(xP 7, 1)] true
  | .loop _ cr _ _ => infoJump (match cr with | some r => [r] | none => []) [] false
  | .jmp _ a => infoJump [a] [] true
  | .callr _ a => infoJump [a] [(xP 7, 1)] true
  | .ret _ => infoJump [xP 7] [] true
  | .reti _ => infoJump [] [(28, 1), (29, 1), (30, 1)] true
  | .wait _ => infoSys [] []
  | .mvs _ _ a => infoSys [a] []
  | .msv _ d _ => infoSys [] [(d, 1)]
  | .mpuw _ a b => infoSys [a, b, b + 1, b + 2] []
  | .smp _ d o _ => { writes := [(d, 2)], portFmt := true, laneOnly := true, shared := o.isSome }
  | .out _ a _ => { reads := [a], writes := [(30, 1)], portFmt := true, laneOnly := true }
  | .xchs _ a _ => { reads := [a], portFmt := true, laneOnly := true }
  | .xchr _ d _ _ p _ => { writes := [(d, 2), (xPred p, 2)], portFmt := true, shared := true }
  | .sco _ d _ => { writes := [(d, 1)], portFmt := true, laneOnly := true, sco := true }
  | .tbl _ d x pb _ => { reads := [x, xP pb], writes := [(d, 4)], portFmt := true, laneOnly := true, shared := true }
  | .envt _ a _ p => { reads := [a], writes := [(xPred p, 1)], portFmt := true, laneOnly := true }
  | .lock _ => { portFmt := true, seqEnd := true }
  | .unlock _ => { portFmt := true, seqEnd := true }
  | .tickend _ => { portFmt := true, seqEnd := true, laneOnly := true }
  | _ => {}

/-- May the two instructions share a bundle (R93, R108, R110)? -/
def mayPair (x y : Instr) : Bool :=
  let a := insInfo x
  let b := insInfo y
  let regs (l : List (Nat × Nat)) : List Nat := (l.map (·.1)).filter (fun r => decide (r < 30))
  !(a.mem && b.mem) && !a.transfer && !b.system && !(a.system && !b.isNop)
    && (regs a.writes).all (fun r => !(regs b.writes).contains r)
    && !(a.mvc0 && b.writes.any (fun r => decide (28 ≤ r.1) && decide (r.1 ≤ 30)))
    && !(b.mvc0 && a.writes.any (fun r => decide (28 ≤ r.1) && decide (r.1 ≤ 30)))
    && !a.seqEnd && !(a.portFmt && b.portFmt && !b.seqEnd)
    && !(a.shared && !a.ldc && b.ldc) && !(b.shared && !b.ldc && a.ldc)

/-! ### Reserved encodings and bundles of a steward (R85, R93) -/

/-- A reserved encoding whose fields are each in range: a pointer loaded or stored through itself under a modifying mode, LOOP with a
predicate or an empty body, MPUW above d13, LOCK, UNLOCK or TICKEND with a predicate (R85, R100, R103, R104, R108). -/
def reservedForm : Instr → Bool
  | .ldp _ d b m _ _ => d == b && m != .offset
  | .stp _ d b m _ => d == b && m != .offset
  | .loop i _ _ len => i.pred != 0 || len == 0
  | .mpuw _ _ b => decide (13 < b)
  | .lock i => i.pred != 0
  | .unlock i => i.pred != 0
  | .tickend i => i.pred != 0
  | _ => false

/-- May the instruction stand in its slot (R93, R108)? -/
def slotFits (slot1 : Bool) (x : Instr) : Bool :=
  let a := insInfo x
  if slot1 then !a.system else !a.transfer && !a.seqEnd

end Sys2Proof.Machine
end

