-- ==== Sys2Proof/Machine/Units.lean ====
section
/-! DEFINITION. The state of the units behind the registers: cores, ports, tick engine, tiles, fault collectors,
recorder. Every field's default is its value at reset. -/

namespace Sys2Proof.Machine

open Sys2Proof

/-! ### Cores: lanes 0 to 127, stewards 128 to 135 (R56, R57) -/

/-- The registers of a core that a LOCK sequence saves (R125), which are also what a bundle's slots read (R92). -/
structure CoreRegs where
  d : Tab Word := []
  a : Tab Acc := []
  p : Tab Ptr := []
  c0 : Word := 0
  c7 : Word := 0
  deriving DecidableEq, Repr

/-- One active LOOP level: first and last bundle of its body, the present iteration, the iterations in all (R103). -/
structure LoopLevel where
  first : Nat
  last : Nat
  i : Nat
  n : Nat
  deriving DecidableEq, Repr

/-- A write held in a LOCK sequence (R125). -/
inductive HeldWrite where
  /-- ST or STP: word of own data memory. -/
  | mem (a : Nat) (w : Word)
  /-- OUT of a target, its value as judged at issue. -/
  | out (tgt : Nat) (w : Word)
  /-- XCHS. -/
  | xchs (word : Nat) (w : Word)
  /-- ENVT of a field. -/
  | envt (field : Nat) (w : Word)
  /-- STC. -/
  | stc (a : Nat) (w : Word)
  /-- STG. -/
  | stg (a : Nat) (w : Word)
  deriving DecidableEq, Repr

/-- An open LOCK sequence: the saved registers, the LOCK bundle's address, the instructions it has held so far, the
writes held, oldest first. -/
structure LockSeq where
  saved : CoreRegs
  at_ : Nat
  n : Nat
  held : List HeldWrite
  deriving DecidableEq, Repr

/-- A gazetteer access that holds a steward (R101). -/
inductive StwAccess where
  | ldg (d a : Nat)
  | stg (a : Nat) (w : Word)
  /-- The STG writes of a LOCK sequence (R125). -/
  | commit (l : List (Nat × Word))
  /-- A write to the coefficient and table RAM that finds the write buffer full (R63). -/
  | stc (a : Nat) (w : Word)
  deriving DecidableEq, Repr

/-- A record of a tagged bundle (R452), with the bundle's words, from which its writeback cycles follow. -/
structure TagRec where
  lane : Nat
  addr : Nat
  ex0 : Bool
  ex1 : Bool
  cause : Nat
  count : Nat
  issue : Nat
  stall : Nat
  bundle : BitVec 64
  deriving DecidableEq, Repr

/-- A lane or a steward (R56). -/
structure Core where
  r : CoreRegs := {}
  /-- Privileged registers s0 to s7 (R105), their defaults in `sDefault`. -/
  s : Tab Word := []
  /-- Protection descriptor words, region × 4 + word (R69). -/
  mpu : Tab Word := []
  loops : List LoopLevel := []
  pc : Nat := 0
  /-- The core issues bundles: a lane between its start and its end of tick, a steward while it is not stopped. -/
  running : Bool := false
  /-- The registers as they stood before the bundle in progress, once its slot 0 has issued. -/
  snap : Option CoreRegs := none
  /-- What a bundle's slot 0 stored, to be undone by a precise exception of its slot 1 (R106): data memory index and
  former word; and whether it put a word into the write buffer. -/
  undoMem : Option (Nat × Word) := none
  undoStc : Bool := false
  /-- The instruction that slot 0 of the bundle in progress held (R93), and where that was a system instruction, the privileged
  registers, the protection descriptors and the wait state before it, which a precise exception of slot 1 brings back (R106). -/
  first : Option Instr := none
  undoPriv : Option (Tab Word × Tab Word × Bool) := none
  /-- The address that a control transfer of the bundle in progress continues at. -/
  jump : Option Nat := none
  lock : Option LockSeq := none
  /-- TICKEND has retired in this tick. -/
  retired : Bool := false
  /-- Consecutive ticks in which the lane overran (R49). -/
  overruns : Nat := 0
  /-- WAIT has stopped the steward (R104). -/
  waiting : Bool := false
  /-- A precise exception halted the steward (R106). -/
  dead : Bool := false
  /-- Halted for debug (R461, R462). -/
  halted : Bool := false
  /-- A halt request that waits for UNLOCK, the bundle boundary or the running bundle (R126, R461, R462). -/
  haltPend : Bool := false
  /-- The gazetteer access that holds the steward (R101). -/
  access : Option StwAccess := none
  /-- The steward has just resumed: the bundle it stood at issues whatever its breakpoints say (R461, log entry 82). -/
  stepping : Bool := false
  /-- A double memory error stopped the lane for the rest of the tick (R65). -/
  memStop : Bool := false
  /-- LAN_CTL.RUN as it stood at the last tick boundary (R70). -/
  runOn : Bool := false
  /-- A steward's active code bank, and which of its banks hold verified code (R67, R78). -/
  bank : Nat := 0
  verified : Tab Bool := []
  /-- The core's tile dozes or the package is in Lull: the core is in retention (R398). -/
  asleep : Bool := false
  /-- The cycle at which the last bundle issued, or the one before the start (R451). -/
  lastIssue : Nat := 319
  /-- The tag shift register, once a write or a bundle has set it; the record of the tagged bundle in progress (R452). -/
  lfsr : Option (BitVec 32) := none
  tag : Option TagRec := none
  /-- A RESUME that takes effect at the next S (R462). -/
  resume : Bool := false
  deriving DecidableEq, Repr

/-! ### Stage ports -/

/-- One sense channel (R137, R138): the run of near-equal raw codes and the unseen pulses. -/
structure Chan where
  runCode : Int := 0
  runLen : Nat := 0
  unseen : Nat := 0
  isOpen : Bool := false
  deriving DecidableEq, Repr

/-- A value waiting for its update point: the first lane cycle since the running tick's S at which it may apply; the time
from the S of the tick that issued it to the S of the running tick, in 78.125 ps units; and whether that tick's delay is
measured already (R116, R173). -/
structure PendOut where
  w : Word
  due : Nat
  age : Nat := 0
  meas : Bool := false
  /-- The value that its slew was measured from (R115). -/
  ref : Word := 0
  deriving DecidableEq, Repr

/-- Sync-mode generator (R144): last accepted interval and the interval before the present edge, in 78.125 ps units,
unaccepted edges in a row, edges within 1 % of one another in a row, time since the last accepted edge. -/
structure PwmSync where
  acc : Nat := 0
  bad : Nat := 0
  /-- The run of consecutive intervals within 1 % of one another: how many, the shortest and the longest. -/
  good : Nat := 0
  lo : Nat := 0
  hi : Nat := 0
  /-- Place of the last accepted edge, from the running tick's S, in 78.125 ps units. -/
  at_ : Int := 0
  deriving DecidableEq, Repr

/-- The generator of a port (R141 to R144): the block in force, its place from the running tick's S, length, offset and number of periods;
the index of the next period to start; the R141 length of the running period, and whether its middle is still to come. -/
structure GenSt where
  at_ : Int := 0
  len : Nat := 0
  ofs : Nat := 0
  m : Nat := 1
  next : Nat := 0
  per : Nat := 0
  mid : Bool := false
  deriving DecidableEq, Repr

/-- A stage port (chapters Stage ports and The safety-net envelope). -/
structure PortSt where
  /-- The personality in force, and personality and enable writes that wait for the next S (R129, R131). -/
  persNow : Nat := 0
  persNext : Option Nat := none
  enNext : Option Bool := none
  /-- Lane sample registers (R112). -/
  smpI : Word := 0
  smpV : Word := 0
  ipk : Word := 0
  ivl : Word := 0
  vpk : Word := 0
  vvl : Word := 0
  smpT : Word := 0
  /-- The conversion at S alone, calibrated, of the current channel (R185). -/
  lastI : Word := 0
  /-- Latest slow conversion, taken over at S (R135). -/
  slowT : Word := 0
  chI : Chan := {}
  chV : Chan := {}
  /-- OUT values that wait, with their targets, in the order of their issue (R116), values applied, by target, and values stored while OFF (R131). -/
  pend : List (Nat × PendOut) := []
  applied : Tab Word := []
  stored : Tab (Option Word) := []
  /-- On-times in force at the start and the middle of the period, in 78.125 ps units, the nominal pulse they give, and
  the SHIFT in force (R142). -/
  onS : Nat := 0
  onM : Nat := 0
  rise : Nat := 0
  fall : Nat := 0
  /-- Start of the present period, from the running tick's S, in 78.125 ps units. -/
  start : Int := 0
  shift : Word := 0
  /-- Levels before inversion while no pulse runs: active or inactive (R145, R225). -/
  ga : Bool := false
  gb : Bool := false
  /-- The fast comparator or the fault input holds the gates inactive (R146, R148). -/
  ocHold : Bool := false
  drvHold : Bool := false
  /-- The reverse-current comparator's output is active; the fault input is low (R147, R148). -/
  rcActive : Bool := false
  fltLow : Bool := false
  /-- The comparators fired, and FLT_N was low, in the present interval (R140, R153). -/
  ocFired : Bool := false
  rcFired : Bool := false
  drvSeen : Bool := false
  /-- The fast limits before tightenings that the comparator may not have taken yet, and the lane cycles by which it has (R222). -/
  cmpOld : List (Word × Nat) := []
  /-- Tightenings by ENVT that apply from a lane cycle on: register offset, value, cycle (R122). -/
  envPend : List (Nat × Word × Nat) := []
  /-- A tightening of duty or off-time re-limits the value in force at the next update point (R222). -/
  relimit : Bool := false
  /-- Tach: an edge has started a period (R152). -/
  tachRun : Bool := false
  sync : PwmSync := {}
  /-- Average of R223, with 24 extra fraction bits. -/
  savg : Nat := 0
  /-- The delay of the running tick's OUTs is measured (R173). -/
  measured : Bool := false
  /-- Carousel offset in force (R143, R164). -/
  carOfs : Nat := 0
  /-- Truncation holds the member's pulses, until the first period start after its release, and since when (R168). -/
  trunc : Bool := false
  truncAt : Int := 0
  /-- The all-fire pulse: when it was fired, when GA rises and when it falls (R169). -/
  fire : Option (Int × Int × Int) := none
  /-- The port turned ON and its generator waits for the first period start (R131). -/
  firstStart : Bool := false
  /-- The perturbation that the capacitor probe adds to the duty, and the duty that the generator used last (R386). -/
  pert : Int := 0
  dutyNow : Word := 0
  /-- ENV_SLOW as the last load set it (R231, R391). -/
  slowLd : Word := 0
  /-- Starts of the periods since the last S, newest first, and whether the on-time of each lies between 0 and the period (R137). -/
  swing : List (Int × Bool) := []
  /-- Rise and fall of the pulses since the S before the last, newest first (R385). -/
  pulsed : List (Int × Int) := []
  gen : GenSt := {}
  /-- Until when the dead time after the period before keeps GB inactive; recent rising edges of GA and GB, newest first (R142, R146). -/
  tail : Int := 0
  edges : List Int := []
  /-- The last eight calibrated voltage conversions at S, newest first (R167). -/
  tailV : List Int := []
  deriving DecidableEq, Repr

/-- What a target holds before anything is applied to it: the lane ceiling is full scale (R181). -/
def appDefault (tgt : Nat) : Word := if tgt = 2 then 0x7FFFFF else 0

/-- The value last applied to a target (R116). -/
def PortSt.app (x : PortSt) (tgt : Nat) : Word := Tab.get (appDefault tgt) x.applied tgt

/-- A value is applied to a target. -/
def PortSt.setApp (x : PortSt) (tgt : Nat) (w : Word) : PortSt := { x with applied := Tab.set (appDefault tgt) x.applied tgt w }

/-- The fuse unit or OR-ing unit of a port (chapter Hot insertion, fusing and OR-ing). Its state is FUS_STAT.STATE or
ORG_STAT.STATE. -/
structure FuseSt where
  /-- The unit's own gate reference (R183, R193) and the reference that GB carries (R181). -/
  gref : Int := 0
  gb : Int := 0
  /-- The trip accumulator U (R186). -/
  u : Nat := 0
  /-- The curve as it stood at the last S at which it was valid: currents and times (R185). -/
  curve : Option (List (Int × Nat)) := none
  /-- The mean voltages of the last grid point and of the first one of the attempt (R183, R188). -/
  vm : Int := 0
  v0 : Int := 0
  /-- An entry to INRUSH has been made since the last grid point. -/
  fresh : Bool := false
  /-- The off-time since the last trip or failed retry runs (R191). -/
  offRuns : Bool := false
  /-- The attempt that WAIT leads to is a retry (R188, R191). -/
  isRetry : Bool := false
  /-- Shedding put the unit in OFF (R282). -/
  shedOff : Bool := false
  /-- Causes of trips that the next grid point takes (R187), and a toggle that it takes. -/
  trips : List Nat := []
  toggle : Bool := false
  deriving DecidableEq, Repr

/-! ### OTP (R229, R336, R445) -/

/-- The one-time-programmable memory: programmed bits stay 1 (R9). -/
structure OtpSt where
  /-- Envelope generations, generation × 1,026 + word; how many are sealed; the lock fuse (R229, R230). -/
  env : Tab Word := []
  sealed : Nat := 0
  lock : Bool := false
  /-- The rights map: words 0 to 20 by port, 21 and 22 its CRC; sealed (R336). -/
  rights : Tab Word := []
  rightsSealed : Bool := false
  /-- Key-hash words, slot × 16 + word; slots programmed, as bits; revocation bits (R445, R446). -/
  keys : Tab Word := []
  prog : Nat := 0
  revoked : Nat := 0
  deriving DecidableEq, Repr

/-! ### Battery strings and hold-up -/

/-- A copy in MRAM: its content and the CRC-32C written with it (R209, R497). -/
structure MramCopy (α : Type) where
  body : α
  crc : BitVec 32
  deriving DecidableEq, Repr

/-- Two alternating copies in MRAM; none where no whole content has been written (R209). -/
structure MramPair (α : Type) where
  a : Option (MramCopy α) := none
  b : Option (MramCopy α) := none
  deriving DecidableEq, Repr

/-- A copy of a string record (R209). -/
structure StrRec where
  seq : Nat
  qfull : Word
  res : Word
  cyc : Word
  hours : Nat
  deriving DecidableEq, Repr

/-- A string unit (chapter Battery strings and hold-up). -/
structure StringSt where
  /-- The charge count (R203). -/
  q : Nat := 0
  /-- A learning run is valid (R207); the charge discharged since BAT_CYC last rose. -/
  run : Bool := false
  out : Nat := 0
  /-- I and V of the last tick, once one has come (R208). -/
  last : Option (Int × Int) := none
  /-- The unit has estimated, with V at or above VPRES, in every tick since boot (R202, log entry 100). -/
  atBoot : Bool := true
  /-- Lane cycles of consecutive ticks with V at or above VPRES, and consecutive ticks below it (R201). -/
  above : Nat := 0
  below : Nat := 0
  /-- Lane cycles of consecutive rest (R205). -/
  rest : Nat := 0
  /-- Lane cycles for which the end-of-charge and the end-of-discharge conditions have held; none: the window has completed
  and waits for a tick that breaks it (R206). -/
  eoc : Option Nat := some 0
  eod : Option Nat := some 0
  /-- The string became present in this tick of HOLD; its port was ON at the last S (R217). -/
  fresh : Bool := false
  onS : Bool := false
  /-- The two copies in MRAM; the one that a running write makes; a further write is due (R209). -/
  copies : MramPair StrRec := {}
  writing : Option StrRec := none
  again : Bool := false
  deriving DecidableEq, Repr

/-- The hold-up unit. -/
structure HldSt where
  /-- Load power with 24 extra fraction bits (R212). -/
  plf : Int := 0
  /-- A recognised assertion, or a tick with vbus at or below VDIS, since the last S (R215); PFAIL_N is low. -/
  asserted : Bool := false
  busLow : Bool := false
  pinLow : Bool := false
  /-- The same two of the tick that the last S ended: HOLD may begin at that S (R215). -/
  due : Bool × Bool := (false, false)
  /-- Lane cycles of consecutive ticks with PFAIL_N high and vbus at or above VREL; none: PFAIL_N was low in this tick (R215). -/
  rel : Option Nat := some 0
  /-- The cap level rose in this tick; the entry requested (R216). -/
  rose : Bool := false
  capReq : Option Nat := none
  /-- Battery ports that no enabled unit serves (R199). -/
  noUnit : List Nat := []
  deriving DecidableEq, Repr

/-! ### Troupe links (chapter Troupe links and the survey) -/

/-- A stream's receiving side (R251, R252, R254): its source, the highest accepted number, the marks (bit k for e − k),
the number up to which nothing is missing, the last commands' results, and whether an ACK is owed. -/
structure Stream where
  src : Nat
  e : Nat
  marks : Nat
  full : Nat
  results : List (Nat × List Word) := []
  owed : Bool := false
  deriving DecidableEq, Repr

/-- An alarm entry (R245) with its age: `n` is the address of the device that raised the event or, in a summary, the
number of folded events; `born` is the meridian count at which it came. -/
structure AEnt where
  tier : Nat
  sum : Bool
  code : Nat
  n : Nat
  born : Nat
  deriving DecidableEq, Repr

/-- A cell that waits for a slot: forwarded or originated, when it arrived (R248), and whether its CRC was wrong there (R249). -/
structure QCell where
  c : Cell
  fwd : Bool
  count : Nat
  cyc : Nat
  bad : Bool := false
  deriving DecidableEq, Repr

/-- The delimiter character that opens a slot (R238). -/
inductive Delim where
  | k27_7
  | k28_5
  deriving DecidableEq, Repr

/-- What a slot sends (R238, R244). -/
inductive Tx where
  | idle
  | cell (c : Cell)
  | marker (m : Marker)
  deriving DecidableEq, Repr

/-- The survey of a string by the device that heads it (R266): the position, what is awaited (0 an answer to DISCOVER,
1 the assignment, 2 the answer to ASSIGN, 3 DONE, 4 nothing: the string has ended, 5 a probe of a gap), whether it was
sent twice, and the device found. -/
structure HeadSt where
  pos : Nat := 1
  phase : Nat := 0
  again : Bool := false
  uid : Nat := 0
  addr : Nat := 0
  epoch : Nat := 0
  deriving DecidableEq, Repr

/-- A troupe link. -/
structure LinkSt where
  /-- The control queue, the shared queue, and the shed cells that wait (R240), oldest first. -/
  ctl : List QCell := []
  shared : List QCell := []
  sheds : List QCell := []
  /-- What the present slot carries, and the delimiter that opened it. -/
  out : Option Tx := none
  delim : Option Delim := none
  /-- Arrival times sent back in RX: of the last echo, of the last marker (R244, R257). -/
  rx4 : Int := 0
  rx2 : Int := 0
  /-- An alarm cell to acknowledge in the next marker (R263). -/
  almAck : Option Nat := none
  head : Option HeadSt := none
  /-- The next echo carries LULL (R260). -/
  lull : Bool := false
  deriving DecidableEq, Repr

/-- An entry of the survey map (R267), with the role of the device at its address (R255): 1 member, 2 ringmaster. The ringmaster's own
entry has the empty path and address 0. -/
structure MapEnt where
  path : List Nat
  uid : Nat
  addr : Nat
  epoch : Nat
  role : Nat
  /-- Addressed in the survey in force; it has sent DONE. -/
  cur : Bool
  done : Bool
  deriving DecidableEq, Repr

/-- The troupe functions of the device. -/
structure TrpSt where
  /-- The link toward an address (R247). -/
  route : Tab (Option Nat) := []
  /-- Streams, the most recently heard first (R251), and the last acknowledgement received from each address (R254). -/
  streams : List Stream := []
  acks : Tab (Option Nat) := []
  /-- Next sequence number to each address. -/
  seq : Tab Nat := []
  /-- Alarm entries: of this device, received, folded (tier × 4,096 + code: count and age), and the alarm cells sent and
  not acknowledged, with their SEQ and their tick (R261 to R263). -/
  own : List AEnt := []
  recv : List AEnt := []
  fold : Tab (Nat × Nat) := []
  sent : List (Nat × Nat × List AEnt) := []
  /-- The survey map and the survey epoch in MRAM (R265, R267), and the epoch that the markers carry. -/
  map : List MapEnt := []
  mapEpoch : Nat := 0
  sentEpoch : Nat := 0
  path : List Nat := []
  uid : Nat := 0
  /-- Time fields of the last marker, or of the ringmaster's mapping (R244). -/
  time : Option (Nat × Nat × Nat) := none
  /-- An announcement received: count and period (R259). -/
  ann : Option (Nat × Nat) := none
  /-- The upstream partner's period; sum and number of the measurements that the phase averages; the last mean (R257). -/
  upN : Nat := 0
  tsum : Int := 0
  tnum : Nat := 0
  theta : Int := 0
  /-- The 4 ms of measurement are over and accepted; the count to adopt, and the phase lag it is adopted with (R268). -/
  measured : Bool := false
  adopt : Option Nat := none
  /-- Cells delivered to the device and not consumed by its hardware: results, answers, telemetry, records, log text. -/
  inbox : List Cell := []
  deriving DecidableEq, Repr

/-! ### Capping and shedding (chapter Capping and shedding) -/

/-- A shed wave: number, operation, entry, mask, apply count (R284, R285). -/
structure Wave where
  wid : Nat
  op : Nat
  ent : Nat
  mask : Nat
  at_ : Nat
  deriving DecidableEq, Repr

/-- The cap unit. -/
structure CapSt where
  /-- CAP_N is asserted, with the entry that the pin requests (R276, R279). -/
  pin : Bool := false
  armed : Nat := 0
  /-- Words of the cap table as they stood at the last S, where they have been written since (R277). -/
  old : Tab (Option Word) := []
  /-- Due ticks of the classes in the target; the tick of the last shed step; lane cycles since the last restore step (R281). -/
  due : Tab (Option Nat) := []
  lastShed : Option Nat := none
  sinceRest : Option Nat := none
  /-- The waves accepted last; the waves that wait for their tick, or to be applied on arrival (R286). -/
  seen : List (Nat × Nat) := []
  sched : List (Wave × Bool) := []
  /-- Waves that the ringmaster still sends, in the order of A, the next wave number, the apply counts given (R284). -/
  sending : List Wave := []
  nextWid : Nat := 0
  deriving DecidableEq, Repr

/-! ### Management network (chapter Management network and path redundancy) -/

/-- What a frame of the management ports carries. -/
inductive MFrame where
  | dgram (d : Dgram)
  | arp (ip : Nat)
  | neighbour (ip : Nat)
  | icmp (ip id : Nat)
  | supervision
  | ptp (kind : Nat)
  deriving DecidableEq, Repr

/-- A frame that the device sends: on path 0, 1, or both with one trailer number (R298); the next hop (R294). -/
structure MTx where
  path : Option Nat
  rct : Option Nat
  hop : Nat
  f : MFrame
  deriving DecidableEq, Repr

/-- An entry of the duplicate table (R299, R300): the path of the copy that came, and its content if it was good. -/
structure DupEnt where
  mac : Nat
  seq : Nat
  path : Nat
  both : Bool
  good : Option MFrame
  deriving DecidableEq, Repr

/-- A session: number, peer's address and port, direction (true: upload), durable and live offsets, whether it moves
records (R302, R303). -/
structure Session where
  num : Nat
  ip : Nat
  sport : Nat
  up : Bool
  durable : Nat
  live : Nat
  deriving DecidableEq, Repr

/-- A save of the sessions (R303). -/
structure SesSave where
  seq : Nat
  bulk : Option Session
  recs : Option Session
  bulkPath : Nat
  recPath : Nat
  deriving DecidableEq, Repr

/-- The management function. -/
structure MgtSt where
  /-- Frames sent, oldest first, and the next trailer number. -/
  tx : List MTx := []
  rct : Nat := 0
  /-- The duplicate table, oldest first; sources heard with a trailer, by MAC and path, in this window and the last. -/
  dup : List DupEnt := []
  heard : List (Nat × Nat) := []
  heardLast : List (Nat × Nat) := []
  /-- Missing copies in this window, by path (R300); probes answered and lost in a row; probes that wait for their echo. -/
  miss : Tab Nat := []
  pass : Tab Nat := []
  fail : Tab Nat := []
  probes : List (Nat × Nat) := []
  nextProbe : Nat := 0
  /-- Receiving sides of the datagram streams, the most recently heard first (R296). -/
  streams : List Stream := []
  seq : Tab Nat := []
  /-- The commands that went into the troupe, by address and cell number, with the datagram that they came by (R296). -/
  relay : List (Nat × Nat × Dgram) := []
  inbox : List Dgram := []
  bulk : Option Session := none
  recs : Option Session := none
  /-- Saves in a row at which a path was UP (R302). -/
  hold : Tab Nat := []
  saves : MramPair SesSave := {}
  /-- The best master (R306), and the mapping that takes effect at the next S: count, seconds, nanoseconds, rate. -/
  master : Option PtpSet := none
  map : Option (Nat × Nat × Nat × Int) := none
  deriving DecidableEq, Repr

/-! ### Two-wire buses (chapter Two-wire buses) -/

/-- A complete write transaction that waits to be applied (R317): OPERATION of a page, CLEAR_FAULTS of a page, or words at a
gazetteer address. -/
inductive TwbWrite where
  | operation (page : Nat) (on : Bool)
  | clear (page : Nat)
  | words (a : Nat) (ws : List Word)
  deriving DecidableEq, Repr

/-- A two-wire bus. -/
structure TwbSt where
  /-- Write transactions accepted and not applied, oldest first (R317). -/
  queue : List TwbWrite := []
  /-- The pointer of MFR_GZ_PTR: address, whether it reads, word count; a prefetch runs; the words prefetched (R321). -/
  ptr : Option (Nat × Bool × Nat) := none
  fetching : Bool := false
  buf : List Word := []
  /-- What the device answered in the last target transaction: the byte that it refused (0 its address, 1 the command code,
  2 the byte after it and on), if it refused one, and the bytes that it drove, PEC included. -/
  nack : Option Nat := none
  sent : List Nat := []
  /-- The alert event has become set, or a whistle was aborted, and no whistle has followed (R324). -/
  whistle : Bool := false
  /-- Retries left of the controller transfer that runs (R328); it is the adaptive voltage control's (R383). -/
  xfer : Option Nat := none
  avs : Bool := false
  /-- The bytes that the write part of the last controller transfer drove, its address and PEC included (R327). -/
  wrote : List Nat := []
  deriving DecidableEq, Repr

/-- The status latches of a port (R320): STATUS_VOUT, STATUS_IOUT, STATUS_INPUT and STATUS_MFR_SPECIFIC. -/
structure Latch where
  vout : Word := 0
  iout : Word := 0
  input : Word := 0
  mfr : Word := 0
  deriving DecidableEq, Repr

/-- The telemetry mirror (R314): the half in force, by address as the register file lists it, with the status latches that it
holds and the ports in the fan personality; and the status latches themselves, with how many of the events that wait they have taken
(R320); the sources raised since the last mirror window (R455). -/
structure MirSt where
  half : Tab Word := []
  shown : Tab Latch := []
  fans : List Nat := []
  latch : Tab Latch := []
  taken : Nat := 0
  news : List Nat := []
  deriving DecidableEq, Repr

/-! ### Ageing (chapter Ageing and the margin atlas) -/

/-- An ageing quantity: sum and number of the day's samples, the baseline, one that the next mean gives it after a BASE write, the
ratio in gain format, the ratios of the last eight revisions with their operating seconds, newest first (R380, R389, R393). -/
structure AgeQ where
  sum : Nat := 0
  n : Nat := 0
  base : Option Nat := none
  await : Bool := false
  ratio : Nat := 65536
  hist : List (Nat × Nat) := []
  eol : Nat := 0xFFFFFF
  deriving DecidableEq, Repr

/-- The atlas entry of a port: its quantities, the BAT_RES baseline of a battery port, and d (R390). -/
structure AgePort where
  rho : AgeQ := {}
  kf : AgeQ := {}
  res : Option Nat := none
  d : Word := 0x7FFFFF
  deriving DecidableEq, Repr

/-- The quantities of a rail. -/
structure AgeRail where
  kc : AgeQ := {}
  ke : AgeQ := {}
  deriving DecidableEq, Repr

/-- What MRAM keeps of the atlas (R392). -/
structure AgeCopy where
  seq : Nat
  ports : Tab AgePort
  rails : Tab AgeRail
  si : AgeQ
  mean : Nat
  rev : Nat
  deriving DecidableEq, Repr

/-- A burst of the capacitor probe on a rail (R386, R387): ticks since its first S; rail current summed over + and − halves, in
all; v at the start of the half; sum of the voltage steps; the rail current of the last tick; the cap entries in force; its 16
halves are over. -/
structure Burst where
  k : Nat := 0
  plus : Int := 0
  minus : Int := 0
  vAt : Int := 0
  dv : Nat := 0
  last : Int := 0
  caps : Nat := 0
  ended : Bool := false
  deriving DecidableEq, Repr

/-- The ageing unit. -/
structure AgeSt where
  ports : Tab AgePort := []
  rails : Tab AgeRail := []
  /-- Silicon: the day's requests in the band, and its history (R384, R393). -/
  si : AgeQ := {}
  rev : Nat := 0
  copies : MramPair AgeCopy := {}
  /-- The derate factors as applied (R391). -/
  dNow : Tab Word := []
  /-- Lane cycles for which a fan has run at the reference speed (R388). -/
  fanRun : Tab Nat := []
  burst : Tab (Option Burst) := []
  /-- Steps at the request's limit below LO (R382); the regulator write: 0 none due, 1 due, 2 to be tried at the next step;
  failures in a row; the word last sent (R383). -/
  lowRun : Nat := 0
  avs : Nat := 0
  fails : Nat := 0
  sent : Option Nat := none
  /-- A revision's MRAM write runs; a request came during it; seconds of operation at which the next is due (R392). -/
  revising : Bool := false
  again : Bool := false
  due : Nat := 86400
  deriving DecidableEq, Repr

/-! ### Rails (chapter Phase regulation) -/

/-- A rail unit. -/
structure RailSt where
  /-- Calibrated conversions of the detection port, newest first, at most eight (R167). -/
  hist : List Int := []
  /-- All-fire is armed; a conversion at or above VUS + HYS has come since it fired; the condition was met in RUN in this
  tick (R169). -/
  armed : Bool := false
  rearm : Bool := false
  heldTick : Bool := false
  /-- A member has left presence or the active lead has changed since the last S; ALT becomes the active lead at S (R156, R166). -/
  upset : Bool := false
  toAlt : Bool := false
  /-- Consecutive ticks in the voltage window (R166). -/
  inWin : Nat := 0
  /-- The four overload averages, with 24 extra fraction bits (R171), and the rail current of the tick. -/
  avg : Tab Int := []
  cur : Int := 0
  /-- Carousel counter of the next tick (R164), and the presence set in force since S, as a lane set (R157, R159). -/
  cNext : Nat := 0
  pres : Nat := 0
  /-- Sums of the telemetry block, by quantity 0 to 3, and of the members' currents, by lane; ticks summed (R175). -/
  sums : Tab Int := []
  isums : Tab Int := []
  n : Nat := 0
  deriving DecidableEq, Repr

/-! ### Tick engine and tiles -/

/-- The interval of the tick in progress (R33). -/
inductive TickPhase where
  | sample | compute | exchange | mirror | guard
  deriving DecidableEq, Repr

/-- A rate change that is being checked, or accepted for the tick with a count (R51, R52). -/
structure RateReq where
  n : Nat
  atWhen : Bool
  at_ : Nat
  tick : Option Nat
  late : Bool
  /-- Announced by the upstream partner (R259). -/
  link : Bool := false
  deriving DecidableEq, Repr

/-- The tick engine (chapter The meridian tick). -/
structure MerSt where
  /-- The meridian count (R45). -/
  count : Nat := 0
  phase : TickPhase := .guard
  /-- The source that a write of MER_CTL.SRC selected, from the next boundary (R42). -/
  srcNext : Option Nat := none
  srcNow : Nat := 0
  /-- Phase error in 78.125 ps units: how much later than it fell S should have fallen (R39). -/
  err : Int := 0
  /-- Consecutive ticks with an error below 1.25 ns; guards since the last accepted edge or marker; consecutive accepted
  edges seen in HOLDOVER (R39). -/
  good : Nat := 0
  since : Nat := 0
  again : Nat := 0
  /-- Time since the last accepted edge, in 78.125 ps units; none before the first (R40). -/
  fromEdge : Option Nat := none
  /-- Excess of the measured period of a tick over N lane cycles, in 78.125 ps units (R39 HOLDOVER). -/
  drift : Int := 0
  /-- Correction of the present guard, in 78.125 ps units (R34). -/
  corr : Int := 0
  /-- A change that this device's own host requested (R50), and one that the upstream partner announced (R259). -/
  rate : Option RateReq := none
  annRate : Option RateReq := none
  /-- The period of the running tick, as it was at its S (R132). -/
  tickN : Nat := 0
  /-- SYNC_OUT pulses at this S (R41). -/
  syncOut : Bool := false
  /-- Measured delays of the fabric stops that differ from those in use (R44). -/
  dlyTarget : Tab (Option Nat) := []
  /-- What the checks of the register transfers to come over the fabric find, true for a failure: an input, given with
  REGISTER_TRANSFER; transfers beyond the list pass (R21). -/
  fab : List Bool := []
  /-- N in force before Lull (R53). -/
  runN : Nat := 0
  deriving DecidableEq, Repr

/-- Who waits for the outcome of a gazetteer access: nobody, a steward, a CMD cell, a CMD datagram with its frame, the prefetch of a
bus, a write of a bus, the JTAG port. -/
inductive Asker where
  | plain
  | steward (n : Nat)
  | cell (c : Cell)
  | dgram (d : Dgram)
  | prefetch (b : Nat)
  | busWrite (b : Nat)
  | jtag
  deriving DecidableEq, Repr

/-- A gazetteer access (R22, R339): who waits for it, its arrival port, the rights that reach the target with LIVE in bit 5, its words
with what a write puts there, whether it goes through the peek path (R459); the watchdog's elapsed cycles and whether the boot flash
takes a write, where the command says so. -/
structure Access where
  who : Asker
  port : Nat
  rights : Nat
  write : Bool
  words : List (Nat × Word)
  peek : Bool := false
  elapsed : Option Nat := none
  flash : Option Bool := none
  deriving DecidableEq, Repr

/-- The trace buffer of a tile (R454, R455): its rows, newest first, each a stamp word and the values; the nodes captured in this
tick; whether it is to be armed at the next S; rows captured since the trigger row; a trigger by FORCE waits; a trigger to send to
the other tiles. -/
structure TraceSt where
  rows : List (List Word) := []
  nodes : Tab (Option Word) := []
  armNext : Bool := false
  after : Option Nat := none
  force : Bool := false
  send : Bool := false
  deriving DecidableEq, Repr

/-- The census of a tile (R453): its buffer, the lengths of its entries, oldest first, and the entry that a drain writes. -/
structure CensusSt where
  buf : Tab Word := []
  sizes : List Nat := []
  drain : Option (List Word) := none
  deriving DecidableEq, Repr

/-- A tile (chapter Eight tiles, one part). -/
structure TileSt where
  /-- A reset has been requested (R24). -/
  rstPend : Bool := false
  inReset : Bool := false
  /-- Treated as in reset (R28). -/
  lost : Bool := false
  /-- The tile dozes (R402); once a wake event has come, the lane cycles from it to the S of the running tick. -/
  dozed : Bool := false
  waking : Option Int := none
  /-- Time from the arrival of the last marker to S, in 78.125 ps units; none where the tile ran from its own S (R43). -/
  sOffset : Option Nat := none
  /-- The local port that the slow ADC converted last (R135). -/
  slowAt : Nat := 15
  /-- Write buffer of the coefficient and table RAM, oldest first (R63). -/
  cramBuf : List (Nat × Word) := []
  /-- Register transfers held at this tile's stop (R20), oldest first. -/
  held : List Access := []
  /-- Lane cycle from which the write buffer has been full (R450). -/
  fullAt : Option Nat := none
  tags : List TagRec := []
  trace : TraceSt := {}
  cen : CensusSt := {}
  deriving DecidableEq, Repr

/-- A bank switch that is being checked or scheduled (R77 to R79). -/
structure SwitchReq where
  /-- 0: scheduled by a write, 1: by an activation, 2: by a fallback (R434, R441). -/
  kind : Nat
  stw : Bool
  atWhen : Bool
  at_ : Nat
  /-- Accepted, for the tick with this count. -/
  tick : Option Nat
  late : Bool
  lanes : List Nat
  deriving DecidableEq, Repr

/-- An entry of a handover map (R435). -/
structure HandMove where
  op : Nat
  src : Nat
  dst : Nat
  val : Word
  deriving DecidableEq, Repr

/-- A download (R430, R431): the next byte expected, which is the durable offset; the header bytes held in MRAM; sectors of the
slot erased so far, from the second on. -/
structure DlSt where
  exp : Nat := 0
  head : List Nat := []
  erased : Nat := 0
  deriving DecidableEq, Repr

/-- A copy of the boot record (R443). -/
structure BootRec where
  seq : Nat
  trial : Bool
  tslot : Nat
  tset : Nat
  cslot : Nat
  cset : Nat
  ver : Nat
  deriving DecidableEq, Repr

/-- The firmware update (chapter Firmware update). -/
structure UpdSt where
  /-- The lanes that switch, or switched, at activation, and the handover maps, by lane (R434, R435). -/
  lanes : List Nat := []
  fwd : Tab (List HandMove) := []
  rev : Tab (List HandMove) := []
  /-- A cancelled reverse switch waits for the first Run tick after Lull (R441). -/
  again : Bool := false
  /-- The reverse costs of the lanes (R442). -/
  revCost : Tab Nat := []
  /-- The open download, and the two copies of the boot record (in MRAM). -/
  dl : Option DlSt := none
  recs : MramPair BootRec := {}
  /-- Lane cycles of the second that UPD_REMAIN counts next; the confirmation's boot record write runs (R439, R440). -/
  sub : Nat := 0
  confirming : Bool := false
  deriving DecidableEq, Repr

/-! ### Fault collectors, recorder -/

/-- An event of a fault source that waits for its classification (R348). -/
structure FaultEv where
  src : Nat
  arg : Nat
  count : Nat
  stamp : Nat
  forced : Bool
  deriving DecidableEq, Repr

/-- What every observer orders an event by (R31). -/
structure EvKey where
  count : Nat
  stamp : Nat
  tile : Nat
  port : Nat
  code : Nat
  deriving DecidableEq, Repr

/-- The fault collectors (chapter Faults, ALIVE and the watchdog). -/
structure FltSt where
  queue : List FaultEv := []
  /-- The pairs of events that are flagged concurrent: those handled at the last S, and since then those with events of other devices
  whose records have come (R32). -/
  conc : List (EvKey × EvKey) := []
  /-- End of the open window, by source (R348). -/
  wend : Tab (Option Nat) := []
  /-- Classification in force where it differs from the source's default. -/
  cls : Tab (Option Cls) := []
  /-- Sources whose classification was written in this tick (R350). -/
  chg : List Nat := []
  /-- The highest tier at which an event was classified at this S, one higher (R440, R351). -/
  top : Nat := 0
  aliveStopped : Bool := false
  /-- An S has come since the last change instant (R354). -/
  sSeen : Bool := false
  aliveOn : Bool := false
  deriving DecidableEq, Repr

/-- The window watchdog (R356 to R359). -/
structure WdgSt where
  running : Bool := false
  /-- Oscillator cycles since the service. -/
  elapsed : Nat := 0
  /-- Period and window of the current period. -/
  period : Nat := 1000
  win : Nat := 4
  /-- WDO_N is low, and the width with which the pulse began. -/
  pulse : Option Nat := none
  /-- A CLK_LOST expiry whose WDG_EXPIRED is raised at the first tick after reset (R360). -/
  owed : Bool := false
  deriving DecidableEq, Repr

/-- A record (R362). -/
structure Rec where
  type : Nat
  tier : Nat
  forced : Bool
  code : Nat
  arg : Nat
  stamp : Nat
  count : Nat
  hours : Nat
  cycles : Nat
  d0 : Nat
  d1 : Nat
  rnum : Nat
  deriving DecidableEq, Repr

/-- The extremes of a quantity (R369). -/
structure Extremes where
  min : Word := 0x7FFFFF
  max : Word := 0x800000
  minCount : Nat := 0
  minCycles : Nat := 0
  maxCount : Nat := 0
  maxCycles : Nat := 0
  deriving DecidableEq, Repr

/-- What a flush saves at its end (R369, R370, R374): histograms, extremes, counters, head pointer, acknowledged RNUM. -/
structure RecSave where
  seq : Nat
  bins : Tab Nat
  ext : Tab Extremes
  next : Nat
  base : Nat
  hours : Nat
  cycles : Nat
  clears : Nat
  deriving DecidableEq, Repr

/-- The event recorder (chapter Event recorder). -/
structure RecSt where
  /-- Changes of state since the last S, whose records enter the buffer at the next one (R31, R368). -/
  wait : List Rec := []
  /-- Records not yet flushed, oldest first (R368). -/
  buf : List Rec := []
  /-- The two areas in MRAM, by slot (R373), and the slots whose CRC fails. -/
  perm : Tab (Option Rec) := []
  rolling : Tab (Option Rec) := []
  bad : List Nat := []
  next : Nat := 0
  base : Nat := 0
  strmAck : Nat := 0
  /-- Tokens that the buckets lack (R366): `lack` in every bucket that is not listed by type × 4,096 + code. -/
  spent : Tab (Option Nat) := []
  lack : Nat := 0
  supp : Tab Nat := []
  hours : Nat := 0
  cycles : Nat := 0
  clears : Nat := 0
  /-- Lane cycles of the second that HOURS counts next (R365). -/
  subSec : Nat := 0
  /-- A flush runs; one further flush is due; how many records of the buffer it writes, and its SUPPRESSED records. -/
  flushing : Bool := false
  again : Bool := false
  flushN : Nat := 0
  supOut : List Rec := []
  /-- Clears that wait for the flush, with the arrival port (R376). -/
  clearWait : List Nat := []
  /-- Histogram bins, quantity × 32 + bin, and extremes by quantity. -/
  bins : Tab Nat := []
  ext : Tab Extremes := []
  /-- The two saved copies (R369, R370, R374). -/
  copies : MramPair RecSave := {}
  /-- The selection being fetched (R375). -/
  fetch : Option (Nat × Nat) := none
  /-- Next RNUM the stream sends (R377). -/
  strmNext : Nat := 0
  deriving DecidableEq, Repr

/-! ### Power, boot, debug -/

/-- The power states (chapter Power states): WAKE is high; for the Doze of tiles 1 to 7, for Lull (8) and for Keeper (9), the
lane cycles over which the conditions of R400 have held at every S; the lane cycles from the wake event of an exit from Lull
to the S of the running tick; the tiles have left retention in it; a Keeper entry runs, or a Lull entry (R403, R405); the
device is in Keeper; the reset at hand is its wake (R406). -/
structure PwsSt where
  wakePin : Bool := false
  held : Tab (Option Nat) := []
  waking : Option Int := none
  up : Bool := false
  entry : Nat := 0
  keeper : Bool := false
  woke : Bool := false
  deriving DecidableEq, Repr

/-- Start-up (chapter Start-up and reset): the tick runs; the kind of the last package-level reset (R425); a PFAIL_N assertion has
stopped the boot ROM (R422); a software package reset: 1 waits for S, 2 for its flush (R420); the ports that turn ON when the
stagger has run (R196); the lanes that the settings run (R419); the words of the settings that set fault classifications (R350). -/
structure BootSt where
  running : Bool := false
  kind : Nat := 0
  halted : Bool := false
  reset : Nat := 0
  auto : List Nat := []
  runs : List Nat := []
  cls : List (Nat × Nat) := []
  deriving DecidableEq, Repr

/-- The JTAG port and debug access (R457 to R464): the instruction in force; the boundary-scan register and whether it drives the
pins; the last access: status, address, data; the private capture of the peek path; lane data memories as of the last mirror
window, and debug writes to them that the next one applies. -/
structure DbgSt where
  ir : Nat := 2
  bsr : Tab Bool := []
  extest : Bool := false
  status : Nat := 0
  addr : Nat := 0
  data : Word := 0
  capt : Tab (Option Word) := []
  shown : Tab Word := []
  writes : List (Nat × Word) := []
  /-- The counters count, as of the last S, and are cleared at the next one (R450). -/
  counting : Bool := false
  clear : Bool := false
  deriving DecidableEq, Repr

end Sys2Proof.Machine
end

