-- ==== Sys2Proof/Machine/State.lean ====
section
/-! DEFINITION. The state of the block, its faults and refusals, and its reset. -/

namespace Sys2Proof.Machine

/-- Why the block stops. -/
inductive Fault where
  deriving DecidableEq, Repr

/-- Why a command has no meaning. -/
inductive Refusal where
  /-- Raised by a command whose meaning is not written: safe, since nothing is claimed of it. -/
  | notModelled (mnemonic : String)
  deriving DecidableEq, Repr

/-- The state of the TLM-8800: its registers, its units, and the queue of commands that wait. -/
structure State where
  /-- The commands that wait, first in, first out. -/
  pending : List Instr := []
  /-- How many free values have been taken: the model's own field (log entry 4). -/
  free : Nat := 0
  /-- The gazetteer's registers, by address, default `resetWord` (R3, R467). -/
  regs : Tab Word := []
  /-- Captured higher words of wide quantities, by address (R8). -/
  capt : Tab (Option Word) := []
  /-- Words of wide quantities written and not yet in effect, by address (R8). -/
  wide : Tab (Option Word) := []
  mer : MerSt := {}
  tiles : Tab TileSt := []
  cores : Tab Core := []
  /-- Data memories, core × 65,536 + address (R56, R62). -/
  dmem : Tab Word := []
  /-- Program memories, (core × 2 + bank) × 32,768 + bundle address (R56). -/
  code : Tab (BitVec 64) := []
  /-- Extent of a program bank, core × 2 + bank; none where it holds no loaded program (R499). -/
  extent : Tab (Option Nat) := []
  /-- Coefficient and table RAM, tile × 65,536 + word (R63). -/
  cram : Tab Word := []
  /-- Send cells, lane × 8 + word (R118). -/
  send : Tab Word := []
  /-- Receive buffers, (tile × 128 + lane) × 8 + word, and the cells' presence, tile × 128 + lane (R119). -/
  recv : Tab Word := []
  present : Tab Bool := []
  /-- Cells on their way in the exchange window: present cells of this window, by tile × 128 + lane. -/
  cells : Tab Bool := []
  /-- Scheduled gains, lane × 8 + g (R120). -/
  gains : Tab Word := []
  switch : Option SwitchReq := none
  upd : UpdSt := {}
  ports : Tab PortSt := []
  fuses : Tab FuseSt := []
  otp : OtpSt := {}
  rails : Tab RailSt := []
  mgt : MgtSt := {}
  buses : Tab TwbSt := []
  mir : MirSt := {}
  age : AgeSt := {}
  cap : CapSt := {}
  links : Tab LinkSt := []
  trp : TrpSt := {}
  strings : Tab StringSt := []
  hld : HldSt := {}
  flt : FltSt := {}
  wdg : WdgSt := {}
  rcd : RecSt := {}
  pws : PwsSt := {}
  boot : BootSt := {}
  dbg : DbgSt := {}
  /-- The report on the last access that a command of the register rows made: status (0 OK, 2 RIGHTS, 3 ACCESS_ERR) and the words
read (the model's own field, log entry 69). -/
  ans : Nat × List Word := (0, [])
  /-- Boot flash, by byte address, erased bytes 0xFF (R426). -/
  flash : Tab Nat := []
  deriving DecidableEq, Repr

/-- The machine right after a power-on reset: every register at its reset value, every unit at rest, no command waiting. -/
def State.reset : State := {}

end Sys2Proof.Machine
end

