-- ==== Sys2Proof/Machine/Ops.lean ====
section
/-! DEFINITION. The shared operations: registers and their fields, free values, events of fault sources, records,
the safe action. -/

namespace Sys2Proof.Machine

/-! ### Registers -/

/-- The word a register holds. -/
def State.rd (s : State) (l : Loc) : Word := Tab.get (resetWord l.addr) s.regs l.addr

/-- The state with a register's word replaced. -/
def State.wr (s : State) (l : Loc) (w : Word) : State :=
  { s with regs := Tab.set (resetWord l.addr) s.regs l.addr w }

/-- A field of a register. -/
def State.getF (s : State) (l : Loc) (f : Fld) : Nat := f.get (s.rd l)

/-- A one-bit field of a register. -/
def State.flag (s : State) (l : Loc) (f : Fld) : Bool := s.getF l f == 1

/-- The state with a field of a register replaced. -/
def State.setF (s : State) (l : Loc) (f : Fld) (v : Nat) : State := s.wr l (f.put (s.rd l) v)

/-- The state with a register put back to its reset value. -/
def State.rst (s : State) (l : Loc) : State := s.wr l (resetWord l.addr)

/-- A count register advances and saturates at 16,777,215 (R9, R29 and on). -/
def State.bump (s : State) (l : Loc) : State :=
  s.wr l (if (s.rd l).toNat = 0xFFFFFF then 0xFFFFFF else s.rd l + 1)

/-- A pair of registers, low word first, as one number (R8). -/
def State.rdPair (s : State) (lo hi : Loc) : Nat := join48 (s.rd lo) (s.rd hi)

/-- A pair of registers takes the two halves of a number (R8). -/
def State.wrPair (s : State) (lo hi : Loc) (n : Nat) : State := (s.wr lo (lo24 n)).wr hi (hi24 n)

/-! ### Units -/

def State.port (s : State) (p : Nat) : PortSt := Tab.get {} s.ports p
def State.setPort (s : State) (p : Nat) (x : PortSt) : State := { s with ports := Tab.set {} s.ports p x }
def State.modPort (s : State) (p : Nat) (f : PortSt → PortSt) : State := s.setPort p (f (s.port p))

def State.core (s : State) (c : Nat) : Core := Tab.get {} s.cores c
def State.setCore (s : State) (c : Nat) (x : Core) : State := { s with cores := Tab.set {} s.cores c x }
def State.modCore (s : State) (c : Nat) (f : Core → Core) : State := s.setCore c (f (s.core c))

def State.tile (s : State) (n : Nat) : TileSt := Tab.get {} s.tiles n
def State.setTile (s : State) (n : Nat) (x : TileSt) : State := { s with tiles := Tab.set {} s.tiles n x }
def State.modTile (s : State) (n : Nat) (f : TileSt → TileSt) : State := s.setTile n (f (s.tile n))

/-- Does tile `n` run the tick (R26, R28, R402)? -/
def State.tileRuns (s : State) (n : Nat) : Bool := !(s.tile n).inReset && !(s.tile n).lost && !(s.tile n).dozed

/-- Is tile `n` in reset or treated as in reset (R26, R28)? -/
def State.tileDown (s : State) (n : Nat) : Bool := (s.tile n).inReset || (s.tile n).lost

/-- Is the device in recovery (R417)? -/
def State.recovering (s : State) : Bool := s.flag BOOT_STAT BOOT_STAT_RECOVERY

/-- The next meridian count (R45). -/
def State.nextCount (s : State) : Nat := (s.mer.count + 1) % 2 ^ 48

/-- The tick whose boundary is at hand: the next one in the guard, the running one just after S. -/
def State.boundary (s : State) : Nat := if s.mer.phase = .sample then s.mer.count else s.nextCount

def State.fuse (s : State) (p : Nat) : FuseSt := Tab.get {} s.fuses p
def State.setFuse (s : State) (p : Nat) (x : FuseSt) : State := { s with fuses := Tab.set {} s.fuses p x }
def State.modFuse (s : State) (p : Nat) (f : FuseSt → FuseSt) : State := s.setFuse p (f (s.fuse p))

def State.rail (s : State) (r : Nat) : RailSt := Tab.get {} s.rails r
def State.setRail (s : State) (r : Nat) (x : RailSt) : State := { s with rails := Tab.set {} s.rails r x }
def State.modRail (s : State) (r : Nat) (f : RailSt → RailSt) : State := s.setRail r (f (s.rail r))

def State.str (s : State) (u : Nat) : StringSt := Tab.get {} s.strings u
def State.setStr (s : State) (u : Nat) (x : StringSt) : State := { s with strings := Tab.set {} s.strings u x }
def State.modStr (s : State) (u : Nat) (f : StringSt → StringSt) : State := s.setStr u (f (s.str u))

def State.link (s : State) (l : Nat) : LinkSt := Tab.get {} s.links l
def State.setLink (s : State) (l : Nat) (x : LinkSt) : State := { s with links := Tab.set {} s.links l x }
def State.modLink (s : State) (l : Nat) (f : LinkSt → LinkSt) : State := s.setLink l (f (s.link l))

/-- The factor, with 23 fraction bits, by which the margin atlas scales limits of port `p` (R391). -/
def State.derate (s : State) (p : Nat) : Nat :=
  if s.flag AGE_CTL AGE_CTL_APPLY then (Tab.get (0x7FFFFF : Word) s.age.dNow p).toNat else 2 ^ 23

/-! ### Block counters (R450) -/

/-- Counter `c` of a counting block, given by its registers, takes `n` events of kind `e`. -/
def State.countReg (s : State) (sel lo hi : Loc) (e n : Nat) : State :=
  if s.getF sel PRF_SEL_EVT = e then
    let v := s.rdPair lo hi + n
    let s := s.wrPair lo hi (v % 2 ^ 48)
    if 2 ^ 48 ≤ v then s.setF sel PRF_SEL_OVF 1 else s
  else s

/-- Block `b` of tile `t` sees `n` events of kind `e`; the counters of a dozed tile are powered down (R397, R450). -/
def State.countT (s : State) (t b e n : Nat) : State :=
  if s.dbg.counting && !(s.tile t).dozed then forEach 8 (fun c s => s.countReg (TPRF_SEL t b c) (TPRF_CNT_LO t b c) (TPRF_CNT_HI t b c) e n) s else s

/-- Package block `b` sees `n` events of kind `e`. -/
def State.countP (s : State) (b e n : Nat) : State :=
  if s.dbg.counting then forEach 8 (fun c s => s.countReg (PPRF_SEL b c) (PPRF_CNT_LO b c) (PPRF_CNT_HI b c) e n) s else s

/-- Lane `l`, or the steward 128 + t, sees `n` events of kind `e`. -/
def State.countCore (s : State) (l e n : Nat) : State := if 128 ≤ l then s.countT (l - 128) 32 e n else s.countT (l / 16) (l % 16) e n

/-- Port `p` sees `n` events of kind `e`. -/
def State.countPort (s : State) (p e n : Nat) : State := s.countT (p / 16) (16 + p % 16) e n

/-- The collector of a source's tile sees an event of kind `e`; package sources have none. -/
def State.countFault (s : State) (src e : Nat) : State := if 512 ≤ src then s.countT (srcTile src) 35 e 1 else s

/-- The enabled trace nodes of tile `t` whose kind is among some and whose unit is `unit` are captured: the value depends on kind and
selector (R454). `first`: a value captured earlier in the tick stays. -/
def State.traceCap (s : State) (t : Nat) (kinds : List Nat) (unit : Nat) (first : Bool) (v : Nat → Nat → Word) : State :=
  forEach 8 (fun i s =>
    let w := s.rd (TRC_NODE t i)
    if TRC_NODE_EN.on w && kinds.contains (TRC_NODE_KIND.get w) && TRC_NODE_UNIT.get w == unit &&
        !(first && (Tab.get none (s.tile t).trace.nodes i).isSome) then
      s.modTile t fun x => { x with trace :=
        { x.trace with nodes := Tab.set none x.trace.nodes i (some (v (TRC_NODE_KIND.get w) (TRC_NODE_SEL.get w))) } }
    else s) s

/-! ### Free values -/

/-- A free truth value, and the state after it is taken (log entry 4). -/
def State.takeBool (s : State) : Bool × State := (Config.freeBool s.free, { s with free := s.free + 1 })

/-- A free word, and the state after it is taken (log entry 4). -/
def State.takeWord (s : State) : Word × State := (Config.freeWord s.free, { s with free := s.free + 1 })
/-- A free number, where a rule gives none. -/
def State.takeNat (s : State) : Nat × State := (Config.freeNat s.free, { s with free := s.free + 1 })

/-- A register takes a number that 24 bits hold; another has no stated value there: a free value (log entry 32). -/
def State.wrOpen (s : State) (l : Loc) (v : Int) : State :=
  if 0 ≤ v ∧ v < 2 ^ 24 then s.wr l (BitVec.ofNat 24 v.toNat) else let f := s.takeWord; f.2.wr l f.1

/-! ### The tick -/

/-- The period in force, in lane cycles (R35). -/
def State.period (s : State) : Nat := s.getF MER_PERIOD MER_PERIOD_N

/-- The budget of a period (R36), 0 in Lull (R37). -/
def budgetOf (n : Nat) : Nat := if n = 80000 then 0 else 94 * (n - 1440) / 100

/-- The exponent of the stamp unit of a period: the smallest for which 4,096 units cover it (R30). -/
def scaleOf (n : Nat) : Nat :=
  if n ≤ 4096 then 0 else if n ≤ 8192 then 1 else if n ≤ 16384 then 2 else if n ≤ 32768 then 3 else if n ≤ 65536 then 4 else 5

/-- The sub-tick stamp of a lane cycle since S (R30). -/
def State.stamp (s : State) (cyc : Nat) : Nat := min 4095 (cyc / 2 ^ scaleOf s.period)

/-- Is count `c` in the past at count `k` (R46)? -/
def inPast (c k : Nat) : Bool := decide ((k + 2 ^ 48 - c) % 2 ^ 48 < 2 ^ 47)

/-! ### Events of fault sources (R348) -/

/-- An event of source `src` with argument `arg`, in the running tick at lane cycle `cyc`: it waits for its
classification, and SEEN shows it. -/
def State.raise (s : State) (src arg cyc : Nat) : State :=
  let e : FaultEv := ⟨src, arg, s.mer.count, s.stamp cyc, false⟩
  let s := s.countFault src 0x60
  { s.setF (FLT_SRC src) FLT_SRC_SEEN 1 with flt := { s.flt with queue := s.flt.queue ++ [e] } }

/-- An event stamped in tick `k`, in stamp units (R140). -/
def State.raiseIn (s : State) (k src arg stamp : Nat) : State :=
  let e : FaultEv := ⟨src, arg, k, min 4095 stamp, false⟩
  let s := s.countFault src 0x60
  { s.setF (FLT_SRC src) FLT_SRC_SEEN 1 with flt := { s.flt with queue := s.flt.queue ++ [e] } }

/-- An event stamped in the tick before the running one, in stamp units (R140). -/
def State.raisePrev (s : State) (src arg stamp : Nat) : State := s.raiseIn ((s.mer.count + 2 ^ 48 - 1) % 2 ^ 48) src arg stamp

/-- An event at the S at hand (R30). -/
def State.raiseAtS (s : State) (src arg : Nat) : State := s.raiseIn s.boundary src arg 0

/-! ### Stewards' interrupts (R68) -/

/-- The reset value of a privileged register: 0, but MODE 1 in s0 (R105). -/
def sDefault (k : Nat) : Word := if k = 0 then 1 else 0

/-- A privileged register of a steward. -/
def Core.sreg (c : Core) (k : Nat) : Word := Tab.get (sDefault k) c.s k

/-- A steward with a privileged register replaced. -/
def Core.setS (c : Core) (k : Nat) (w : Word) : Core := { c with s := Tab.set (sDefault k) c.s k w }

/-- Interrupt source `k` becomes pending in s3; one that s2 enables ends a WAIT (R68, R104, R105). -/
def Core.irq (c : Core) (k : Nat) : Core :=
  let c := c.setS 3 (c.sreg 3 ||| BitVec.ofNat 24 (2 ^ k))
  if c.waiting ∧ (c.sreg 2).getLsbD k then { c with waiting := false } else c

/-- Interrupt source `k` of the steward of tile `n` becomes pending (R68). -/
def State.irq (s : State) (n k : Nat) : State := s.modCore (128 + n) fun c => c.irq k

/-! ### Records (R362 to R368) -/

/-- The key of a bucket: the pair of type and code (R366). -/
def bucketKey (type code : Nat) : Nat := type * 4096 + code

/-- Are records of this type and code exempt from the rate limit (R366)? -/
def exempt (type code : Nat) : Bool := type == 3 || (type == 2 && (code == 1 || code == 4 || code == 9 || code == 10))

/-- A record that is not stored counts as suppressed under its code (R366, R367). -/
def State.suppress (s : State) (type code : Nat) : State :=
  let k := bucketKey type code
  let s := s.countP 12 0xA1 1
  { s.bump REC_SUPP with rcd := { s.rcd with supp := Tab.set 0 s.rcd.supp k (min 0xFFFFFF (Tab.get 0 s.rcd.supp k + 1)) } }

/-- The SUPPRESSED records of a flush, in ascending type and code, with the next record numbers (R363, R367). -/
def State.supRecords (s : State) : List Rec :=
  (s.rcd.supp.foldl (fun (a : List Rec) e =>
    a ++ [⟨3, 0, false, e.1 % 4096, 0xFF, 0, s.mer.count, s.rcd.hours, s.rcd.cycles, e.2, e.1 / 4096, s.rcd.next + a.length⟩]) [])

/-- Start a flush, or merge into one further flush (R370): its SUPPRESSED records follow the records of the buffer and their
counters clear (R367). -/
def State.flushStart (s : State) : State :=
  if s.rcd.flushing then { s with rcd := { s.rcd with again := true } }
  else
    let l := s.supRecords
    { s.setF REC_STAT2 REC_STAT2_FLUSHING 1 with
      rcd := { s.rcd with flushing := true, flushN := s.rcd.buf.length, supOut := l, supp := [], next := s.rcd.next + l.length } }

/-- A record enters the buffer with the next RNUM, or is counted where the buffer is full (R367, R368); 1,536
records start a flush (R370). -/
def State.store (s : State) (r : Rec) : State :=
  if 1820 ≤ s.rcd.buf.length then
    ((s.suppress r.type r.code).setF REC_STAT REC_STAT_OVF 1).raise REC_OVERFLOW 0xFF 0
  else
    let s := s.countP 12 0xA0 1
    let r := { r with rnum := s.rcd.next, hours := s.rcd.hours, cycles := s.rcd.cycles }
    let s := { s with rcd := { s.rcd with buf := s.rcd.buf ++ [r], next := s.rcd.next + 1 } }
    let s := s.setF REC_STAT REC_STAT_FILL s.rcd.buf.length
    if s.rcd.buf.length = 1536 then s.flushStart else s

/-- A record is admitted if it is exempt or its bucket holds a token, which it takes; otherwise it counts as
suppressed (R366). -/
def State.buffer (s : State) (r : Rec) : State :=
  let k := bucketKey r.type r.code
  if exempt r.type r.code then s.store r
  else
    let lack := (Tab.get none s.rcd.spent k).getD s.rcd.lack
    if lack < s.getF REC_RL REC_RL_BURST then
      { s with rcd := { s.rcd with spent := Tab.set none s.rcd.spent k (some (lack + 1)) } }.store r
    else s.suppress r.type r.code

/-- The record of a change of state that takes effect in tick `count` (R363, R364). -/
def stateRec (count code arg d0 d1 : Nat) : Rec := ⟨2, 0, false, code, arg, 0, count, 0, 0, d0 % 2 ^ 24, d1 % 2 ^ 24, 0⟩

/-- A change of state that takes effect in tick `count` is recorded; its record enters the buffer at the next S (R31, R368). -/
def State.recordAt (s : State) (count code arg d0 d1 : Nat) : State :=
  { s with rcd := { s.rcd with wait := s.rcd.wait ++ [stateRec count code arg d0 d1] } }

/-- The records that wait enter the buffer. -/
def State.enterRecords (s : State) : State :=
  forList s.rcd.wait (fun r s => s.buffer r) { s with rcd := { s.rcd with wait := [] } }

/-- A change of state whose record a flush takes at once: it enters the buffer now, behind those that wait (R371, R376, R405). -/
def State.recordNow (s : State) (code arg d0 d1 : Nat) : State := s.enterRecords.buffer (stateRec s.mer.count code arg d0 d1)

/-- A change of state in the running tick is recorded (R363, R364). -/
def State.record (s : State) (code arg d0 d1 : Nat) : State := s.recordAt s.mer.count code arg d0 d1

/-! ### Port states and the safe action (R131, R225 to R227) -/

/-- The personality in force (R129). -/
def State.pers (s : State) (p : Nat) : Nat := (s.port p).persNow

/-- The state of a port: 0 OFF, 1 ON, 2 SAFE (R131). -/
def State.pstate (s : State) (p : Nat) : Nat := s.getF (STG_STAT p) STG_STAT_STATE

/-- Is GA held inactive by a latch or the fault input in fuse and OR-ing (R146 to R149)? -/
def State.gaHeld (s : State) (p : Nat) : Bool :=
  s.flag (STG_STAT p) STG_STAT_OC_LATCH || s.flag (STG_STAT p) STG_STAT_RC_LATCH || (s.port p).drvHold

/-- The gate levels of the safe action: GA active in a fan and in a fuse that stays closed, GB at full scale there, unless a latch or the
fault input holds them inactive (R149, R225). -/
def State.safeGates (s : State) (p : Nat) (fuseOn : Bool) : Bool × Bool :=
  if s.pers p = 4 then (true, false)
  else if s.pers p = 1 ∧ fuseOn ∧ ¬ s.flag (ENV_PERS p) ENV_PERS_FUSE_OPEN then (!s.gaHeld p, !(s.port p).drvHold)
  else (false, false)

/-- Is the fuse unit of the port in ON (R182, R225)? -/
def State.fuseIsOn (s : State) (p : Nat) : Bool := s.getF (FUS_STAT p) FUS_STAT_STATE == 2

/-- A port enters SAFE with a cause, from OFF too; a port already in SAFE keeps its first cause (R226, R352).
Leaving OFF starts the average of R223 at 0. -/
def State.enterSafe (s : State) (p cause : Nat) : State :=
  if s.pstate p = 2 then s
  else
    let g := s.safeGates p (s.fuseIsOn p)
    let off := s.pstate p == 0
    ((s.setF (STG_STAT p) STG_STAT_STATE 2).setF (ENV_STAT p) ENV_STAT_CAUSE cause).modPort p
      fun x => { x with ga := g.1, gb := g.2, fire := none, savg := if off then 0 else x.savg }

/-- A port that is not OFF enters SAFE with a cause (causes 0b101 and 0b110 of R226). -/
def State.enterSafeOn (s : State) (p cause : Nat) : State :=
  if s.pstate p = 0 then s else s.enterSafe p cause

/-- The ports of tile `n` take their safe action (R25, R351 TSAFE). -/
def State.tileSafe (s : State) (n cause : Nat) : State := forEach 16 (fun i s => s.enterSafe (16 * n + i) cause) s

/-- All ports take their safe action (R351 KSAFE). -/
def State.allSafe (s : State) (cause : Nat) : State := forEach 128 (fun p s => s.enterSafe p cause) s

end Sys2Proof.Machine
end

