-- ==== Sys2Proof/Machine/Generator.lean ====
section
/-! DEFINITION. The PWM generator's blocks, periods, update points and on-times (R116, R130, R141 to R144, R165, R222). -/

namespace Sys2Proof.Machine

/-- 78.125 ps units in one lane cycle. -/
def unitsPerCycle : Nat := 16

/-- Does the personality's generator pulse (R130, R145)? -/
def State.pulses (s : State) (p : Nat) : Bool := s.pers p == 0 || s.pers p == 3 || s.pers p == 4

/-- The fan divider, 1 in the other personalities (R141, R150). -/
def State.fanDiv (s : State) (p : Nat) : Nat := if s.pers p = 4 then s.getF (FAN_CTL p) FAN_CTL_DIV + 1 else 1

/-- The pin mode: 0 COMP, 1 SINGLE, 2 PSP; a battery port has COMP alone and a fan SINGLE (R130, R142). -/
def State.pwmMode (s : State) (p : Nat) : Nat :=
  if s.pers p = 3 then 0 else if s.pers p = 4 then 1 else s.getF (STG_PWM p) STG_PWM_MODE

/-- The dead time in units, 0 where the mode has none (R142). -/
def State.deadTime (s : State) (p : Nat) : Nat := if s.pwmMode p = 0 then s.getF (STG_DT p) STG_DT_DT * 64 else 0

/-- m, the periods of a block (R141). -/
def State.mult (s : State) (p : Nat) : Nat := max 1 (s.getF (STG_PWM p) STG_PWM_MULT)

/-! ### Blocks and periods (R141, R143, R144, R165) -/

/-- Where period `i` of a block starts, from the running tick's S (R141). -/
def GenSt.startOf (g : GenSt) (i : Nat) : Int := g.at_ + g.ofs + (i * g.len / max 1 g.m : Nat)

/-- The length of period `i` of a block (R141). -/
def GenSt.lenOf (g : GenSt) (i : Nat) : Nat := (i + 1) * g.len / max 1 g.m - i * g.len / max 1 g.m

/-- A block of `len` units begins at `at_` with a phase offset. A period that the new block would end less than half its length after its
start is merged with the block's first one (R165). STG_PWM.MULT is taken here, as the offset is (log entry 97). -/
def State.genBegin (s : State) (p : Nat) (at_ : Int) (len ofs : Nat) : State :=
  let m := s.mult p
  s.modPort p fun x =>
    let g : GenSt := { x.gen with at_ := at_, len := len, m := m, ofs := ofs, next := 0 }
    { x with gen := { g with next := if 2 * (g.startOf 0 - x.start) < x.gen.per then 1 else 0 } }

/-- The phase offset of a tick-mode block: STG_PHS and the carousel, modulo a period (R143). -/
def State.tickOfs (s : State) (p len : Nat) : Nat :=
  (s.getF (STG_PHS p) STG_PHS_OFS + (s.port p).carOfs) % max 1 (len / s.mult p)

/-- The phase offset of a sync-mode block, in 1/1024 of its first period (R144). -/
def State.syncOfs (s : State) (p len : Nat) : Nat := s.getF (STG_PHS p) STG_PHS_OFS % 1024 * (len / s.mult p) / 1024

/-- Period starts of the running block that lie before the running tick have passed. -/
def GenSt.skipPast (g : GenSt) : GenSt :=
  { g with next := ((List.range (max 1 g.m)).find? fun i => decide (g.next ≤ i ∧ 0 ≤ g.startOf i)).getD g.m }

/-- A sync-mode block without an accepted edge is followed by another at the last accepted interval (R144): starts that have passed. -/
def GenSt.skipSync (g : GenSt) : GenSt :=
  if 0 ≤ g.startOf g.next ∨ g.len = 0 then g
  else { g with at_ := g.at_ + (((-(g.startOf g.next)).toNat + g.len - 1) / g.len * g.len : Nat) }

/-- The generator at S: in tick mode a block of d ticks begins at a count that is a multiple of d, and a running one follows the period
in force (R52, R141, R143). -/
def State.genTick (s : State) (p : Nat) : State :=
  if s.pstate p = 0 ∨ !s.pulses p then s
  else if s.flag (STG_PWM p) STG_PWM_SYNC then s.modPort p fun x => { x with gen := x.gen.skipSync }
  else
    let d := s.fanDiv p
    let j := s.mer.count % d
    let len := unitsPerCycle * s.period * d
    let at_ : Int := -((j * (unitsPerCycle * s.period) : Nat) : Int)
    if j = 0 then s.genBegin p 0 len (s.tickOfs p len)
    else if (s.port p).gen.len = 0 then (s.genBegin p at_ len (s.tickOfs p len)).modPort p fun x => { x with gen := x.gen.skipPast }
    else s.modPort p fun x => { x with gen := { x.gen with at_ := at_, len := len }.skipPast }

/-- An accepted SYNC_IN edge, `pos` units after S and `gap` after the one before it, begins a sync-mode block; where the block that the
last interval foretold has begun less than half an interval off, that block moves to the edge (R144, log entry 97). -/
def State.genEdge (s : State) (p : Nat) (pos : Int) (gap : Nat) : State :=
  let g := (s.port p).gen
  if s.pstate p = 0 ∨ !s.pulses p then s
  else if g.len ≠ 0 ∧ 2 * (pos - g.at_).natAbs < gap then
    s.modPort p fun x => { x with gen := { x.gen with at_ := pos, len := gap, ofs := s.syncOfs p gap } }
  else s.genBegin p pos gap (s.syncOfs p gap)

/-- An update point (R142): the middle of the running period or the start of the next one, its period's index and length, and its place
after S. -/
structure Point where
  mid : Bool
  i : Nat
  per : Nat
  pos : Nat
  deriving DecidableEq, Repr

/-- Does a command name this update point: start of period `u` or middle, at place `pos` of the tick? -/
def Point.named (q : Point) (u : Nat) (mid : Bool) (pos : Nat) : Bool :=
  q.mid == mid && (mid || q.i == u) && q.pos == pos

/-- The next update point of a generating port, in the running tick or later: the running period's middle, else the next start. -/
def State.pointAhead (s : State) (p : Nat) : Option (Bool × Nat × Nat × Int) :=
  let x := s.port p
  let g := x.gen
  if g.mid then some (true, 0, g.per, x.start + (g.per / 2 : Nat))
  else if g.len = 0 then none
  else if g.next < g.m then some (false, g.next, g.lenOf g.next, g.startOf g.next)
  else if s.flag (STG_PWM p) STG_PWM_SYNC then some (false, 0, g.lenOf 0, g.startOf g.m)
  else none

/-- The next update point of the running tick (R116, R142). -/
def State.nextPoint (s : State) (p : Nat) : Option Point :=
  match s.pointAhead p with
  | some (mid, i, per, at_) => if 0 ≤ at_ ∧ at_ < (unitsPerCycle * s.period : Nat) then some ⟨mid, i, per, at_.toNat⟩ else none
  | none => none

/-- The generator passes an update point. -/
def PortSt.pass (x : PortSt) (q : Point) : PortSt :=
  let g := x.gen
  if q.mid then { x with gen := { g with mid := false } }
  else
    let g := if g.next < g.m then { g with next := q.i + 1 } else { g with at_ := g.at_ + g.len, next := 1 }
    { x with start := q.pos, gen := { g with per := q.per, mid := true } }

/-- The generator's times count from a new S, `n` units after the last; a middle that has passed unseen is dropped. -/
def PortSt.genShift (x : PortSt) (n : Nat) : PortSt :=
  let start := x.start - n
  { x with
    start := start, tail := x.tail - n, truncAt := x.truncAt - n, edges := x.edges.map (· - (n : Int)),
    swing := x.swing.map fun e => (e.1 - n, e.2), pulsed := x.pulsed.map fun e => (e.1 - n, e.2 - n), sync := { x.sync with at_ := x.sync.at_ - n }, fire := x.fire.map fun f => (f.1 - n, f.2.1 - n, f.2.2 - n),
    gen := { x.gen with at_ := x.gen.at_ - n, mid := x.gen.mid && decide (0 ≤ start + (x.gen.per / 2 : Nat)) } }

/-! ### On-times and the duty limits (R142, R222) -/

/-- The on-time of a duty in a period of `per` units, rounded half_even (R142). -/
def rawOn (duty : Int) (per : Nat) : Nat := (roundOff (duty * per) 23 .halfEven).toNat

/-- The longest on-time that leaves GA inactive for ENV_OFFT in a period; in COMP the dead time counts as off-time (R222). -/
def State.onTop (s : State) (p per : Nat) : Nat := per + s.deadTime p - s.getF (ENV_OFFT p) ENV_OFFT_MINOFF

/-- The on-time of a duty: at most ENV_DUTY, and cut to the minimum off-time (R142, R222). -/
def State.onTime (s : State) (p per : Nat) (duty : Word) : Nat :=
  min (rawOn (min (max duty.toInt 0) (s.rd (ENV_DUTY p)).toNat) per) (s.onTop p per)

/-- The length of the period that a duty is judged in: the running one, else that of the registers (R222). -/
def State.dutyPer (s : State) (p : Nat) : Nat :=
  let g := (s.port p).gen
  if g.per ≠ 0 then g.per else unitsPerCycle * s.period * s.fanDiv p / s.mult p

/-- A duty limited to ENV_DUTY and to the one whose on-time leaves the minimum off-time (R115, R222). -/
def State.dutyCap (s : State) (p : Nat) (v : Int) : Int :=
  let v := min (max v 0) (s.rd (ENV_DUTY p)).toNat
  let per := s.dutyPer p
  if s.onTop p per < rawOn v per then ((s.onTop p per * 2 ^ 23 / per : Nat) : Int) else v

end Sys2Proof.Machine
end

