-- ==== Sys2Proof/Machine/Envelope.lean ====
section
/-! DEFINITION. The safety-net envelope's write-tighten rule and its limits on outputs (R115, R122, R221, R222). -/

namespace Sys2Proof.Machine

/-- A field of the envelope takes a written value where it moves toward its safer direction or keeps its value, and
keeps its own otherwise; with whether the write was as tight or tighter (R221). The offset is that of the ENV_
register. ENV_PERS is judged bit by bit: ALLOW bits may clear, FUSE_OPEN may set. -/
def tighten (off : Nat) (old w : Word) : Word × Bool :=
  match off with
  | 0x81 =>
    let v := ENV_OFFT_MINOFF.get w
    if ENV_OFFT_MINOFF.get old ≤ v then (BitVec.ofNat 24 v, true) else (old, false)
  | 0x84 => if w.toInt ≤ old.toInt then (w, true) else (old, false)
  | 0x85 => if old.toInt ≤ w.toInt then (w, true) else (old, false)
  | 0x87 =>
    let a := ENV_PERS_ALLOW.get old &&& ENV_PERS_ALLOW.get w
    let f := ENV_PERS_FUSE_OPEN.get old ||| ENV_PERS_FUSE_OPEN.get w
    (ENV_PERS_FUSE_OPEN.put (ENV_PERS_ALLOW.put old a) f,
      a == ENV_PERS_ALLOW.get w && f == ENV_PERS_FUSE_OPEN.get w)
  | _ => if w.toNat ≤ old.toNat then (w, true) else (old, false)

/-- An ENV_ field of a port takes a value that is as tight or tighter: a change shows in TIGHT, a new fast limit is
taken by the comparator within 2 µs (1,600 lane cycles), a new duty or off-time re-limits the value in force (R222, R233). -/
def State.envTake (s : State) (p off : Nat) (w : Word) (cyc : Nat) : State :=
  let l := Loc.port p off
  let old := s.rd l
  if s.rd l = w then s
  else
    let s := (s.wr l w).setF (ENV_STAT p) ENV_STAT_TIGHT 1
    match off with
    | 0x82 => s.modPort p fun x => { x with cmpOld := x.cmpOld ++ [(old, cyc + 1600)] }
    | 0x80 => s.modPort p fun x => { x with relimit := true }
    | 0x81 => s.modPort p fun x => { x with relimit := true }
    | _ => s

/-- Tightenings by ENVT whose 8 lane cycles are over at lane cycle `cyc` take effect, each as a write-tighten (R122). -/
def State.envSettle (s : State) (p cyc : Nat) : State :=
  let due := (s.port p).envPend.filter (fun e => decide (e.2.2 ≤ cyc))
  let rest := (s.port p).envPend.filter (fun e => !decide (e.2.2 ≤ cyc))
  let s := forList due (fun e s => s.envTake p e.1 (tighten e.1 (s.rd (.port p e.1)) e.2.1).1 e.2.2) s
  if due.isEmpty then s else s.modPort p fun x => { x with envPend := rest }

/-- A register write to an ENV_ register: each field is judged; a refused field raises ENV_WT_REFUSED once (R221). -/
def State.writeEnv (s : State) (p off : Nat) (w : Word) (cyc : Nat) : State :=
  let s := s.envSettle p cyc
  let r := tighten off (s.rd (.port p off)) w
  let s := s.envTake p off r.1 cyc
  if r.2 then s else s.raise (tileSrc (p / 16) ENV_WT_REFUSED) p cyc

/-- The ENV_ register offset of a field code of ENVT (R122). -/
def envtOff (field : Nat) : Nat :=
  match field with
  | 0 => 0x80
  | 1 => 0x81
  | 2 => 0x82
  | 3 => 0x83
  | 4 => 0x84
  | 5 => 0x85
  | _ => 0x86

/-- Is a value as tight as a field's value or tighter (R122)? -/
def State.envtOk (s : State) (p field : Nat) (w : Word) : Bool :=
  (tighten (envtOff field) (s.rd (.port p (envtOff field))) w).2

/-- ENVT takes effect from 8 lane cycles after its issue, or is refused (R122). -/
def State.envtIssue (s : State) (p field : Nat) (w : Word) (cyc : Nat) : State :=
  let s := s.envSettle p cyc
  if s.envtOk p field w then
    s.modPort p fun x => { x with envPend := x.envPend ++ [(envtOff field, w, cyc + 8)] }
  else s.raise (tileSrc (p / 16) LAN_ENVT_REFUSED) p cyc

/-- The value of a target on which slew is measured: the last one pending, else the last applied (R115). -/
def State.outRef (s : State) (p tgt : Nat) : Word :=
  ((s.port p).pend.foldl (fun o e => if e.1 = tgt then some e.2.w else o) none).getD ((s.port p).app tgt)

/-- A value limited to the slew of the envelope against a reference (R222). -/
def slewTo (ref x slew : Int) : Int := if x - ref > slew then ref + slew else if ref - x > slew then ref - slew else x

/-- The value that the envelope lets an OUT of a target pass, against a slew reference: DUTY from 0 to ENV_DUTY and to the minimum
off-time and slewed, from a reference that is limited itself, GREF slewed, SHIFT modulo 1, GATE as it is (R114, R115, R222). -/
def State.limitOut (s : State) (p tgt : Nat) (ref w : Word) : Word :=
  let slew : Int := (s.rd (ENV_SLEW p)).toNat
  match tgt with
  | 0 => word (slewTo (s.dutyCap p ref.toInt) (s.dutyCap p w.toInt) slew)
  | 1 => w &&& 0x7FFFFF
  | 2 => word (slewTo ref.toInt w.toInt slew)
  | _ => w

/-- Does the limit show in V (R111)? SHIFT taken modulo 1 is no limit of the envelope. DESIGN CHOICE: a DUTY below 0, which applies as 0,
counts as limited (log entry 90). -/
def limited (tgt : Nat) (v w : Word) : Bool := tgt != 1 && v != w

/-- Does a personality use a target (R114, R130)? -/
def usesTarget (pers tgt : Nat) : Bool :=
  match pers with
  | 0 => tgt == 0 || tgt == 1
  | 1 => tgt == 2 || tgt == 3
  | 2 => tgt == 2 || tgt == 3
  | _ => tgt == 0

/-- The output of the reverse-current comparator, which fuse and OR-ing have, is active (R147). -/
def State.rcHolds (s : State) (p : Nat) : Bool := (s.pers p == 1 || s.pers p == 2) && (s.port p).rcActive

/-- OUT of a target at lane cycle `cyc`, with the slew reference `ref`: the state and V. A target the personality does
not use raises LAN_OUT_PERS; SAFE takes nothing; OFF stores; ON passes the limited value to the next update point at
least 8 lane cycles on (R113 to R116, R131). While the reverse-current comparator's output is active, V is set in fuse and OR-ing
(R147). -/
def State.outIssue (s : State) (p tgt : Nat) (ref w : Word) (cyc : Nat) : State × Bool :=
  let s := s.envSettle p cyc
  if !usesTarget (s.pers p) tgt then (s.raise (tileSrc (p / 16) LAN_OUT_PERS) p cyc, true)
  else if s.pstate p = 2 then (s, true)
  else
    let v := s.limitOut p tgt ref w
    if s.pstate p = 0 then
      (s.modPort p fun x => { x with stored := Tab.set none x.stored tgt (some v) }, true)
    else
      let s := if limited tgt v w then s.countCore p 0x0E 1 else s
      (s.modPort p fun x => { x with pend := x.pend ++ [(tgt, { w := v, due := cyc + 8, ref := ref })] },
        limited tgt v w || s.rcHolds p)

/-- What OUT would answer in V without taking effect, for a LOCK sequence (R125). -/
def State.outJudge (s : State) (p tgt : Nat) (ref w : Word) (cyc : Nat) : State × Bool × Word :=
  let s := s.envSettle p cyc
  let v := s.limitOut p tgt ref w
  if !usesTarget (s.pers p) tgt then (s, true, w)
  else if s.pstate p = 2 ∨ s.pstate p = 0 then (s, true, v)
  else (s, limited tgt v w || s.rcHolds p, v)

end Sys2Proof.Machine
end

