-- ==== Sys2Proof/Machine/Operands.lean ====
section
/-! DEFINITION. How a Gwyn-24 instruction issues: bundles, predicates, registers, addresses, loops, control
transfers, LOCK sequences, precise exceptions (R56 to R69, R86, R92, R100, R103, R106, R124, R125). -/

namespace Sys2Proof.Machine

/-! ### Registers of a core -/

def CoreRegs.getD (r : CoreRegs) (n : Nat) : Word := Tab.get 0 r.d n
def CoreRegs.setD (r : CoreRegs) (n : Nat) (w : Word) : CoreRegs := { r with d := Tab.set 0 r.d n w }
def CoreRegs.getA (r : CoreRegs) (n : Nat) : Acc := Tab.get 0 r.a n
def CoreRegs.setA (r : CoreRegs) (n : Nat) (w : Acc) : CoreRegs := { r with a := Tab.set 0 r.a n w }
def CoreRegs.getP (r : CoreRegs) (n : Nat) : Ptr := Tab.get 0 r.p n
def CoreRegs.setP (r : CoreRegs) (n : Nat) (w : Ptr) : CoreRegs := { r with p := Tab.set 0 r.p n w }

/-- The bits of c0 that a program can write (R88). -/
def c0Mask : Word := 0x1EF

/-- A 24-bit result goes to a data register with its flags and the clamp count (R90, R91). -/
def CoreRegs.result (r : CoreRegs) (d : Nat) (x : Res) : CoreRegs :=
  { r.setD d x.v with c0 := setFlags r.c0 x, c7 := countSat r.c7 x.sat }

/-- A 56-bit result goes to an accumulator with its flags (R91). -/
def CoreRegs.resultA (r : CoreRegs) (a : Nat) (x : AccRes) : CoreRegs :=
  { r.setA a x.v with c0 := setAccFlags r.c0 x.v x.ov }

/-- Change a core's registers. -/
def State.modRegs (s : State) (c : Nat) (f : CoreRegs → CoreRegs) : State := s.modCore c fun k => { k with r := f k.r }

/-- Is the core a steward? -/
def isSteward (c : Nat) : Bool := decide (128 ≤ c)

/-- The same in core `k`: GERR is a steward's only (R88, log entry 78). -/
def c0MaskOf (k : Nat) : Word := if isSteward k then c0Mask else 0xEF

/-- The tile of a core. -/
def coreTile (c : Nat) : Nat := if 128 ≤ c then c - 128 else c / 16

/-- Size of a core's data memory (R62). -/
def dmemSize (c : Nat) : Nat := if 128 ≤ c then 65536 else 4096

/-- Place of a word of a core's own data memory: the address is taken modulo its size (R62). -/
def dmemIdx (c a : Nat) : Nat := c * 65536 + a % dmemSize c

/-- Bundles of one program bank (R56). -/
def bankSize (c : Nat) : Nat := if 128 ≤ c then 32768 else 4096

/-! ### Protection (R69) -/

/-- The access rights of a mode code: read, write, execute (R69). -/
def mpuGrants (code : Nat) (write exec : Bool) : Bool :=
  match code with
  | 0 => false
  | 1 => !write && !exec
  | 2 => !write
  | _ => !exec

/-- Is the steward in privileged mode (R105)? -/
def Core.privileged (c : Core) : Bool := (c.sreg 0).getLsbD 0

/-- Does a region in use cover an address of a space (R69)? -/
def Core.mpuCovers (c : Core) (region space a : Nat) : Bool :=
  let w0 := Tab.get 0 c.mpu (4 * region)
  let w1 := Tab.get 0 c.mpu (4 * region + 1)
  let w2 := Tab.get 0 c.mpu (4 * region + 2)
  w2.getLsbD 5 && (⟨23, 20⟩ : Fld).get w0 == space && decide ((⟨19, 0⟩ : Fld).get w0 ≤ a) && decide (a ≤ (⟨19, 0⟩ : Fld).get w1)

/-- Does the protection unit let the steward make an access (R69)? The lowest region that covers it decides; where
none does, privileged mode is allowed and user mode refused. -/
def Core.mpuAllows (c : Core) (space a : Nat) (write exec : Bool) : Bool :=
  match (List.range 16).find? (fun g => c.mpuCovers g space a) with
  | none => c.privileged
  | some g =>
    let w2 := Tab.get 0 c.mpu (4 * g + 2)
    mpuGrants (if c.privileged then (⟨2, 1⟩ : Fld).get w2 else (⟨4, 3⟩ : Fld).get w2) write exec

/-! ### LOCK sequences (R125) -/

/-- Discard an open sequence: its held writes are dropped and the saved registers restored. -/
def Core.discard (c : Core) : Core :=
  match c.lock with
  | none => c
  | some l => { c with r := l.saved, lock := none }

/-- Hold a write in the open sequence. -/
def Core.hold (c : Core) (h : HeldWrite) : Core :=
  match c.lock with
  | none => c
  | some l => { c with lock := some { l with held := l.held ++ [h] } }

/-- The value that the last held store to a data memory index gives (R125). -/
def heldMem (hs : List HeldWrite) (a : Nat) : Option Word :=
  hs.foldl (fun o h => match h with | .mem b w => if b = a then some w else o | _ => o) none

/-- The last held OUT of a target (R125: it counts as pending for the slew limit). -/
def heldOut (hs : List HeldWrite) (tgt : Nat) : Option Word :=
  hs.foldl (fun o h => match h with | .out t w => if t = tgt then some w else o | _ => o) none

/-- The core's open sequence's held writes. -/
def Core.heldWrites (c : Core) : List HeldWrite := match c.lock with | none => [] | some l => l.held

/-! ### Precise exceptions (R106) -/

/-- What a bundle's slot 0 did is undone: a faulting bundle has no effect (R106). Interrupts that became pending meanwhile stay, but for
that of a TRAP of the bundle. -/
def State.undoBundle (s : State) (k : Nat) : State :=
  let c := s.core k
  let s := match c.undoMem with | some (i, w) => { s with dmem := Tab.set 0 s.dmem i w } | none => s
  let s := if c.undoStc then s.modTile (coreTile k) fun t => { t with cramBuf := t.cramBuf.dropLast } else s
  let d := match c.undoPriv with
    | some (p, m, w) =>
      { c with s := Tab.set 0 p 3 ((c.sreg 3 &&& ~~~0x4000) ||| (Tab.get 0 p 3 &&& 0x4000)), mpu := m, waiting := w }
    | none => c
  s.setCore k
    { d with r := c.snap.getD c.r, snap := none, jump := none, undoMem := none, undoStc := false, access := none, first := none, undoPriv := none }

/-- A steward takes a precise exception with a cause in place of its bundle: an open LOCK sequence is discarded and
EPC holds the LOCK bundle's address; s5 takes c0; the mode becomes privileged; interrupts are masked; the loop state is
dropped; it continues at VBASE. With IE at 0 it halts and LAN_STW_DOUBLE is raised (R103, R106, R125). -/
def State.precise (s : State) (k cause cyc : Nat) : State :=
  let s := s.undoBundle k
  let c := s.core k
  let epc := match c.lock with | some l => l.at_ | none => c.pc
  let c := c.discard
  let c := c.setS 1 ((⟨3, 0⟩ : Fld).put (c.sreg 1) cause)
  if (c.sreg 0).getLsbD 2 then
    let s0 := c.sreg 0
    let c := c.setS 4 (BitVec.ofNat 24 (epc % 32768))
    let c := c.setS 5 c.r.c0
    let c := c.setS 0 (BitVec.ofNat 24 (if s0.getLsbD 0 then 3 else 1))
    let c := c.setS 3 (c.sreg 3 &&& ~~~1)
    s.setCore k { c with pc := (c.sreg 6).toNat % 32768, loops := [], waiting := false }
  else (s.setCore k { c with dead := true, loops := [] }).raise (tileSrc (coreTile k) LAN_STW_DOUBLE) (coreTile k) cyc

/-- The protection unit refuses an access of a steward: FADDR, LAN_STW_MPU, and the exception with cause 0x1 (R69). -/
def State.mpuRefuse (s : State) (k a cyc : Nat) : State :=
  let s := s.modCore k fun c => c.setS 7 (BitVec.ofNat 24 (a % 2 ^ 20))
  (s.raise (tileSrc (coreTile k) LAN_STW_MPU) (coreTile k) cyc).precise k 1 cyc

/-! ### Bundles -/

/-- Can the core issue an instruction: it runs, and either a bundle is in progress or nothing stops the next one? -/
def Core.canIssue (c : Core) : Bool :=
  c.running && !c.asleep && (c.snap.isSome || (!c.dead && !c.halted && !c.waiting && c.access.isNone))

/-- The registers that an instruction of the bundle in progress reads (R92). -/
def Core.src (c : Core) : CoreRegs := c.snap.getD c.r

/-- An instruction issues: slot 0 begins a bundle, slot 1 begins one where slot 0 did not (R92). -/
def Core.openSlot (c : Core) (slot1 : Bool) (x : Instr) : Core :=
  if slot1 ∧ c.snap.isSome then c
  else
    { c with snap := some c.r, jump := none, undoMem := none, undoStc := false, first := if slot1 then none else some x,
             undoPriv := none }

/-- The instruction is no reserved encoding and breaks no pairing rule of its bundle (R85, R93, R108, R110): asked of stewards alone,
since the loader refuses a lane program that breaks one (R73). -/
def Core.legal (c : Core) (x : Instr) (i : Issue) : Bool :=
  !isSteward i.core || (!reservedForm x && slotFits i.slot1 x &&
    (!i.slot1 || c.snap.isNone || (match c.first with | some y => mayPair y x | none => true)))

/-- The loop levels and the bundle that follow when the bundle at `b` ends without a transfer (R103): the innermost
body that ends there goes back or is left, and then the one round it. -/
def loopAfter (b : Nat) : List LoopLevel → List LoopLevel × Nat
  | [] => ([], b + 1)
  | l :: ls =>
    if l.last = b then if l.i + 1 < l.n then ({ l with i := l.i + 1 } :: ls, l.first) else loopAfter b ls
    else (l :: ls, b + 1)

/-- The bundle in progress ends: the pc goes on (R102, R103), a halt that waited for the bundle takes hold unless a
LOCK sequence is open (R126, R461). DESIGN CHOICE: a transfer out of or into a LOOP body leaves the loop levels as they are (log entry 87). -/
def Core.endBundle (c : Core) (k : Nat) : Core :=
  match c.snap with
  | none => c
  | some _ =>
    let c := match c.jump with
      | some t => { c with pc := t % bankSize k }
      | none => let r := loopAfter c.pc c.loops; { c with loops := r.1, pc := r.2 % bankSize k }
    let c := { c with snap := none, jump := none, undoMem := none, undoStc := false, first := none, undoPriv := none }
    if c.haltPend ∧ c.lock.isNone then { c with halted := true, haltPend := false } else c

/-- The loop body's boundary lies at the end of the bundle in progress (R103). -/
def Core.atLoopEnd (c : Core) : Bool := match c.loops with | [] => false | l :: _ => l.last == c.pc

/-- After slot 1 the bundle ends. A steward whose LOCK sequence would cross a LOOP body boundary there takes a precise
exception (R124). -/
def State.closeSlot (s : State) (i : Issue) : State :=
  let c := s.core i.core
  if !i.slot1 then s
  else if isSteward i.core ∧ c.snap.isSome ∧ c.lock.isSome ∧ c.atLoopEnd then s.precise i.core 3 i.cyc
  else
    let s := s.modCore i.core fun c => { c.endBundle i.core with stepping := false }
    if !isSteward i.core ∧ !c.halted ∧ (s.core i.core).halted then s.enterSafeOn i.core 6 else s

/-- A step of the tag shift register (R452). -/
def tagStep (x : BitVec 32) : BitVec 32 := if x.getLsbD 0 then (x >>> 1) ^^^ 0x80200003 else x >>> 1

/-- The tag shift register of a lane (R452); until a bundle or a write sets it, as the reset value of SEED loads it. -/
def Core.tagReg (c : Core) (l : Nat) : BitVec 32 := c.lfsr.getD (BitVec.ofNat 32 (256 + l + 1))

/-- A lane's bundle is tagged or not as the register steps (R452). -/
def State.tagBundle (s : State) (i : Issue) : State :=
  let c := s.core i.core
  let x := tagStep (c.tagReg i.core)
  let t := coreTile i.core
  let hit := s.flag (PRF_TAG_CTL t) PRF_TAG_CTL_EN && x.toNat % 2 ^ s.getF (PRF_TAG_CTL t) PRF_TAG_CTL_K == 0
  let w := Tab.get 0 s.code ((i.core * 2 + s.getF (LAN_STAT i.core) LAN_STAT_BANK) * 32768 + c.pc)
  let r : TagRec := ⟨i.core, c.pc, false, false, i.wait, s.mer.count, i.cyc, if i.wait = 1 then 0 else i.cyc - c.lastIssue - 1, w⟩
  s.setCore i.core { c with lfsr := some x, tag := if hit then some r else none }

/-- A bundle begins to issue: the lane's ledger charges the cycles since the last one to their cause (R451), and the lane
steps its tag register (R452). -/
def State.bundleStart (s : State) (i : Issue) : State :=
  if isSteward i.core then s.countCore i.core 0x31 1
  else
    let gap := i.cyc - (s.core i.core).lastIssue - 1
    let s := (s.countCore i.core 0x10 (gap + 1)).countCore i.core 0x11 1
    let s := if i.wait = 0 then s else s.countCore i.core (0x15 + i.wait) (2 * gap)
    let s := if i.wait = 4 ∨ i.wait = 5 then s.countT (coreTile i.core) 34 0x51 gap else s
    (s.tagBundle i).modCore i.core fun c => { c with lastIssue := i.cyc }

/-- A lane's slot issues: it takes effect, holds NOP, or is predicated off (R451). -/
def State.slotCharge (s : State) (i : Issue) (nop on : Bool) : State :=
  if isSteward i.core then s
  else
    let s := s.countCore i.core (if nop then 0x13 else if on then 0x12 else 0x14) 1
    if on then s.modCore i.core fun c =>
      { c with tag := c.tag.map fun (t : TagRec) => if i.slot1 then { t with ex1 := !nop } else { t with ex0 := !nop } }
    else s

/-- The tagged bundle ends: its record enters the tile's tag buffer, or is lost where 256 are held (R452). -/
def State.tagEnd (s : State) (i : Issue) : State :=
  match (s.core i.core).tag with
  | none => s
  | some r =>
    let t := coreTile i.core
    let s := s.modCore i.core fun c => { c with tag := none }
    if (s.tile t).tags.length < 256 then s.modTile t fun x => { x with tags := x.tags ++ [r] }
    else (s.bump (PRF_TAG_LOST t)).raise (tileSrc t PRF_TAG_LOST_SRC) t i.cyc

/-- A corrected memory error raises LAN_MEM_CE (R65). -/
def State.corrected (s : State) (ce : Bool) (k cyc : Nat) : State :=
  if ce then (s.countCore k 0x0C 1).raise (tileSrc (coreTile k) LAN_MEM_CE) (if isSteward k then 0xFF else k) cyc else s

/-- Issue one instruction: open its bundle, apply its effect where its predicate holds on c0 as it stood before the bundle, and end the
bundle after slot 1 (R86, R92). A steward's bundle is fetched under the protection unit (R69); where it holds a reserved encoding or
breaks a pairing rule the steward takes a precise exception with cause 0x3 (R85, R93). -/
def issueAny (x : Instr) (i : Issue) (s : State) (body : CoreRegs → State → State) : State :=
  let c := s.core i.core
  if !c.canIssue then s
  else if isSteward i.core ∧ c.snap.isNone ∧ !c.mpuAllows 0 c.pc false true then s.mpuRefuse i.core c.pc i.cyc
  else if !c.legal x i then s.precise i.core 3 i.cyc
  else
    let fresh := c.snap.isNone || !i.slot1
    let s := if fresh then (s.corrected i.ce i.core i.cyc).bundleStart i else s
    let c := (s.core i.core).openSlot i.slot1 x
    let s := s.setCore i.core c
    let on := predHolds c.src.c0 i.pred
    let s := s.slotCharge i (insInfo x).isNop on
    let s := if on then body c.src s else s
    let s := s.closeSlot i
    if i.slot1 then s.tagEnd i else s

/-- Count an instruction of an open LOCK sequence (R124). -/
def Core.countLock (c : Core) : Core :=
  match c.lock with | none => c | some l => { c with lock := some { l with n := l.n + 1 } }

/-- The core's open sequence is full: 32 instructions (R124). -/
def Core.lockFull (c : Core) : Bool := match c.lock with | none => false | some l => decide (32 ≤ l.n)

/-- Issue an instruction other than NOP and UNLOCK: in an open LOCK sequence it counts, and a steward that goes over
the limit takes a precise exception (R124). -/
def issue (x : Instr) (i : Issue) (s : State) (body : CoreRegs → State → State) : State :=
  let c := s.core i.core
  if isSteward i.core ∧ c.canIssue ∧ c.lockFull then s.precise i.core 3 i.cyc
  else issueAny x i (if c.canIssue ∧ c.lock.isSome then s.modCore i.core Core.countLock else s) body

/-- Issue an instruction that a LOCK sequence may not hold: a steward that does takes a precise exception (R124). -/
def issueOutside (x : Instr) (i : Issue) (s : State) (body : CoreRegs → State → State) : State :=
  issueAny x i s fun src s =>
    if isSteward i.core ∧ (s.core i.core).lock.isSome then s.precise i.core 3 i.cyc else body src s

/-- An instruction whose whole effect is on the core's registers. -/
def issueRegs (x : Instr) (i : Issue) (s : State) (f : CoreRegs → CoreRegs → CoreRegs) : State :=
  issue x i s fun src s =>
    let n := (s.core i.core).r.c7
    let s := s.modRegs i.core (f src)
    if (s.core i.core).r.c7 = n + 1 then s.countCore i.core 0x0F 1 else s

/-- A system instruction notes what a precise exception of its bundle brings back (R106). -/
def Core.holdPriv (c : Core) : Core := { c with undoPriv := some (c.s, c.mpu, c.waiting) }

/-- A privileged instruction: in user mode it raises a precise exception with cause 0x3 (R104). DESIGN CHOICE: one whose predicate does
not hold raises none (log entry 86). -/
def issuePriv (x : Instr) (i : Issue) (s : State) (body : CoreRegs → State → State) : State :=
  issue x i s fun src s =>
    if (s.core i.core).privileged then body src (s.modCore i.core Core.holdPriv) else s.precise i.core 3 i.cyc

/-- A lane-only instruction: a steward that issues it takes a precise exception with cause 0x3 (R108). DESIGN CHOICE: one whose predicate
does not hold raises none (log entry 86). -/
def issueLane (x : Instr) (i : Issue) (s : State) (body : CoreRegs → State → State) : State :=
  issue x i s fun src s => if isSteward i.core then s.precise i.core 3 i.cyc else body src s

/-- A control transfer of the bundle in progress (R102, R104). -/
def State.jumpTo (s : State) (k t : Nat) : State := s.modCore k fun c => { c with jump := some t }

/-- A program address plus a signed offset, modulo the bank (R102). -/
def relAddr (k pc : Nat) (ofs : Int) : Nat := ((pc + ofs) % bankSize k).toNat

/-! ### Addresses (R100) -/

/-- The address that a pointer access uses, and the pointer's value afterwards (R100). -/
def AMode.addr (m : AMode) (base : Ptr) (ofs : Int) : Ptr × Ptr :=
  let b := base + BitVec.ofInt 16 ofs
  match m with
  | .offset => (b, base)
  | .postMod => (base, b)
  | .preMod => (b, b)

/-- The word that a core's load reads: a held store of its open sequence, else its data memory (R100, R125). -/
def State.loadMem (s : State) (k a : Nat) : Word :=
  match heldMem (s.core k).heldWrites (dmemIdx k a) with
  | some w => w
  | none => Tab.get 0 s.dmem (dmemIdx k a)

/-- A core's store: held in an open sequence, else at once (R100, R125). -/
def State.storeMem (s : State) (k a : Nat) (w : Word) : State :=
  let x := dmemIdx k a
  if (s.core k).lock.isSome then s.modCore k fun c => c.hold (.mem x w)
  else
    let old := Tab.get 0 s.dmem x
    { (s.modCore k fun c => { c with undoMem := some (x, old) }) with dmem := Tab.set 0 s.dmem x w }

/-- Is a steward's access to its own data memory or to the coefficient and table RAM allowed (R69)? A lane has no
protection unit. -/
def State.mayAccess (s : State) (k space a : Nat) (write : Bool) : Bool :=
  !isSteward k || (s.core k).mpuAllows space a write false

/-- A memory instruction through a pointer: the protection check, the access, then the pointer update (R69, R100). -/
def issueMem (x : Instr) (i : Issue) (s : State) (pb : Nat) (m : AMode) (ofs : Int) (space : Nat) (write : Bool)
    (body : CoreRegs → Nat → State → State) : State :=
  issue x i s fun src s =>
    let r := m.addr (src.getP pb) ofs
    let a := if space = 1 then r.1.toNat % dmemSize i.core else r.1.toNat
    if !s.mayAccess i.core space a write then s.mpuRefuse i.core a i.cyc
    else
      let s := body src a s
      if m = .offset then s else s.modRegs i.core fun x => x.setP pb r.2

/-! ### Control and status registers (R57) -/

/-- The cell of a lane in a tile's receive buffer: a word of it, and its presence (R119). An absent cell reads 0. -/
def State.recvWord (s : State) (n lane w : Nat) : Word :=
  if Tab.get false s.present (n * 128 + lane) then Tab.get 0 s.recv ((n * 128 + lane) * 8 + w) else 0

/-- Presence bits of the last exchange window, one per source tile (R57, R119). -/
def State.pres (s : State) (n : Nat) : Word :=
  BitVec.ofNat 24 ((List.range 8).foldl
    (fun x t => if (List.range 16).any (fun l => Tab.get false s.present (n * 128 + 16 * t + l)) then x + 2 ^ t else x) 0)

/-- The iteration counter of the innermost active loop, 0 outside a body (R103, R109). -/
def Core.innerCount (c : Core) : Nat := match c.loops with | [] => 0 | l :: _ => l.i

/-- Reading a control and status register (R57): LC0 is the outer loop's counter, LC1 the inner one's. DESIGN CHOICE: of three loops that
run in a steward, LC1 is the innermost one's (log entry 87). -/
def State.creg (s : State) (i : Issue) (src : CoreRegs) (n : Nat) : Word :=
  let c := s.core i.core
  match n with
  | 0 => src.c0
  | 1 => BitVec.ofNat 24 (match c.loops.getLast? with | none => 0 | some l => l.i)
  | 2 => BitVec.ofNat 24 (match c.loops with | l :: _ :: _ => l.i | _ => 0)
  | 3 => BitVec.ofNat 24 i.cyc
  | 4 => lo24 s.mer.count
  | 5 => BitVec.ofNat 24 i.core
  | 6 => s.pres (coreTile i.core)
  | _ => src.c7

end Sys2Proof.Machine
end

