-- ==== Sys2Proof/Machine/Memory.lean ====
section
/-! DEFINITION. Loads and stores of a core's own data memory and of the coefficient and table RAM, and the start of a
gazetteer access (R63, R100, R101). -/

namespace Sys2Proof.Machine

/-- The content of word `a` of a tile's coefficient and table RAM (R63). -/
def State.cramWord (s : State) (n a : Nat) : Word := Tab.get 0 s.cram (n * 65536 + a % 65536)

/-- A write enters the tile's write buffer at lane cycle `cyc` (R63); the buffer holds 64, and further writes wait behind. -/
def State.cramPut (s : State) (n a : Nat) (w : Word) (cyc : Nat) : State :=
  s.modTile n fun t =>
    { t with cramBuf := t.cramBuf ++ [(a % 65536, w)], fullAt := if t.cramBuf.length = 63 then some cyc else t.fullAt }

/-- The write buffer of a tile has no room for `n` more writes (R63). -/
def State.cramFull (s : State) (t n : Nat) : Bool :=
  let held := (s.tile t).cramBuf.length
  held != 0 && decide (64 < held + n)

/-- A gazetteer access of a steward counts (R450). -/
def State.gzCount (s : State) (k : Nat) : State := s.countCore k 0x33 1

/-- LD (R100): d = word of own data memory; `ce`: its read was corrected (R65). -/
def execLd (i : Issue) (d pb : Nat) (m : AMode) (ofs : Int) (ce : Bool) (s : State) : Host.Outcome State Fault Refusal :=
  .next (issueMem (.ld i d pb m ofs ce) i s pb m ofs 1 false fun _ a s =>
    let w := s.loadMem i.core a
    (s.corrected ce i.core i.cyc).modRegs i.core fun r => r.setD d w)

/-- ST (R100): word of own data memory = d. -/
def execSt (i : Issue) (d pb : Nat) (m : AMode) (ofs : Int) (s : State) : Host.Outcome State Fault Refusal :=
  .next (issueMem (.st i d pb m ofs) i s pb m ofs 1 true fun src a s => s.storeMem i.core a (src.getD d))

/-- LDC (R100): d = word of the tile's coefficient and table RAM. -/
def execLdc (i : Issue) (d pb : Nat) (m : AMode) (ofs : Int) (ce : Bool) (s : State) : Host.Outcome State Fault Refusal :=
  .next (issueMem (.ldc i d pb m ofs ce) i s pb m ofs 2 false fun _ a s =>
    let w := s.cramWord (coreTile i.core) a
    let s := if isSteward i.core then s else s.countT (coreTile i.core) 34 0x50 1
    (s.corrected ce i.core i.cyc).modRegs i.core fun r => r.setD d w)

/-- STC (R63, R100): a word for the tile's coefficient and table RAM enters the write buffer, or is held in an open
LOCK sequence; while the buffer is full the steward waits with it. It needs CONFIGURE rights of the steward's port; a refusal sets GERR and has no effect (R63, R340). -/
def execStc (i : Issue) (d pb : Nat) (m : AMode) (ofs : Int) (s : State) : Host.Outcome State Fault Refusal :=
  .next (issueMem (.stc i d pb m ofs) i s pb m ofs 2 true fun src a s =>
    if (s.core i.core).lock.isSome then s.modCore i.core fun c => c.hold (.stc a (src.getD d))
    else if s.getF (RGT_PORT (13 + coreTile i.core)) RGT_PORT_RIGHTS / 4 % 2 = 1 then
      if s.cramFull (coreTile i.core) 1 then s.modCore i.core fun c => { c with access := some (.stc a (src.getD d)), lastIssue := i.cyc }
      else (s.modCore i.core fun c => { c with undoStc := true }).cramPut (coreTile i.core) a (src.getD d) i.cyc
    else
      let l := Loc.cram (coreTile i.core) (a % 0x8000)
      let s := ((s.bump RGT_DENY_CNT).raise RGT_DENIED (13 + coreTile i.core) i.cyc).wr RGT_LAST
        (BitVec.ofNat 24 (2 ^ 7 + 13 + coreTile i.core))
      (s.wr RGT_LAST_ADDR (BitVec.ofNat 24 l.addr)).modRegs i.core fun r => { r with c0 := C0_GERR.put r.c0 1 })

/-- LDP (R100): p = word[15:0] of own data memory. -/
def execLdp (i : Issue) (pd pb : Nat) (m : AMode) (ofs : Int) (ce : Bool) (s : State) : Host.Outcome State Fault Refusal :=
  .next (issueMem (.ldp i pd pb m ofs ce) i s pb m ofs 1 false fun _ a s =>
    let w := s.loadMem i.core a
    (s.corrected ce i.core i.cyc).modRegs i.core fun r => r.setP pd (w.setWidth 16))

/-- STP (R100): word of own data memory = p zero-extended. -/
def execStp (i : Issue) (ps pb : Nat) (m : AMode) (ofs : Int) (s : State) : Host.Outcome State Fault Refusal :=
  .next (issueMem (.stp i ps pb m ofs) i s pb m ofs 1 true fun src a s => s.storeMem i.core a ((src.getP ps).setWidth 24))

/-- The gazetteer address of LDG and STG: (dB[19:0] + OFS) mod 2^20 (R100). -/
def gzAddr (b : Word) (ofs : Int) : Nat := (((b.toNat % 2 ^ 20 : Nat) + ofs) % 2 ^ 20).toNat

/-- LDG (R101): after the protection check the steward is held until the access completes. -/
def execLdg (i : Issue) (d b : Nat) (ofs : Int) (s : State) : Host.Outcome State Fault Refusal :=
  .next (issue (.ldg i d b ofs) i s fun src s =>
    let a := gzAddr (src.getD b) ofs
    if !(s.core i.core).mpuAllows 3 a false false then s.mpuRefuse i.core a i.cyc
    else (s.gzCount i.core).modCore i.core fun c => { c with access := some (.ldg d a), lastIssue := i.cyc })

/-- STG (R101): after the protection check the steward is held until the access completes, or the write is held in an
open LOCK sequence (R125). -/
def execStg (i : Issue) (d b : Nat) (ofs : Int) (s : State) : Host.Outcome State Fault Refusal :=
  .next (issue (.stg i d b ofs) i s fun src s =>
    let a := gzAddr (src.getD b) ofs
    if !(s.core i.core).mpuAllows 3 a true false then s.mpuRefuse i.core a i.cyc
    else if (s.core i.core).lock.isSome then s.modCore i.core fun c => c.hold (.stg a (src.getD d))
    else (s.gzCount i.core).modCore i.core fun c => { c with access := some (.stg a (src.getD d)), lastIssue := i.cyc })

end Sys2Proof.Machine
end

