-- ==== Sys2Proof/Machine/PortIns.lean ====
section
/-! DEFINITION. The port, exchange and sequence instructions that need no other unit (R112 to R122, R124). -/

namespace Sys2Proof.Machine

/-- The quantity that SMP reads of a port (R112). -/
def State.sample (s : State) (p src : Nat) : Word :=
  let x := s.port p
  match src with
  | 0 => x.smpI
  | 1 => x.smpV
  | 2 => x.ipk
  | 3 => x.ivl
  | 4 => x.vpk
  | 5 => x.vvl
  | 6 => x.smpT
  | _ => BitVec.ofNat 24 (s.getF (STG_STAT p) STG_STAT_FE)

/-- SMP (R112): d = a quantity of the own port, or of local port `other` of the lane's tile. -/
def execSmp (i : Issue) (d : Nat) (other : Option Nat) (src : Nat) (s : State) : Host.Outcome State Fault Refusal :=
  .next (issueLane (.smp i d other src) i s fun _ s =>
    let p := match other with | none => i.core | some x => 16 * coreTile i.core + x % 16
    let w := s.sample p src
    s.modRegs i.core fun r => r.setD d w)

/-- Write V alone in c0 (R111). -/
def CoreRegs.setV (r : CoreRegs) (v : Bool) : CoreRegs := { r with c0 := C0_V.put r.c0 (b2n v) }

/-- OUT (R113 to R116): pass a value to a target of the own port; V shows a limit. In an open LOCK sequence the value
is judged at issue and held, the OUTs already held counting as pending (R125). -/
def execOut (i : Issue) (a tgt : Nat) (s : State) : Host.Outcome State Fault Refusal :=
  .next (issueLane (.out i a tgt) i s fun src s =>
    let w := src.getD a
    let c := s.core i.core
    if c.lock.isSome then
      let ref := (heldOut c.heldWrites tgt).getD (s.outRef i.core tgt)
      let r := s.outJudge i.core tgt ref w i.cyc
      r.1.modCore i.core fun c => { c.hold (.out tgt r.2.2) with r := c.r.setV r.2.1 }
    else
      let r := s.outIssue i.core tgt (s.outRef i.core tgt) w i.cyc
      r.1.modRegs i.core fun x => x.setV r.2)

/-- XCHS (R118): a word of the lane's send cell, at once, or held in an open LOCK sequence (R125). -/
def execXchs (i : Issue) (a w : Nat) (s : State) : Host.Outcome State Fault Refusal :=
  .next (issueLane (.xchs i a w) i s fun src s =>
    if (s.core i.core).lock.isSome then s.modCore i.core fun c => c.hold (.xchs (w % 8) (src.getD a))
    else { s with send := Tab.set 0 s.send (i.core * 8 + w % 8) (src.getD a) })

/-- XCHR (R109, R119): d = a word of the cell of a lane, with IDX plus the innermost loop counter, modulo 128; the
predicate bit takes the cell's presence. -/
def execXchr (i : Issue) (d lane : Nat) (idx p1 : Bool) (w : Nat) (s : State) : Host.Outcome State Fault Refusal :=
  .next (issue (.xchr i d lane idx p1 w) i s fun _ s =>
    let l := (lane + if idx then (s.core i.core).innerCount else 0) % 128
    let n := coreTile i.core
    let x := s.recvWord n l (w % 8)
    let q := Tab.get false s.present (n * 128 + l)
    s.modRegs i.core fun r => { r.setD d x with c0 := setPred r.c0 p1 q })

/-- SCO (R120): d = scheduled gain g of the lane's coefficient unit. -/
def execSco (i : Issue) (d g : Nat) (s : State) : Host.Outcome State Fault Refusal :=
  .next (issueLane (.sco i d g) i s fun _ s =>
    let w := Tab.get 0 s.gains (i.core * 8 + g % 8)
    s.modRegs i.core fun r => r.setD d w)

/-- The linear interpolation of a 33-point table (R121). -/
def tbl (cram : Nat → Word) (x : Word) (base : Nat) (signed : Bool) : Word :=
  let u : Nat := if signed then (x.toInt + 8388608).toNat else (max x.toInt 0).toNat
  let k := if signed then 19 else 18
  let j := u / 2 ^ k
  let f : Int := (u % 2 ^ k : Nat)
  let y0 := (cram ((base + j) % 65536)).toInt
  let y1 := (cram ((base + j + 1) % 65536)).toInt
  word (y0 + roundOff ((y1 - y0) * f) k .halfEven)

/-- TBL (R121): d = the interpolation of the table at a pointer, indexed by a data register; a read of the table may be
corrected (R65). -/
def execTbl (i : Issue) (d x pb : Nat) (signed : Bool) (s : State) : Host.Outcome State Fault Refusal :=
  .next (issueLane (.tbl i d x pb signed) i s fun src s =>
    let s := (s.countT (coreTile i.core) 34 0x50 1).corrected i.tableCe i.core i.cyc
    let w := tbl (s.cramWord (coreTile i.core)) (src.getD x) (src.getP pb).toNat signed
    s.modRegs i.core fun r => r.setD d w)

/-- ENVT (R122): write-tighten one envelope field of the own port; the predicate bit shows acceptance. In an open LOCK
sequence it is judged at issue and held (R125). -/
def execEnvt (i : Issue) (a field : Nat) (p1 : Bool) (s : State) : Host.Outcome State Fault Refusal :=
  .next (issueLane (.envt i a field p1) i s fun src s =>
    let w := src.getD a
    let s := s.envSettle i.core i.cyc
    let ok := s.envtOk i.core field w
    let s := if (s.core i.core).lock.isSome ∧ ok then s.modCore i.core fun c => c.hold (.envt field w)
      else s.envtIssue i.core field w i.cyc
    s.modRegs i.core fun r => { r with c0 := setPred r.c0 p1 ok })

/-- LOCK (R124, R125): the registers as they stood before the LOCK bundle are saved and the sequence opens. A second
LOCK in a steward's sequence is a precise exception. -/
def execLock (i : Issue) (s : State) : Host.Outcome State Fault Refusal :=
  .next (issueOutside (.lock i) i s fun src s => s.modCore i.core fun c => { c with lock := some ⟨src, c.pc, 0, []⟩ })

end Sys2Proof.Machine
end

