-- ==== Sys2Proof/Machine/Bundle.lean ====
section
/-! DEFINITION. Gwyn-24 words and bundles: their encodings (R82 to R86, R107 to R109). -/

namespace Sys2Proof.Machine

/-- Bits `lo + len − 1` to `lo` of an instruction word. -/
def wbits (w : BitVec 32) (lo len : Nat) : Nat := (w.toNat / 2 ^ lo) % 2 ^ len

/-- A two's complement number of `len` bits. -/
def sext (n len : Nat) : Int := if n < 2 ^ (len - 1) then n else (n : Int) - 2 ^ len

def pmodeOf : Nat → Option PMode
  | 0 => some .uu
  | 1 => some .gu
  | 2 => some .ii
  | _ => none
def rmodeOf : Nat → Option RMode
  | 0 => some .trunc
  | 1 => some .halfUp
  | 2 => some .halfEven
  | _ => none
def amodeOf : Nat → Option AMode
  | 0 => some .offset
  | 1 => some .postMod
  | 2 => some .preMod
  | _ => none
def condOf : Nat → Cond
  | 0 => .eq
  | 1 => .ne
  | 2 => .lt
  | 3 => .le
  | 4 => .gt
  | 5 => .ge
  | 6 => .ltu
  | _ => .geu

/-- An instruction, where a condition on its unused and bounded fields holds; otherwise a reserved encoding (R85). -/
def keep (c : Bool) (x : Instr) : Option Instr := if c then some x else none

/-- Format A (R84, R95, R98, R99, R104). -/
def decodeA (i : Issue) (op sh d a b md : Nat) : Option Instr :=
  let k3 := sh == 0 && md == 0
  let k2 := sh == 0 && md == 0 && b == 0
  match op with
  | 0x00 => keep (k2 && d == 0 && a == 0) (.nop i)
  | 0x01 => keep k3 (.add i d a b)
  | 0x02 => keep k3 (.adds i d a b)
  | 0x03 => keep k3 (.sub i d a b)
  | 0x04 => keep k3 (.subs i d a b)
  | 0x05 => keep k3 (.addu i d a b)
  | 0x06 => keep k3 (.subu i d a b)
  | 0x07 => keep k2 (.neg i d a)
  | 0x08 => keep k2 (.negs i d a)
  | 0x09 => keep k2 (.abs i d a)
  | 0x0A => keep k2 (.abss i d a)
  | 0x0B => keep k3 (.min i d a b)
  | 0x0C => keep k3 (.max i d a b)
  | 0x0D => keep k3 (.clip i d a b)
  | 0x0E => keep k2 (.norm i d a)
  | 0x10 => keep k3 (.and i d a b)
  | 0x11 => keep k3 (.or i d a b)
  | 0x12 => keep k3 (.xor i d a b)
  | 0x13 => keep k2 (.not i d a)
  | 0x18 => keep k3 (.asr i d a b)
  | 0x19 => keep k3 (.lsr i d a b)
  | 0x1A => keep k3 (.lsl i d a b)
  | 0x1B => keep k3 (.lsls i d a b)
  | 0x20 => keep (sh == 0 && decide (d < 2) && decide (md < 8)) (.cmp i (d == 1) a b (condOf md))
  | 0x28 => keep k2 (.mov i d a)
  | 0x29 => keep (k2 && decide (d < 8)) (.mvp i d a)
  | 0x2A => keep (k2 && decide (a < 8)) (.mpd i d a)
  | 0x2B => keep (k2 && (d == 0 || d == 7)) (.mvc i (d == 7) a)
  | 0x2C => keep (k2 && decide (a < 8)) (.mcd i d a)
  | 0x40 => (pmodeOf sh).bind fun m => keep (md == 0 && decide (d < 4)) (.mpy i d a b m)
  | 0x41 => (pmodeOf sh).bind fun m => keep (md == 0 && decide (d < 4)) (.mac i d a b m)
  | 0x42 => (pmodeOf sh).bind fun m => keep (md == 0 && decide (d < 4)) (.msu i d a b m)
  | 0x43 => (pmodeOf sh).bind fun m => (rmodeOf (md / 4)).bind fun r => keep (md % 4 == 0) (.mpyd i d a b m r)
  | 0x44 => (pmodeOf sh).bind fun m => (rmodeOf (md / 4)).bind fun r => keep (md % 4 == 0) (.macd i d a b m r)
  | 0x45 => keep (k2 && a == 0 && decide (d < 4)) (.aclr i d)
  | 0x46 => keep (k3 && decide (d < 4) && decide (a < 4) && decide (b < 4)) (.aadd i d a b)
  | 0x47 => keep (k3 && decide (d < 4) && decide (a < 4) && decide (b < 4)) (.asub i d a b)
  | 0x48 => keep (k3 && decide (d < 4) && decide (a < 4)) (.ash i d a b)
  | 0x49 => (pmodeOf sh).bind fun m => keep (md == 0 && b == 0 && decide (d < 4)) (.mvda i d a m)
  | 0x4A => (rmodeOf (md / 4)).bind fun r => keep (sh == 0 && md % 4 == 0 && b == 0 && decide (a < 4)) (.satw i d a r)
  | 0x4B => (rmodeOf (md / 4)).bind fun r => keep (sh == 0 && md % 4 == 0 && b == 0 && decide (a < 4)) (.wrw i d a r)
  | 0x4C => (rmodeOf (md / 4)).bind fun r => keep (sh == 0 && md % 4 == 0 && b == 0 && decide (a < 4)) (.satg i d a r)
  | 0x4D => keep (k2 && decide (a < 4)) (.satc i d a)
  | 0x4E => keep (md == 0 && b == 0 && decide (a < 4) && decide (sh < 3)) (.aget i d a sh)
  | 0x4F => keep (md == 0 && b == 0 && decide (d < 4) && decide (sh < 3)) (.aput i d a sh)
  | 0x60 => keep (k2 && d == 0) (.jmp i a)
  | 0x61 => keep (k2 && d == 0) (.callr i a)
  | 0x62 => keep (k2 && d == 0 && a == 0) (.ret i)
  | 0x63 => keep (k2 && d == 0 && a == 0) (.reti i)
  | 0x64 => keep (k2 && d == 0 && a == 0) (.wait i)
  | 0x65 => keep (k2 && decide (d < 8)) (.mvs i d a)
  | 0x66 => keep (k2 && decide (a < 8)) (.msv i d a)
  | 0x67 => keep (k3 && d == 0 && decide (b < 14)) (.mpuw i a b)
  | _ => none

/-- Format I (R84, R97). -/
def decodeI (i : Issue) (op d a im : Nat) : Option Instr :=
  let v := BitVec.ofNat 12 im
  match op with
  | 0x00 => some (.addi i d a v)
  | 0x01 => some (.addis i d a v)
  | 0x02 => some (.andi i d a v)
  | 0x03 => some (.ori i d a v)
  | 0x04 => some (.xori i d a v)
  | 0x05 => keep (decide (im < 24)) (.asri i d a im)
  | 0x06 => keep (decide (im < 24)) (.lsri i d a im)
  | 0x07 => keep (decide (im < 24)) (.lsli i d a im)
  | 0x08 => keep (decide (im < 24)) (.lslis i d a im)
  | 0x09 => some (.cmpi i (d % 2 == 1) a (condOf (d / 2)) v)
  | 0x0A => keep (decide (d < 8) && decide (a < 8)) (.paddi i d a v)
  | 0x0B => keep (d == 0 && a == 0) (.trap i v)
  | _ => none

/-- Format K (R84, R99). -/
def decodeK (i : Issue) (op d rsv im : Nat) : Option Instr :=
  match op with
  | 0 => keep (rsv == 0) (.movl i d (BitVec.ofNat 16 im))
  | 1 => keep (rsv == 0 && decide (im < 256)) (.movh i d (BitVec.ofNat 8 im))
  | 2 => keep (rsv == 0 && decide (d < 8)) (.movp i d (BitVec.ofNat 16 im))
  | _ => none

/-- Format M (R84, R100). -/
def decodeM (i : Issue) (op r b am : Nat) (ofs : Int) : Option Instr :=
  (amodeOf am).bind fun m =>
    match op with
    | 0 => some (.ld i r b m ofs false)
    | 1 => some (.st i r b m ofs)
    | 2 => some (.ldc i r b m ofs false)
    | 3 => some (.stc i r b m ofs)
    | 4 => keep (am == 0) (.ldg i r b ofs)
    | 5 => keep (am == 0) (.stg i r b ofs)
    | 6 => keep (decide (r < 8) && !(r == b && am != 0)) (.ldp i r b m ofs false)
    | 7 => keep (decide (r < 8) && !(r == b && am != 0)) (.stp i r b m ofs)
    | _ => none

/-- Format P (R107 to R109): ARG by operation, unassigned bits 0, LOCK, UNLOCK and TICKEND unpredicated. -/
def decodeP (i : Issue) (op r arg : Nat) : Option Instr :=
  match op with
  | 0x0 =>
    let o := arg / 2 ^ 17
    let p := arg / 2 ^ 13 % 16
    keep (arg % 2 ^ 10 == 0 && (o == 1 || p == 0)) (.smp i r (if o = 1 then some p else none) (arg / 2 ^ 10 % 8))
  | 0x1 => keep (decide (arg < 4)) (.out i r arg)
  | 0x2 => keep (decide (arg < 8)) (.xchs i r arg)
  | 0x3 => keep (arg / 8 % 64 == 0) (.xchr i r (arg / 2 ^ 10 % 128) (arg / 2 ^ 9 % 2 == 1) (arg / 2 ^ 17 == 1) (arg % 8))
  | 0x4 => keep (decide (arg < 8)) (.sco i r arg)
  | 0x5 => keep (arg % 2 ^ 10 == 0) (.tbl i r (arg / 2 ^ 14) (arg / 2 ^ 11 % 8) (arg / 2 ^ 10 % 2 == 1))
  | 0x6 => keep (arg / 8 % 2 ^ 14 == 0 && decide (arg % 8 < 7)) (.envt i r (arg % 8) (arg / 2 ^ 17 == 1))
  | 0x7 => keep (r == 0 && arg == 0 && i.pred == 0) (.lock i)
  | 0x8 => keep (r == 0 && arg == 0 && i.pred == 0) (.unlock i)
  | 0x9 => keep (r == 0 && arg == 0 && i.pred == 0) (.tickend i)
  | _ => none

/-- The instruction of a word; none for a reserved encoding (R83 to R85). -/
def decodeWord (i : Issue) (w : BitVec 32) : Option Instr :=
  let i := { i with pred := wbits w 29 3 }
  match wbits w 26 3 with
  | 0 => decodeA i (wbits w 18 8) (wbits w 16 2) (wbits w 12 4) (wbits w 8 4) (wbits w 4 4) (wbits w 0 4)
  | 1 => decodeI i (wbits w 20 6) (wbits w 16 4) (wbits w 12 4) (wbits w 0 12)
  | 2 => decodeK i (wbits w 24 2) (wbits w 20 4) (wbits w 16 4) (wbits w 0 16)
  | 3 => decodeM i (wbits w 22 4) (wbits w 18 4) (wbits w 15 3) (wbits w 13 2) (sext (wbits w 0 13) 13)
  | 4 =>
    let ofs := sext (wbits w 0 16) 16
    if wbits w 16 6 = 0 then
      match wbits w 22 4 with
      | 0 => some (.br i ofs)
      | 1 => some (.call i ofs)
      | _ => none
    else none
  | 5 =>
    let cs := wbits w 25 1
    let cr := wbits w 21 4
    keep (i.pred == 0 && wbits w 0 9 != 0 && (cs == 1 || cr == 0))
      (.loop i (if cs = 1 then some cr else none) (wbits w 9 12) (wbits w 0 9))
  | 6 => decodeP i (wbits w 22 4) (wbits w 18 4) (wbits w 0 18)
  | _ => none

/-- Both instructions of a bundle: slot 0 is bits 31:0, slot 1 bits 63:32 (R82). -/
def decodeBundle (core cyc : Nat) (w : BitVec 64) : Option (Instr × Instr) :=
  match decodeWord { core := core, slot1 := false, pred := 0, cyc := cyc } (w.extractLsb' 0 32), decodeWord { core := core, slot1 := true, pred := 0, cyc := cyc } (w.extractLsb' 32 32) with
  | some x, some y => some (x, y)
  | _, _ => none

end Sys2Proof.Machine
end

