-- ==== Sys2Proof/Machine/Loader.lean ====
section
/-! DEFINITION. The loader's check of a lane program and its static cost (R66, R73 to R75, R123, R124, R499). -/

namespace Sys2Proof.Machine

/-- A decoded bundle with its address and its instructions' predicate codes. -/
structure PBundle where
  at_ : Nat
  x : Instr
  y : Instr
  px : Nat
  py : Nat
  deriving DecidableEq, Repr

/-- The bundle of a word at an address; none for a reserved encoding (R85). -/
def pbundle (core a : Nat) (w : BitVec 64) : Option PBundle :=
  (decodeBundle core 0 w).map fun p =>
    ⟨a, p.1, p.2, wbits (w.extractLsb' 0 32) 29 3, wbits (w.extractLsb' 32 32) 29 3⟩

/-- A LOOP of a program: its bundle, the last bundle of its body, its count (R103). -/
structure PLoop where
  at_ : Nat
  last : Nat
  count : Nat
  deriving DecidableEq, Repr

/-- The LOOPs of a program. -/
def loopsOf (p : List PBundle) : List PLoop :=
  p.filterMap fun b => match b.y with | .loop _ _ count len => some ⟨b.at_, b.at_ + len, count⟩ | _ => none

/-- The LOOPs whose body holds a bundle. -/
def bodiesOf (ls : List PLoop) (a : Nat) : List PLoop := ls.filter fun l => decide (l.at_ < a) && decide (a ≤ l.last)

/-- The branches of a program: bundle and target (R102). -/
def branchesOf (p : List PBundle) : List (Nat × Int) :=
  p.filterMap fun b => match b.y with | .br _ ofs => some (b.at_, (b.at_ : Int) + ofs) | _ => none

/-- The scan for LOCK sequences: the LOCK bundle and the count of an open sequence, the sequences found, and whether a
rule of R124 is broken. -/
structure LockScan where
  opened : Option (Nat × Nat) := none
  seqs : List (Nat × Nat) := []
  bad : Bool := false
  deriving DecidableEq, Repr

/-- One bundle of the scan (R124). -/
def lockScan (ls : List PLoop) (k : LockScan) (b : PBundle) : LockScan :=
  let live (i : Instr) : Nat := if (insInfo i).isNop then 0 else 1
  match k.opened, b.y with
  | none, .unlock _ => { k with bad := true }
  | none, .lock _ => { k with opened := some (b.at_, 0) }
  | none, _ => k
  | some (l, n), .unlock _ =>
    { k with opened := none, seqs := (l, b.at_) :: k.seqs,
             bad := k.bad || decide (32 < n + live b.x) || bodiesOf ls l != bodiesOf ls b.at_ }
  | some (l, n), _ =>
    { k with opened := some (l, n + live b.x + live b.y),
             bad := k.bad || (insInfo b.y).transfer || (insInfo b.y).seqEnd || bodiesOf ls l != bodiesOf ls b.at_ }

/-- Cause 0x1: ill-paired bundles, TICKEND in a LOOP body, and the rules of LOCK sequences (R73, R93, R110, R123, R124). -/
def cause1 (p : List PBundle) : Bool :=
  let ls := loopsOf p
  let k := p.foldl (lockScan ls) {}
  p.any (fun b => !mayPair b.x b.y)
    || p.any (fun b => (match b.y with | .tickend _ => true | _ => false) && !(bodiesOf ls b.at_).isEmpty)
    || k.bad || k.opened.isSome
    || (branchesOf p).any (fun r => k.seqs.any fun q => decide ((q.1 : Int) < r.2) && decide (r.2 ≤ (q.2 : Int)))

/-- Cause 0x2: a steward-profile instruction (R66, R104). -/
def cause2 (p : List PBundle) : Bool := p.any fun b => (insInfo b.x).steward || (insInfo b.y).steward

/-- Cause 0x3: a backward branch (R102). -/
def cause3 (p : List PBundle) : Bool := (branchesOf p).any fun r => decide (r.2 ≤ (r.1 : Int))

/-- Cause 0x4: a target outside the program, a branch into or out of a body, a body past its outer body or past the
program (R102, R103, R499). -/
def cause4 (p : List PBundle) : Bool :=
  let ls := loopsOf p
  (branchesOf p).any (fun r => decide ((p.length : Int) ≤ r.2) || bodiesOf ls r.1 != bodiesOf ls r.2.toNat)
    || ls.any (fun l => decide (p.length ≤ l.last) || (bodiesOf ls l.at_).any fun o => decide (o.last < l.last))

/-- Cause 0x5: a LOOP of 0 iterations, or nested more than two deep (R66, R103). -/
def cause5 (p : List PBundle) : Bool :=
  let ls := loopsOf p
  ls.any fun l => l.count == 0 || decide (2 ≤ (bodiesOf ls l.at_).length)

/-! ### Static cost -/

/-- The pipeline state: the earliest cycle of the next bundle, the cycle from which each resource can be read, and the
cycle from which an accumulator can be read as the addend of MAC or MSU (R74, R94). -/
structure Pipe where
  next : Nat := 0
  ready : Tab Nat := []
  chain : Tab Nat := []
  deriving DecidableEq, Repr

/-- The later of two ready cycles for every resource. -/
def tabMax (a b : Tab Nat) : Tab Nat := b.foldl (fun t e => Tab.set 0 t e.1 (max (Tab.get 0 t e.1) e.2)) a

/-- Where paths meet, the latest of each (R74 step 4). -/
def Pipe.join (a b : Pipe) : Pipe := ⟨max a.next b.next, tabMax a.ready b.ready, tabMax a.chain b.chain⟩

/-- The earliest cycle at which an instruction can read its sources. -/
def Pipe.need (p : Pipe) (i : InsInfo) (pred : Nat) : Nat :=
  (i.reads ++ predReads pred).foldl
    (fun m r => max m (if i.addend = some r then Tab.get 0 p.chain r else Tab.get 0 p.ready r)) 0

/-- The issue cycle of a bundle: after every wait, plus 3 for a tile-shared access (R74 step 2). -/
def Pipe.issueAt (p : Pipe) (b : PBundle) : Nat :=
  let i := insInfo b.x
  let j := insInfo b.y
  let fixed := if i.sco || j.sco then 40 else 0
  max (max p.next fixed) (max (p.need i b.px) (p.need j b.py)) + (if i.shared || j.shared then 3 else 0)

/-- The resources that an instruction writes are ready L cycles after its issue; an accumulator written by MPY, MAC or
MSU is ready as an addend after 1 (R60, R94). -/
def Pipe.wrote (p : Pipe) (i : InsInfo) (c : Nat) : Pipe :=
  i.writes.foldl (fun p w =>
    { p with ready := Tab.set 0 p.ready w.1 (c + w.2),
             chain := Tab.set 0 p.chain w.1 (if i.chain && decide (w.1 < 20) then c + 1 else c + w.2) }) p

/-- The pipeline state after a bundle that issues at cycle `c`. Where both instructions write a resource (the flags), it
is ready when both have (log entry 20). -/
def Pipe.after (p : Pipe) (b : PBundle) (c : Nat) : Pipe :=
  let i := insInfo b.x
  let j := insInfo b.y
  let both := i.writes.filter fun w => j.writes.any fun v => v.1 == w.1
  let q := (p.wrote i c).wrote j c
  let q := both.foldl (fun q w => { q with ready := Tab.set 0 q.ready w.1 (max (Tab.get 0 q.ready w.1) (c + w.2)) }) q
  { q with next := c + 1 }

/-- The walk over a stretch of bundles: the states that wait at bundles, the first bundle not yet passed, and the
greatest cost of a TICKEND met. -/
structure Walk where
  wait : Tab (Option Pipe) := []
  skip : Nat := 0
  cost : Nat := 0
  deriving DecidableEq, Repr

/-- A path reaches a bundle with a pipeline state. -/
def Walk.reach (w : Walk) (a : Nat) (p : Pipe) : Walk :=
  let q := match Tab.get none w.wait a with | some q => q.join p | none => p
  { w with wait := Tab.set none w.wait a (some q) }

/-- Walk a stretch in address order; `inner body count p` costs a LOOP block (R74). -/
def walk (inner : List PBundle → Nat → Pipe → Pipe) : List PBundle → Walk → Walk
  | [], w => w
  | b :: bs, w =>
    if b.at_ < w.skip then walk inner bs w
    else match Tab.get none w.wait b.at_ with
      | none => walk inner bs w
      | some p =>
        let c := p.issueAt b
        let p := p.after b c
        match b.y with
        | .tickend _ => walk inner bs { w with cost := max w.cost (c + 1) }
        | .br _ ofs =>
          let w := w.reach (b.at_ + ofs.toNat) { p with next := p.next + 2 }
          walk inner bs (if b.py = 0 then w else w.reach (b.at_ + 1) p)
        | .loop _ _ count len =>
          let w := w.reach (b.at_ + len + 1) (inner (bs.take len) count p)
          walk inner bs { w with skip := b.at_ + len + 1 }
        | _ => walk inner bs (w.reach (b.at_ + 1) p)

/-- The state in which a body entered with `p` is left. -/
def bodyEnd (inner : List PBundle → Nat → Pipe → Pipe) (body : List PBundle) (p : Pipe) : Pipe :=
  match body with
  | [] => p
  | b :: _ =>
    let w := walk inner body (({} : Walk).reach b.at_ p)
    (Tab.get none w.wait (b.at_ + body.length)).getD p

/-- Ready cycles counted from the next bundle. -/
def Pipe.rel (p : Pipe) (t : Tab Nat) : Tab Nat := t.foldl (fun u e => Tab.set 0 u e.1 (e.2 - p.next)) []

/-- The entry state merged with the end state of the last costing (R75 step 3). DESIGN CHOICE: every costing starts at the cycle of the
loop's entry (log entry 89). -/
def Pipe.merged (e q : Pipe) : Pipe :=
  let back (t : Tab Nat) : Tab Nat := t.foldl (fun u x => Tab.set 0 u x.1 (x.2 - (q.next - e.next))) []
  ⟨e.next, tabMax e.ready (back q.ready), tabMax e.chain (back q.chain)⟩

/-- Cost the body again from the merged state until its end state stops changing, at most `fuel` times more (R75). -/
def settle (body : Pipe → Pipe) (e : Pipe) : Nat → Pipe → Pipe
  | 0, q => q
  | fuel + 1, q =>
    let r := body (e.merged q)
    if r.rel r.ready = q.rel q.ready ∧ r.rel r.chain = q.rel q.chain then r else settle body e fuel r

/-- The state after a LOOP block of n iterations: the first at the cost of the first costing, each other at that of the
last (R75). -/
def loopCost (body : Pipe → Pipe) (n : Nat) (e : Pipe) : Pipe :=
  let first := body e
  if n ≤ 1 then first
  else
    let last := settle body e 5 first
    let d := (first.next - e.next) + (n - 2) * (last.next - e.next)
    let later (t : Tab Nat) : Tab Nat := t.foldl (fun u x => Tab.set 0 u x.1 (x.2 + d)) []
    ⟨last.next + d, later last.ready, later last.chain⟩

/-- LOOP blocks with at most one more level inside. -/
def costInner (b : List PBundle) (n : Nat) (p : Pipe) : Pipe := loopCost (bodyEnd (fun _ _ q => q) b) n p

/-- LOOP blocks of the outer level. DESIGN CHOICE: a block inside is costed in every costing of the outer body (log entry 89). -/
def costOuter (b : List PBundle) (n : Nat) (p : Pipe) : Pipe := loopCost (bodyEnd costInner b) n p

/-- The walk of a whole program from bundle 0 at cycle 0. -/
def walkProgram (p : List PBundle) : Walk := walk costOuter p (({} : Walk).reach 0 {})

/-- The result of a check: the cause, 0 where the program passes, and the cost, saturated at 65,535 (R73, R81). -/
def checkProgram (p : List PBundle) (budget : Nat) : Nat × Nat :=
  if cause1 p then (1, 0)
  else if cause2 p then (2, 0)
  else if cause3 p then (3, 0)
  else if cause4 p then (4, 0)
  else if cause5 p then (5, 0)
  else
    let w := walkProgram p
    if (Tab.get none w.wait p.length).isSome then (6, 0)
    else if budget < w.cost then (7, min 65535 w.cost)
    else (0, min 65535 w.cost)

/-- The decoded bundles 0 to E of a bank; none where one is a reserved encoding. -/
def decodeBank (core : Nat) (word : Nat → BitVec 64) : Nat → Option (List PBundle)
  | 0 => some []
  | n + 1 =>
    match decodeBank core word n, pbundle core n (word n) with
    | some l, some b => some (l ++ [b])
    | _, _ => none

end Sys2Proof.Machine
end

