-- ==== Sys2Proof/Machine/Lanes.lean ====
section
/-! DEFINITION. Lane programs and banks: loading, the check, bank switches, overruns, memory errors (R48, R49, R58,
R65, R70 to R80). -/

namespace Sys2Proof.Machine

/-- The active bank of a core: LAN_STAT.BANK of a lane, the steward's own bank. -/
def State.bankOf (s : State) (c : Nat) : Nat := if 128 ≤ c then (s.core c).bank else s.getF (LAN_STAT c) LAN_STAT_BANK

/-- Place of a bundle of a bank. -/
def codeIdx (c bank a : Nat) : Nat := (c * 2 + bank) * 32768 + a

/-- A bundle of a bank; memory that nothing has written holds zeros (log entry 2). -/
def State.bundle (s : State) (c bank a : Nat) : BitVec 64 := Tab.get 0 s.code (codeIdx c bank a)

/-- The last bundle of a bank's loaded program (R499). -/
def State.extentOf (s : State) (c bank : Nat) : Option Nat := Tab.get none s.extent (c * 2 + bank)

/-- A bundle is written into a bank, and the bank's extent follows (R499). -/
def State.putBundle (s : State) (c bank a : Nat) (w : BitVec 64) : State :=
  let e := match a, s.extentOf c bank with
    | 0, _ => 0
    | a, none => a
    | a, some e => max e a
  let code := Tab.set 0 s.code (codeIdx c bank a) w
  let ext := Tab.set none s.extent (c * 2 + bank) (some e)
  { s with code := code, extent := ext }

/-- A core's registers at 0 and nothing of a bundle, loop or sequence in progress (R58). DESIGN CHOICE: a steward's are cleared like a
lane's where its bank switches, which the spec does not say (log entry 83). -/
def Core.cleared (c : Core) : Core :=
  { c with r := {}, loops := [], snap := none, undoMem := none, undoStc := false, first := none, undoPriv := none, jump := none, lock := none }

/-- Does the fault collector or a write keep the program window shut: a check runs on the lane, a switch is pending, or
an update is activating, in trial or falling back (R72, R442)? -/
def State.windowShut (s : State) (l : Nat) : Bool :=
  s.flag (LAN_STAT l) LAN_STAT_CHECK_BUSY || s.flag LAN_SW_STAT LAN_SW_STAT_PEND || decide (5 ≤ s.getF UPD_STAT UPD_STAT_STATE)

/-- A write of LAN_PGM_DATA2 stores the bundle at LAN_PGM_ADDR in the inactive bank and advances the address; or the
window refuses it (R72, R499). False: error status. -/
def State.pgmStore (s : State) (l : Nat) (w : Word) (cyc : Nat) : State × Bool :=
  if s.windowShut l then (s.raise (tileSrc (l / 16) LAN_LOAD_REFUSED) l cyc, false)
  else
    let a := s.getF (LAN_PGM_ADDR l) LAN_PGM_ADDR_ADDR
    let v := BitVec.ofNat 64 ((s.rd (LAN_PGM_DATA0 l)).toNat + (s.rd (LAN_PGM_DATA1 l)).toNat * 2 ^ 24 + w.toNat % 2 ^ 16 * 2 ^ 48)
    let s := s.putBundle l (1 - s.bankOf l) a v
    let s := s.setF (LAN_STAT l) LAN_STAT_INACT_OK 0
    let s := s.setF (LAN_PGM_DATA2 l) LAN_PGM_DATA2_BUNDLE (w.toNat % 2 ^ 16)
    (s.setF (LAN_PGM_ADDR l) LAN_PGM_ADDR_ADDR ((a + 1) % 4096), true)

/-- Writing 1 to LAN_LOAD.CHECK starts the check of the inactive bank (R72). -/
def State.loadStart (s : State) (l : Nat) : State :=
  (s.setF (LAN_LOAD l) LAN_LOAD_CHECK 1).setF (LAN_STAT l) LAN_STAT_CHECK_BUSY 1

/-- The budget in force (R36, R37). -/
def State.budget (s : State) : Nat := s.getF MER_BUDGET MER_BUDGET_B

/-- The budget that a program load is checked against: the smaller of the old and the new one while a rate change to a
valid period is pending (R53, R72). -/
def State.loadBudget (s : State) : Nat :=
  let least (b : Nat) (r : Option RateReq) : Nat := match r with
    | some r => if 2000 ≤ r.n ∧ r.n ≤ 16000 then min b (budgetOf r.n) else b
    | none => b
  least (least s.budget s.mer.rate) s.mer.annRate

/-- The check of a bank's loaded program (R73, R74): cause and cost. -/
def State.checkBank (s : State) (l bank budget : Nat) : Nat × Nat :=
  match s.extentOf l bank with
  | none => (6, 0)
  | some e =>
    match decodeBank l (s.bundle l bank) (e + 1) with
    | none => (1, 0)
    | some p => checkProgram p budget

/-- A refusal of a check: REFUSED, CAUSE, and BUDGET for a program over the budget (R72). -/
def State.refuseLoad (s : State) (l cause : Nat) : State :=
  let s := (s.setF (LAN_STAT l) LAN_STAT_REFUSED 1).setF (LAN_STAT l) LAN_STAT_CAUSE cause
  if cause = 7 then s.setF (LAN_STAT l) LAN_STAT_BUDGET 1 else s

/-- The check of a lane's inactive bank ends: it passes with its cost or is refused with a cause (R72). A refused bank
holds no checked program (log entry 21). -/
def State.loadJudge (s : State) (l : Nat) : State :=
  let r := s.checkBank l (1 - s.bankOf l) s.loadBudget
  if r.1 = 0 then
    let s := (s.setF (LAN_STAT l) LAN_STAT_INACT_OK 1).setF (LAN_COST_INACT l) LAN_COST_INACT_CYCLES r.2
    (s.setF (LAN_STAT l) LAN_STAT_CAUSE 0).setF (LAN_STAT l) LAN_STAT_HELD 0
  else (s.setF (LAN_STAT l) LAN_STAT_INACT_OK 0).refuseLoad l r.1

/-- LOAD_CHECK_COMPLETE (R72 to R75): the check that runs on a lane completes, and interrupt source 10 of its tile's
steward becomes pending. A program load that passes ends the hold of a lane that overran (R49). -/
def execLoadCheckComplete (l : Nat) (s : State) : Host.Outcome State Fault Refusal :=
  .next (
    if s.flag (LAN_STAT l) LAN_STAT_CHECK_BUSY then
      let s := (s.setF (LAN_LOAD l) LAN_LOAD_CHECK 0).setF (LAN_STAT l) LAN_STAT_CHECK_BUSY 0
      (s.loadJudge l).irq (l / 16) 10
    else s)

/-! ### Bank switches (R77 to R80) -/

/-- Lanes with SWITCH_SEL set. -/
def State.selected (s : State) : List Nat := (List.range 128).filter fun l => s.flag (LAN_CTL l) LAN_CTL_SWITCH_SEL

/-- Words that the handover map of a pending switch moves in a lane (R78, R434). -/
def State.moves (s : State) (kind l : Nat) : List HandMove :=
  match kind with
  | 1 => Tab.get [] s.upd.fwd l
  | 2 => Tab.get [] s.upd.rev l
  | _ => []

/-- An activation ends without a switch: VERIFIED again, with an error, and UPD_ACT_FAIL (R434). -/
def State.activationEnds (s : State) (err : Nat) : State :=
  let s := (s.setF UPD_STAT UPD_STAT_STATE 4).setF UPD_STAT UPD_STAT_ERR err
  { s.raise UPD_ACT_FAIL 0xFF 0 with upd := { s.upd with lanes := [], fwd := [], rev := [], revCost := [] } }

/-- Schedule a switch: PEND reads 1 and its check runs (R77, R79). -/
def State.switchRequest (s : State) (r : SwitchReq) : State :=
  { s.setF LAN_SW_STAT LAN_SW_STAT_PEND 1 with switch := some r }

/-- The reverse switch of a fallback, of the lanes that switched at activation and whose tile is not in reset (R441). -/
def State.fallbackSwitch (s : State) : State :=
  let ls := s.upd.lanes.filter fun l => !s.tileDown (l / 16)
  let s := forEach 128 (fun l s => s.setF (LAN_CTL l) LAN_CTL_SWITCH_SEL (b2n (ls.contains l))) s
  s.switchRequest ⟨2, true, false, 0, none, false, ls⟩

/-- A scheduled switch is cancelled as a whole (R80); an activation ends (R434), a reverse switch is scheduled again, in
Lull at the first tick of Run (R441). -/
def State.switchCancel (s : State) (lull : Bool) : State :=
  match s.switch with
  | none => s
  | some r =>
    let s := (s.setF LAN_SW_STAT LAN_SW_STAT_PEND 0).setF LAN_SW_STAT LAN_SW_STAT_CANCELLED 1
    let s := forEach 128 (fun l s => s.setF (LAN_CTL l) LAN_CTL_SWITCH_SEL 0) { s with switch := none }
    match r.kind with
    | 1 => s.activationEnds 7
    | 2 => if lull then { s with upd := { s.upd with again := true } } else s.fallbackSwitch
    | _ => s

/-- A write of LAN_SW_CTL: SCHED requests a switch unless one is pending, CANCEL cancels (R77, R80). The request takes
STW, WHEN and LAN_SW_AT as they stand at the write. False: error status. -/
def State.switchWrite (s : State) (w : Word) : State × Bool :=
  let sched := LAN_SW_CTL_SCHED.on w
  if sched ∧ s.flag LAN_SW_STAT LAN_SW_STAT_PEND then (s, false)
  else
    let s := (s.setF LAN_SW_CTL LAN_SW_CTL_STW (LAN_SW_CTL_STW.get w)).setF LAN_SW_CTL LAN_SW_CTL_WHEN (LAN_SW_CTL_WHEN.get w)
    let s := if LAN_SW_CTL_CANCEL.on w then s.switchCancel false else s
    if sched then
      (s.switchRequest ⟨0, LAN_SW_CTL_STW.on w, LAN_SW_CTL_WHEN.on w, s.rdPair LAN_SW_AT_LO LAN_SW_AT_HI, none, false, []⟩, true)
    else (s, true)

/-- The first cause that refuses a switch, with the lane it names (R78): 0b101, 0b010, 0b100, 0b001, 0b011 in order. -/
def State.switchCause (s : State) (r : SwitchReq) (ls : List Nat) : Nat × Nat :=
  if ls.isEmpty ∧ !r.stw then (5, 0)
  else if s.flag MER_STAT MER_STAT_RATE_PEND then (2, 0)
  else if r.stw ∧ (List.range 8).any (fun n => !Tab.get false (s.core (128 + n)).verified (1 - (s.core (128 + n)).bank)) then (4, 0)
  else
    match ls.find? (fun l => !s.flag (LAN_STAT l) LAN_STAT_INACT_OK) with
    | some l => (1, l)
    | none =>
      match ls.find? (fun l => decide (s.budget < s.getF (LAN_COST l) LAN_COST_CYCLES + (s.moves r.kind l).length)) with
      | some l => (3, l)
      | none => (0, 0)

/-- All running stewards receive an interrupt of source `k`. -/
def State.irqAll (s : State) (k : Nat) : State := forEach 8 (fun n s => if s.tileDown n then s else s.irq n k) s

/-- The moves that the handover mover makes for a lane in the running tick (R79, R436). -/
def State.movesNow (s : State) (l : Nat) : List HandMove :=
  match s.switch with
  | some r => if r.tick = some s.nextCount ∧ r.lanes.contains l then s.moves r.kind l else []
  | none => []

/-- The word that a move writes, given the memory as it stood at TICKEND (R436). -/
def HandMove.value (m : HandMove) (old : Nat → Word) : Word :=
  match m.op with
  | 0 => old m.src
  | 1 => m.val
  | _ => word (satI (roundOff ((old m.src).toInt * m.val.toInt) 16 .halfEven))

/-- The handover mover (R436). -/
def State.handover (s : State) (l : Nat) : State :=
  let old (a : Nat) : Word := Tab.get 0 s.dmem (dmemIdx l a)
  { s with dmem := (s.movesNow l).foldl (fun (t : Tab Word) m => Tab.set 0 t (dmemIdx l m.dst) (m.value old)) s.dmem }

/-- A switch at the next boundary moves the words of the lanes whose TICKEND has passed (R79). -/
def State.handoverLate (s : State) : State :=
  match s.switch with
  | some r => forList r.lanes (fun l s => if (s.core l).retired then s.handover l else s) s
  | none => s

/-- SWITCH_CHECK_COMPLETE (R78, R79): the check of a requested switch accepts it, for tick LAN_SW_AT or for the second
boundary from here, or refuses it with the first cause that holds. DESIGN CHOICE: the lanes that are to switch are those selected when
the check completes (log entry 85). -/
def execSwitchCheckComplete (s : State) : Host.Outcome State Fault Refusal :=
  .next (
    match s.switch with
    | none => s
    | some r =>
      if r.tick.isSome then s
      else
        let ls := if r.kind = 0 then s.selected else r.lanes
        let c := s.switchCause r ls
        if c.1 = 0 then
          let late := r.atWhen && inPast r.at_ s.mer.count
          let k := if r.atWhen ∧ !late then r.at_ else (s.mer.count + 2) % 2 ^ 48
          { s with switch := some { r with tick := some k, late := late, lanes := ls } }.handoverLate
        else
          let s := (s.setF LAN_SW_STAT LAN_SW_STAT_PEND 0).setF LAN_SW_STAT LAN_SW_STAT_REFUSED 1
          let s := (s.setF LAN_SW_STAT LAN_SW_STAT_CAUSE c.1).setF LAN_SW_STAT LAN_SW_STAT_LANE c.2
          let s := { s with switch := none }.irqAll 11
          if r.kind = 1 then s.activationEnds 7 else s)

/-- One lane changes banks (R58, R79 step 3). -/
def State.laneSwitch (s : State) (l : Nat) : State :=
  let st := LAN_STAT l
  let ina := s.getF st LAN_STAT_INACT_OK
  let ca := s.getF (LAN_COST l) LAN_COST_CYCLES
  let ci := s.getF (LAN_COST_INACT l) LAN_COST_INACT_CYCLES
  let s := s.setF st LAN_STAT_BANK (1 - s.getF st LAN_STAT_BANK)
  let s := ((s.setF st LAN_STAT_ACT_OK ina).setF st LAN_STAT_INACT_OK 1).setF st LAN_STAT_HELD 0
  let s := (s.setF (LAN_COST l) LAN_COST_CYCLES ci).setF (LAN_COST_INACT l) LAN_COST_INACT_CYCLES ca
  (s.setF (LAN_CTL l) LAN_CTL_SWITCH_SEL 0).modCore l fun c => { c.cleared with overruns := 0 }

/-- A steward begins at the entry bundle of a bank: privileged mode, interrupts masked (R67, R79); one that a second exception halted
stays halted (R106). DESIGN CHOICE: the entry bundle, whose address the spec does not give, is bundle 0 (log entry 84). -/
def Core.stewardEnters (c : Core) (bank : Nat) : Core :=
  let c := c.cleared.setS 0 1
  { c with bank := bank, pc := 0, running := true, waiting := false, access := none, stepping := false }

/-- Every steward outside a reset enters its other bank (R79). -/
def State.stewardsSwitch (s : State) : State :=
  forEach 8 (fun n s => if s.tileDown n then s else s.modCore (128 + n) fun c => c.stewardEnters (1 - c.bank)) s

/-- The switch itself, in tick `k` (R79): lanes, stewards, PEND, DONE, LATE, the record, and interrupt source 11. -/
def State.switchApply (s : State) (r : SwitchReq) (k : Nat) : State :=
  let s := forList r.lanes (fun l s => s.laneSwitch l) s
  let s := if r.stw then s.stewardsSwitch else s
  let s := (s.setF LAN_SW_STAT LAN_SW_STAT_PEND 0).setF LAN_SW_STAT LAN_SW_STAT_DONE 1
  let s := if r.late then s.setF LAN_SW_STAT LAN_SW_STAT_LATE 1 else s
  ({ s with switch := none }.recordAt k 0x005 0xFF r.lanes.length (b2n r.stw)).irqAll 11

/-! ### Stops of a lane (R48, R49, R65) -/

/-- The lane stops at once: its open LOCK sequence is discarded and the values that wait for their update point are
dropped (R48 steps 1 and 2, R125). -/
def State.laneStop (s : State) (l : Nat) : State :=
  let s := if (s.core l).snap.isSome then s.countCore l 0x15 1 else s
  let s := s.modCore l fun c => { c.discard with tag := none, running := false, snap := none, jump := none, loops := [] }
  s.modPort l fun x => { x with pend := [] }

/-- The overrun check of one lane (R48, R49). A lane stopped by a memory error or halted has its own event. -/
def State.overrunCheck (s : State) (l : Nat) : State :=
  let c := s.core l
  if c.running ∧ !c.retired ∧ !c.halted then
    let s := (s.laneStop l).raise (portSrc l MER_OVERRUN) l (s.period - 1120)
    let s := (s.bump MER_OVR_CNT).wr MER_OVR_LAST (BitVec.ofNat 24 (128 + l))
    let s := s.modCore l fun c => { c with overruns := c.overruns + 1 }
    if 2 ≤ (s.core l).overruns then (s.setF (LAN_STAT l) LAN_STAT_HELD 1).enterSafe l 4 else s
  else s.modCore l fun c => { c with overruns := 0 }

/-- MEM_DOUBLE_ERROR (R65): in a lane, the lane stops for the rest of the tick, its port takes its safe action and
LAN_MEM_DED is raised; in a steward, LAN_MEM_DED and a precise exception with cause 0x2. -/
def execMemDoubleError (k cyc : Nat) (s : State) : Host.Outcome State Fault Refusal :=
  .next (
    if isSteward k then
      if (s.core k).running ∧ !(s.core k).dead then
        (s.raise (tileSrc (coreTile k) LAN_MEM_DED_STW) (coreTile k) cyc).precise k 2 cyc
      else s
    else
      let s := (s.laneStop k).modCore k fun c => { c with memStop := true }
      (s.enterSafe k 3).raise (portSrc k LAN_MEM_DED) k cyc)

/-- The lane does not start: RUN as latched is 0, or no checked program is in the active bank (R70). -/
def State.laneIdle (s : State) (l : Nat) : Bool := !(s.core l).runOn || !s.flag (LAN_STAT l) LAN_STAT_ACT_OK

/-- A cause of SAFE that still holds for a port, as at an S at which it leaves OFF (R226, R227); a lost main clock holds every port
until a reset (R359). -/
def State.safeCause (s : State) (p : Nat) : Option Nat :=
  if s.tileDown (p / 16) then some 2
  else if s.wdg.owed then some 1
  else if s.flag (LAN_STAT p) LAN_STAT_HELD then some 4
  else if s.laneIdle p then some 5
  else if (s.core p).halted then some 6
  else none

end Sys2Proof.Machine
end

