-- ==== Sys2Proof/Machine/Meridian.lean ====
section
/-! DEFINITION. The tick's sources, lock states, phase, fabric delays and rate changes (R34 to R54). -/

namespace Sys2Proof.Machine

/-- Ticks per SYNC_IN edge and SYNC_OUT pulse (R41). -/
def State.syncDiv (s : State) : Nat := 2 ^ s.getF MER_CTL MER_CTL_SYNC_DIV

/-- Does SYNC_OUT pulse at this S (R41)? -/
def State.syncOutNow (s : State) : Bool := s.flag MER_CTL MER_CTL_SYNC_OUT_EN && s.mer.count % s.syncDiv == 0

/-- Ticks between two expected references: D with SYNC, 1 with LINK (R39, R41). -/
def State.refTicks (s : State) : Nat := if s.mer.srcNow = 1 then s.syncDiv else 1

/-- The lock state (R39): 0 ACQUIRE, 1 LOCKED, 2 HOLDOVER, 3 FREE. -/
def State.lockState (s : State) : Nat := s.getF MER_STAT MER_STAT_LOCK

/-- The lock state changes, and the change is recorded in tick `k` (R42). -/
def State.setLock (s : State) (k st : Nat) : State :=
  let old := s.lockState
  if old = st then s else (s.setF MER_STAT MER_STAT_LOCK st).recordAt k 0x003 0xFF old st

/-- Intervals of `per` units that a time spans, at least one: the expected references since the last accepted one. -/
def spans (t per : Nat) : Nat := max 1 ((t + per / 2) / max 1 per)

/-- Is a time within 500 ppm of `m` expected intervals of `per` units (R40)? -/
def inLockRange (t m per : Nat) : Bool :=
  decide (((t : Int) - (m * per : Nat)).natAbs * 1000000 ≤ 500 * (m * per))

/-- A phase error reduced to the nearest tick: from −N/2 to N/2 lane cycles. -/
def wrapPhase (e : Int) (per : Nat) : Int :=
  let r := e % (per : Int)
  if 2 * r > (per : Int) then r - per else r

/-- Does a reference edge or marker that arrives `gap` units after the one before lie in the lock range (R40)? -/
def State.edgeCounts (s : State) (gap : Nat) : Bool :=
  let per := s.refTicks * s.period * unitsPerCycle
  match s.mer.fromEdge with
  | none => true
  | some t => inLockRange (t + gap) (spans (t + gap) per) per

/-- A reference edge or marker arrives `gap` units after the one before, with the phase error it measures. Inside the
lock range it is accepted: it sets the error and the measured frequency and ends the absence; outside, it counts as
absent (R39, R40). The interval is judged against as many expected references as it spans (log entry 22). Sixteen
consecutive ones in HOLDOVER lead to ACQUIRE. -/
def State.refEdge (s : State) (gap : Nat) (err : Int) : State :=
  let per := s.refTicks * s.period * unitsPerCycle
  match s.mer.fromEdge with
  | none => { s with mer := { s.mer with fromEdge := some 0, err := err, since := 0, again := 1 } }
  | some t =>
    let t := t + gap
    let m := spans t per
    if inLockRange t m per then
      let drift := ((t : Int) - (m * per : Nat)) / (m * s.refTicks : Nat)
      let again := if m = 1 then s.mer.again + 1 else 1
      let s := { s with mer := { s.mer with fromEdge := some 0, err := err, since := 0, again := again, drift := drift } }
      if s.lockState = 2 ∧ 16 ≤ again then
        { s.setLock s.mer.count 0 with mer := { s.mer with good := 0, again := 0 } }
      else s
    else { s with mer := { s.mer with fromEdge := some t, again := 0 } }

/-- The SYNC_IN edge of source SYNC, `pos` units after S: S should fall OFS lane cycles after it (R38, R39). -/
def State.syncLock (s : State) (pos gap : Nat) : State :=
  if s.mer.srcNow = 1 then
    s.refEdge gap (wrapPhase (pos + s.getF MER_SYNC_OFS MER_SYNC_OFS_OFS % max 1 s.period * unitsPerCycle) (s.period * unitsPerCycle))
  else s

/-- LOCK_HOLDOVER (R39): four consecutive expected references absent: HOLDOVER, and MER_SYNC_LOST; of upstream
markers, TRP_ALIGN_LOST too (R258). -/
def execLockHoldover (cyc : Nat) (s : State) : Host.Outcome State Fault Refusal :=
  .next (
    if s.lockState < 2 ∧ 4 * s.refTicks < s.mer.since then
      let s := (s.setLock s.mer.count 2).raise MER_SYNC_LOST 0xFF cyc
      let s := if s.mer.srcNow = 2 then s.raise TRP_ALIGN_LOST 0xFF cyc else s
      { s with mer := { s.mer with again := 0, good := 0 } }
    else s)

/-- The correction of a guard: at most 10 ns, toward the phase in ACQUIRE and LOCKED, of the last measured frequency in
HOLDOVER, none in FREE (R39, R40). -/
def State.guardCorr (s : State) : Int :=
  match s.lockState with
  | 0 => clampI (-128) 128 s.mer.err
  | 1 => clampI (-128) 128 s.mer.err
  | 2 => clampI (-128) 128 s.mer.drift
  | _ => 0

/-- GUARD (R34, R39): the phase correction is applied, and the tick counts toward LOCKED and toward an absence. -/
def execGuard (s : State) : Host.Outcome State Fault Refusal :=
  .next (
    let c := s.guardCorr
    let below := decide (s.mer.err.natAbs < unitsPerCycle)
    let free := s.lockState == 3
    { s with mer := { s.mer with
        phase := .guard, corr := c,
        err := if s.lockState = 2 then s.mer.err else s.mer.err - c,
        good := if free || s.mer.fromEdge.isNone then 0 else if below then s.mer.good + 1 else 0,
        since := if free then 0 else s.mer.since + 1 } })

/-- A write of MER_CTL: a change of SRC takes effect at the next tick boundary (R42). -/
def State.merCtlWrite (s : State) (w : Word) : State :=
  let src := MER_CTL_SRC.get w
  let s := s.wr MER_CTL (w &&& 0x3B)
  { s with mer := { s.mer with srcNext := if src = s.mer.srcNow then none else some src } }

/-- At the boundary that begins tick `k`, a new source starts in ACQUIRE, REF in FREE (R42). -/
def State.srcBoundary (s : State) (k : Nat) : State :=
  match s.mer.srcNext with
  | none => s
  | some v =>
    let s := { s with mer := { s.mer with srcNow := v, srcNext := none, err := 0, good := 0, since := 0, again := 0,
                                          fromEdge := none, drift := 0 } }
    s.setLock k (if v = 0 then 3 else 0)

/-- TICK_MARKER_ARRIVAL (R21, R43): tile `n` places its S 200 ns after the marker, less its delay from tile 0 and the
waiting time the marker carries; a discarded or missing marker lets it run N lane cycles from its own last S. -/
def execTickMarkerArrival (n : Nat) (came crcOk : Bool) (waited cyc : Nat) (s : State) : Host.Outcome State Fault Refusal :=
  .next (
    if s.tileDown n then s
    else if came ∧ crcOk then
      s.modTile n fun t => { t with sOffset := some (2560 - s.getF (MER_TILE_DLY n) MER_TILE_DLY_DLY - waited) }
    else
      let s := s.modTile n fun t => { t with sOffset := none }
      if came then
        (s.setF PKG_TILE_STAT PKG_TILE_STAT_FAB_ERR (s.getF PKG_TILE_STAT PKG_TILE_STAT_FAB_ERR ||| 1)).raise PKG_FABRIC_ERR 0 cyc
      else s)

/-- A fabric stop's measured delay: above 180 ns it raises MER_ALIGN (R44). -/
def State.alignCheck (s : State) (n dly cyc : Nat) : State := if 2304 < dly then s.raise MER_ALIGN n cyc else s

/-- FABRIC_DELAY_MEASURE (R44): a new measurement, in 78.125 ps units, that differs from the value in use by more than
0.5 ns becomes the value to slew to. DESIGN CHOICE: one that differs by less ends a slew that still runs (log entry 91). -/
def execFabricDelayMeasure (n dly cyc : Nat) (s : State) : Host.Outcome State Fault Refusal :=
  .next (
    if n = 0 ∨ 8 ≤ n then s
    else
      let cur := s.getF (MER_TILE_DLY n) MER_TILE_DLY_DLY
      let s := s.alignCheck n dly cyc
      let tgt := if ((dly : Int) - cur).natAbs > 6 then some (min 4095 dly) else none
      { s with mer := { s.mer with dlyTarget := Tab.set none s.mer.dlyTarget n tgt } })

/-- Each tick the delays in use step toward their new measurements by at most 78.125 ps (R44). -/
def State.delayStep (s : State) : State :=
  forList s.mer.dlyTarget (fun e s =>
    match e.2 with
    | none => s
    | some t =>
      let cur := s.getF (MER_TILE_DLY e.1) MER_TILE_DLY_DLY
      let new := if cur < t then cur + 1 else if t < cur then cur - 1 else cur
      let s := s.setF (MER_TILE_DLY e.1) MER_TILE_DLY_DLY new
      if new = t then { s with mer := { s.mer with dlyTarget := Tab.set none s.mer.dlyTarget e.1 none } } else s) s

/-! ### Rate changes (R50 to R54) -/

/-- MER_STAT.RATE_PEND: a change, requested or announced, is being checked or awaits its boundary (R55). -/
def State.ratePend (s : State) : State :=
  s.setF MER_STAT MER_STAT_RATE_PEND (b2n (s.mer.rate.isSome || s.mer.annRate.isSome))

/-- A write of MER_RATE_CTL starts the check of a rate change, replacing a pending one (R51, R53). -/
def State.rateRequest (s : State) (w : Word) : State :=
  let s := s.setF MER_RATE_CTL MER_RATE_CTL_WHEN (MER_RATE_CTL_WHEN.get w)
  let r : RateReq := ⟨s.getF MER_PERIOD_REQ MER_PERIOD_REQ_N, MER_RATE_CTL_WHEN.on w, s.rdPair MER_RATE_AT_LO MER_RATE_AT_HI, none, false, false⟩
  { s with mer := { s.mer with rate := some r } }.ratePend

/-- The first lane with a program, or a reverse cost of a trial, above a budget (R51, R442). -/
def State.overBudget (s : State) (b : Nat) : Option Nat :=
  (List.range 128).find? fun l =>
    (s.flag (LAN_STAT l) LAN_STAT_ACT_OK && decide (b < s.getF (LAN_COST l) LAN_COST_CYCLES))
      || (s.flag (LAN_STAT l) LAN_STAT_INACT_OK && decide (b < s.getF (LAN_COST_INACT l) LAN_COST_INACT_CYCLES))
      || (decide (5 ≤ s.getF UPD_STAT UPD_STAT_STATE) && decide (b < Tab.get 0 s.upd.revCost l))

/-- The refusal of a rate change, in descending order of the causes: cause and lane; none where it is accepted (R51). -/
def State.rateRefusal (s : State) (n : Nat) : Option (Nat × Nat) :=
  if n < 2000 ∨ 16000 < n then some (3, 0)
  else if s.getF MER_CTL MER_CTL_SRC = 2 then some (2, 0)
  else if s.flag LAN_SW_STAT LAN_SW_STAT_PEND then some (1, 0)
  else (s.overBudget (budgetOf n)).map fun l => (0, l)

/-- Is the device a ringmaster with aligned members (R259)? -/
def State.leadsAligned (s : State) : Bool :=
  s.getF TRP_STAT TRP_STAT_ROLE == 2 && (List.range 6).any fun l =>
    s.flag (TRP_LNK_STAT l) TRP_LNK_STAT_PARTNER_ALIGNED && (TRP_CTL_DOWN.get (s.rd TRP_CTL)).testBit l

/-- The refusal of an announced change or of an adopted period: its check has no source to object to (R259, R268). -/
def State.linkRefusal (s : State) (n : Nat) : Option (Nat × Nat) :=
  if n < 2000 ∨ 16000 < n then some (3, 0)
  else if s.flag LAN_SW_STAT LAN_SW_STAT_PEND then some (1, 0)
  else (s.overBudget (budgetOf n)).map fun l => (0, l)

/-- A refused announcement or adoption: the source becomes REF, the device is not aligned (R259, R268). -/
def State.linkRefused (s : State) : State :=
  let s := (s.setF MER_CTL MER_CTL_SRC 0).setF TRP_STAT TRP_STAT_ALIGNED 0
  { s.raise TRP_RATE_REFUSED 0xFF 0 with mer := { s.mer with srcNext := if s.mer.srcNow = 0 then none else some 0 } }

/-- The check of one change: refused with a cause, or accepted for a tick; what stays pending (R51, R52, R259). -/
def State.rateJudge (s : State) (r : RateReq) : State × Option RateReq :=
  if r.tick.isSome then (s, some r)
  else match if r.link then s.linkRefusal r.n else s.rateRefusal r.n with
    | some c =>
      let s := (s.setF MER_STAT MER_STAT_RATE_REFUSED 1).wr MER_REFUSE (BitVec.ofNat 24 (c.1 * 256 + c.2))
      (if r.link then s.linkRefused else s, none)
    | none =>
      let late := r.atWhen && inPast r.at_ s.mer.count
      let k := if r.atWhen ∧ !late then r.at_ else s.nextCount
      let k2 := (s.mer.count + 1024) % 2 ^ 48
      let k := if s.leadsAligned && !r.link && inPast k k2 then k2 else k
      (s, some { r with tick := some k, late := late })

/-- RATE_CHECK_COMPLETE (R51, R52, R259): every change whose check runs, this device's own request first, is refused with a cause, or
accepted for a tick. -/
def execRateCheckComplete (s : State) : Host.Outcome State Fault Refusal :=
  .next (
    let own (s : State) : State := match s.mer.rate with
      | some r => let x := s.rateJudge r; { x.1 with mer := { x.1.mer with rate := x.2 } }
      | none => s
    let ann (s : State) : State := match s.mer.annRate with
      | some r => let x := s.rateJudge r; { x.1 with mer := { x.1.mer with annRate := x.2 } }
      | none => s
    (ann (own s)).ratePend)

/-- A period comes into force at the boundary that begins tick `k`: the layout, the budget, the stamp unit, and the
record (R30, R36, R52). -/
def State.setPeriod (s : State) (n k : Nat) : State :=
  let old := s.period
  let s := (s.setF MER_PERIOD MER_PERIOD_N n).setF MER_BUDGET MER_BUDGET_B (budgetOf n)
  (s.setF PKG_ORDER PKG_ORDER_SCALE (scaleOf n)).recordAt k 0x002 0xFF old n

/-- The package is in Lull, where the period is fixed (R35). -/
def State.inLull (s : State) : Bool := s.getF PWS_STAT PWS_STAT_STATE == 3

/-- Does Lull hold the management ports and TWB1 to TWB3 powered down: until 1.0 ms after a wake event (R293, R397, R404)? -/
def State.lullOff (s : State) : Bool :=
  s.inLull && !(match s.pws.waking with | some t => decide (800000 ≤ t) | none => false)

/-- The period in Run, Trim and Doze: in Lull the one in force at its entry (R35, R53). -/
def State.runPeriod (s : State) : Nat := if s.inLull then s.mer.runN else s.period

/-- An accepted change takes effect at the boundary of its tick; one whose tick passed in Lull at the first boundary after it (R35, R52,
log entry 96). The rest stays pending. -/
def State.rateApply (s : State) (r : RateReq) : State × Option RateReq :=
  match r.tick with
  | some k =>
    let now := k == s.boundary
    if !s.inLull && (now || inPast k s.boundary) then
      let s := s.setPeriod r.n s.boundary
      (if r.late || (r.atWhen && !now) then s.setF MER_STAT MER_STAT_RATE_LATE 1 else s, none)
    else (s, some r)
  | none => (s, some r)

/-- RATE_CHANGE_APPLY (R52, R54): the accepted changes of this boundary take effect; an announced one prevails. -/
def execRateChangeApply (s : State) : Host.Outcome State Fault Refusal :=
  .next (
    let own (s : State) : State := match s.mer.rate with
      | some r => let x := s.rateApply r; { x.1 with mer := { x.1.mer with rate := x.2 } }
      | none => s
    let ann (s : State) : State := match s.mer.annRate with
      | some r => let x := s.rateApply r; { x.1 with mer := { x.1.mer with annRate := x.2 } }
      | none => s
    (ann (own s)).ratePend)

/-- Entry to Lull, or a fallback, cancels a pending rate change (R53, R441). -/
def State.rateCancel (s : State) : State :=
  if s.mer.rate.isNone && s.mer.annRate.isNone then s
  else
    let s := (s.setF MER_STAT MER_STAT_RATE_PEND 0).setF MER_STAT MER_STAT_RATE_CANCEL 1
    { s with mer := { s.mer with rate := none, annRate := none } }

end Sys2Proof.Machine
end

