-- ==== Sys2Proof/Machine/Stage.lean ====
section
/-! DEFINITION. Stage ports: the sense front end and its conditions, port states, update points and gate levels, the fault input, the
comparators, fans (R128 to R152, R168 to R170, R173, R223, R224). -/

namespace Sys2Proof.Machine

/-! ### Sense front end (R132 to R140) -/

/-- A calibrated current conversion (R133). -/
def State.calI (s : State) (p : Nat) (code : Int) : Int :=
  satI (roundOff ((code - ((BitVec.ofNat 16 (s.getF (STG_CAL_IO p) STG_CAL_IO_OFS)).toInt)) * 256 * (s.rd (STG_CAL_IG p)).toNat) 22 .halfEven)

/-- A calibrated voltage conversion (R133). -/
def State.calV (s : State) (p : Nat) (code : Nat) : Int :=
  satI (roundOff (((code : Int) - ((BitVec.ofNat 16 (s.getF (STG_CAL_VO p) STG_CAL_VO_OFS)).toInt)) * 128 * (s.rd (STG_CAL_VG p)).toNat) 22 .halfEven)

/-- Is the open-detection pulse injected in the tick with a count, for local port `i` and exponent `j` (R138)? -/
def pulseTick (count i j : Nat) : Bool := count % 2 ^ j == i % 2 ^ j

/-- The element of a list counted back from its last (R132). -/
def backFrom (l : List Int) (j : Nat) : Int := l.reverse.getD j 0

/-- Four times the step of an open-detection pulse: raw mean of conversions 8 to 5 less that of 16 to 13 (R138). -/
def pulseStep4 (l : List Int) : Int :=
  (backFrom l 8 + backFrom l 7 + backFrom l 6 + backFrom l 5) - (backFrom l 16 + backFrom l 15 + backFrom l 14 + backFrom l 13)

/-- The channel after an open-detection pulse: open after two consecutive ones not seen, until one is seen (R138). -/
def Chan.pulse (c : Chan) (seen : Bool) : Chan :=
  if seen then { c with unseen := 0, isOpen := false }
  else { c with unseen := c.unseen + 1, isOpen := c.isOpen || decide (1 ≤ c.unseen) }

/-- The run of raw codes within ±1 LSB of its first code goes on or starts afresh (R137). -/
def Chan.run (c : Chan) (code : Int) : Chan :=
  if c.runLen ≠ 0 ∧ (code - c.runCode).natAbs ≤ 1 then { c with runLen := c.runLen + 1 } else { c with runCode := code, runLen := 1 }

/-- Follow the run through an interval, with the place of the first conversion at which it is 64 long (R137, R140). A conversion in a
period in which the port does not switch, `sw` of its place, ends the run. -/
def runScan (codes : List Int) (sw : Nat → Bool) (c : Chan) : Chan × Option Nat :=
  (codes.zipIdx).foldl (fun (r : Chan × Option Nat) x =>
    let d := if sw x.2 then r.1.run x.1 else { r.1 with runLen := 0 }
    (d, match r.2 with | some k => some k | none => if 64 ≤ d.runLen then some x.2 else none)) (c, none)

/-- The conversions that take part in the decimated value: conversions 12 to 3 back from S of a pulse are excluded (R138). -/
def kept (excl : Bool) (l : List Int) : List Int :=
  if excl then (l.zipIdx).filterMap fun x => let j := l.length - 1 - x.2; if 3 ≤ j ∧ j ≤ 12 then none else some x.1 else l

/-- Decimated value, peak and valley of the calibrated conversions that take part (R134). -/
def decimate (point : Bool) (cal : List Int) : Word × Word × Word :=
  let last := cal.getLastD 0
  let mean := if point then last else roundq (cal.foldl (· + ·) 0) cal.length
  (word mean, word (cal.foldl max last), word (cal.foldl min last))

/-- What one channel of a port shows in an interval: the channel, the decimated value, peak and valley, the conversion at
S, and the places of the first frozen, open and clipped conversion (R134, R137 to R140). -/
structure Sensed where
  ch : Chan
  dec : Word
  pk : Word
  vl : Word
  last : Word
  frozen : Option Nat
  opened : Option Nat
  clipped : Option Nat
  deriving DecidableEq, Repr

/-- One channel's interval. `sw`: whether the port was switching at a conversion's place; `frzEn`, `openEn`, `pulse`: what is enabled; `lo`, `hi`: the
ends of the code range; `win`: the step window. -/
def senseChan (c : Chan) (raw : List Int) (cal : Int → Int) (sw : Nat → Bool) (point frzEn openEn pulse : Bool) (lo hi : Int)
    (win : Word) : Sensed :=
  let r := if frzEn then runScan raw sw c else ({ c with runLen := 0 }, none)
  let d4 := pulseStep4 raw
  let seen := decide (4 * ((win.toNat % 4096 : Nat) : Int) ≤ d4) && decide (d4 ≤ 4 * ((win.toNat / 4096 : Nat) : Int))
  let was := c.isOpen
  let ch := if !openEn then { r.1 with unseen := 0, isOpen := false } else if pulse then r.1.pulse seen else r.1
  let cals := (kept (openEn && pulse) raw).map cal
  let d := decimate point cals
  { ch := ch, dec := d.1, pk := d.2.1, vl := d.2.2, last := word (cals.getLastD 0), frozen := r.2,
    opened := if ch.isOpen then some (if was then 0 else raw.length - 4) else none,
    clipped := raw.findIdx? fun x => x == lo || x == hi }

/-- The stamp of the conversion at place `k` of `n`, in the tick before this S: 80 lane cycles apart, the last at S (R132, R140). -/
def State.convStamp (s : State) (n k : Nat) : Nat := (s.mer.tickN - 80 * (n - 1 - k)) / 2 ^ scaleOf s.mer.tickN

/-- Raise a front-end event of a condition that holds (R140). -/
def State.raiseFe (s : State) (on : Bool) (src p n : Nat) (at_ : Option Nat) : State :=
  match at_ with
  | some k => if on then s.raisePrev src p (s.convStamp n k) else s
  | none => s

/-- Is the port switching in the period that holds the instant `t` units from S (R137)? -/
def State.switching (s : State) (p : Nat) (t : Int) : Bool :=
  s.pstate p == 1 && s.pulses p && (match (s.port p).swing.find? fun e => decide (e.1 ≤ t) with | some e => e.2 | none => false)

/-- Conversions of one channel in a sense interval of `n` lane cycles (R132). -/
def convCount (n : Nat) : Nat := (n + 79) / 80

/-- The K codes of an interval: the last ones given, with the first one given, or 0, in place of those that are not (log entry 24). -/
def convFill {α : Type} (zero : α) (k : Nat) (l : List α) : List α :=
  List.replicate (k - l.length) (l.headD zero) ++ l.drop (l.length - k)

/-- The conversions of a port in the interval of `n` lane cycles that ends (R132). -/
def PortConv.fill (c : PortConv) (n : Nat) : PortConv :=
  { c with i := convFill 0 (convCount n) c.i, v := convFill 0 (convCount n) c.v }

/-- The calibrated voltage conversions of a port with those that R138 excludes replaced by the last one before that is not (R167). -/
def State.railConvs (s : State) (p : Nat) (excl : Bool) (v : List Nat) : List Int :=
  (v.zipIdx.foldl (fun (r : Option Int × List Int) x =>
    let j := v.length - 1 - x.2
    let c := s.calV p x.1
    if excl ∧ 3 ≤ j ∧ j ≤ 12 then (r.1, r.1.getD c :: r.2) else (some c, c :: r.2)) (none, [])).2

/-- One port's sense interval at S: samples, conditions, FE, the front-end events in ON and SAFE; `old` is the count of
the tick that ends (R132 to R140). -/
def State.sensePort (s : State) (old : Nat) (conv : PortConv) (p : Nat) : State :=
  let x := s.port p
  let sns := STG_SNS p
  let pulse := pulseTick old (p % 16) (s.getF sns STG_SNS_OPEN_INT)
  let sw (k : Nat) : Bool := s.switching p (-((80 * unitsPerCycle * (conv.i.length - 1 - k) : Nat) : Int))
  let point := s.flag sns STG_SNS_DEC
  let i := senseChan x.chI conv.i (s.calI p) sw point (s.flag sns STG_SNS_FRZ_EN_I) (s.flag sns STG_SNS_OPEN_EN_I) pulse
    (-32768) 32767 (s.rd (STG_OPEN_I p))
  let v := senseChan x.chV (conv.v.map Int.ofNat) (fun c => s.calV p c.toNat) sw point (s.flag sns STG_SNS_FRZ_EN_V)
    (s.flag sns STG_SNS_OPEN_EN_V) pulse 0 65535 (s.rd (STG_OPEN_V p))
  let tail := (s.railConvs p (s.flag sns STG_SNS_OPEN_EN_V && pulse) conv.v).take 8
  let fe := b2n i.frozen.isSome + 2 * b2n v.frozen.isSome + 4 * b2n i.opened.isSome + 8 * b2n v.opened.isSome
    + 16 * b2n i.clipped.isSome + 32 * b2n v.clipped.isSome + 64 * b2n x.ocFired + 128 * b2n x.rcFired
  let on := s.pstate p != 0
  let ni := max 1 conv.i.length
  let nv := max 1 conv.v.length
  let s := if x.ocFired then s.countPort p 0x22 1 else s
  let frozen := i.frozen.isSome || v.frozen.isSome
  let s := if frozen then s.countPort p 0x25 1 else s
  let out (k : Bool) (l : Nat) : Nat := if k && pulse then min 10 (l - 3) else 0
  let s := s.countPort p 0x24 (out (s.flag sns STG_SNS_OPEN_EN_I) conv.i.length + out (s.flag sns STG_SNS_OPEN_EN_V) conv.v.length)
  let s := s.setF (STG_STAT p) STG_STAT_FE fe
  let s := s.raiseFe on (portSrc p STG_FROZEN_I) p ni i.frozen
  let s := s.raiseFe on (portSrc p STG_FROZEN_V) p nv v.frozen
  let s := s.raiseFe on (portSrc p STG_OPEN_I_SRC) p ni i.opened
  let s := s.raiseFe on (portSrc p STG_OPEN_V_SRC) p nv v.opened
  let s := s.raiseFe on (portSrc p STG_CLIP_I) p ni i.clipped
  let s := s.raiseFe on (portSrc p STG_CLIP_V) p nv v.clipped
  let t := if s.pers p = 4 then x.smpT else if s.flag sns STG_SNS_TEN then x.slowT else 0
  s.modPort p fun x => { x with
    chI := i.ch, chV := v.ch, smpI := i.dec, ipk := i.pk, ivl := i.vl, smpV := v.dec, vpk := v.pk, vvl := v.vl,
    lastI := i.last, smpT := t, ocFired := false, rcFired := false, drvSeen := false, tailV := tail,
    swing := x.swing.take 1, pulsed := x.pulsed.filter fun e => decide (-(unitsPerCycle * s.mer.tickN : Nat) - 34000 ≤ e.2) }

/-- SLOW_ADC_CONVERSION (R135): the slow ADC of tile `n` converts the voltage on the next SPn_T pin of its rotation,
given in µV: 12 bits of 1.6 V, mapped to unit format. -/
def execSlowAdcConversion (n uv : Nat) (s : State) : Host.Outcome State Fault Refusal :=
  .next (
    if s.tileDown n then s
    else
      let start := (s.tile n).slowAt
      match ((List.range 16).map (fun k => (start + 1 + k) % 16)).find?
          (fun i => s.flag (STG_SNS (16 * n + i)) STG_SNS_TEN && s.pers (16 * n + i) != 4) with
      | none => s
      | some i =>
        let k := min (roundq ((uv * 4096 : Nat) : Int) 1600000).toNat 4095
        let s := s.modPort (16 * n + i) fun x => { x with slowT := BitVec.ofNat 24 (k * 8388607 / 4095) }
        s.modTile n fun t => { t with slowAt := i })

/-! ### Envelope units of a port, each tick (R223, R224) -/

/-- The averaged magnitude and the slow limit of an ON or SAFE port (R223). True: the average is above the limit. -/
def State.slowAverage (s : State) (p : Nat) : State × Bool :=
  if s.pstate p = 0 then (s.setF (ENV_STAT p) ENV_STAT_SLOW 0, false)
  else
    let x := s.port p
    let a : Int := x.savg
    let a := a + roundOff (((x.smpI.toInt.natAbs * 2 ^ 24 : Nat) : Int) - a) (s.getF (ENV_PERS p) ENV_PERS_SLOW_A) .halfEven
    let past := decide ((s.rd (ENV_SLOW p)).toNat * 2 ^ 24 < a.toNat)
    let s := (s.modPort p fun x => { x with savg := a.toNat }).wr (ENV_SAVG p) (BitVec.ofNat 24 (min (a.toNat / 2 ^ 24) 0x7FFFFF))
    let s := s.setF (ENV_STAT p) ENV_STAT_SLOW (b2n past)
    (if past then s.raise (portSrc p ENV_SLOW_OC) p 0 else s, past)

/-- The voltage window of an ON port (R224). -/
def State.voltWindow (s : State) (p : Nat) : State :=
  let v := (s.port p).smpV.toInt
  let out := s.pstate p == 1 && (decide ((s.rd (ENV_VHI p)).toInt < v) || decide (v < (s.rd (ENV_VLO p)).toInt))
  let s := s.setF (ENV_STAT p) ENV_STAT_VWIN (b2n out)
  if out then s.raise (portSrc p ENV_VWIN) p 0 else s

/-! ### Port states (R129, R131, R227) -/

/-- A write of STG_CTL (R129, R131, R226): a change of PERS is refused while EN is 1 or the port is in SAFE, or where the
personality is not allowed; EN = 1 is refused while the personality in force is not allowed. A refusal leaves STG_CTL
as it is and raises STG_PERS_REFUSED. What is accepted takes effect at the next S. False: refused. -/
def State.stgCtlWrite (s : State) (p : Nat) (w : Word) (cyc : Nat) : State × Bool :=
  let l := STG_CTL p
  let pn := STG_CTL_PERS.get w
  let en := STG_CTL_EN.on w
  let allow (k : Nat) : Bool := (s.getF (ENV_PERS p) ENV_PERS_ALLOW).testBit k
  let change := pn != s.getF l STG_CTL_PERS
  if (change ∧ (s.flag l STG_CTL_EN ∨ s.pstate p = 2 ∨ !allow pn)) ∨ (en ∧ !allow (s.pers p)) then
    (s.raise (tileSrc (p / 16) STG_PERS_REFUSED) p cyc, false)
  else
    let was := s.flag l STG_CTL_EN
    let s := s.wr l (w &&& 0x17)
    (s.modPort p fun x => { x with
      persNext := if change then some pn else x.persNext,
      enNext := if en then (if was then x.enNext else some true) else some false }, true)

/-- The defaults of the three sources that depend on the personality are loaded, and their windows close (R129, R349). -/
def State.persClasses (s : State) (p v : Nat) : State :=
  let load (s : State) (o : Nat) : State :=
    let x := portSrc p o
    let d := portCls v o
    let s := ((s.wr (FLT_CLS x) d.clsWord).setF (FLT_SRC x) FLT_SRC_TIER d.tier).setF (FLT_SRC x) FLT_SRC_COUNT 0
    { s with flt := { s.flt with cls := Tab.set none s.flt.cls x (some d), wend := Tab.set none s.flt.wend x none } }
  load (load (load s STG_FROZEN_I) STG_FROZEN_V) STG_OC_TRIP

/-- A personality comes into force: its sources take their defaults (R129, R349); a fan starts at standstill, and its FLT_N is a tach input (R151, R152). What the comparators of the personality
before held ends (log entry 98). -/
def State.persApply (s : State) (p v : Nat) : State :=
  let s := (s.persClasses p v).modPort p fun x => { x with
    persNow := v, persNext := none, ga := false, gb := false, tachRun := false, rcActive := false, smpT := if v = 4 then 0 else x.smpT }
  let s := (s.setF (STG_STAT p) STG_STAT_OC_LATCH 0).setF (STG_STAT p) STG_STAT_RC_LATCH 0
  if v = 4 then
    (((s.wr (FAN_SPD p) 0).wr (FAN_PER p) 0).setF (STG_STAT p) STG_STAT_DRV_FLT 0).modPort p fun x => { x with fltLow := false, drvHold := false }
  else s

/-- The port turns OFF: gates inactive; a value that waited counts as stored (R131, log entry 23). -/
def State.portOff (s : State) (p : Nat) : State :=
  ((s.modFuse p fun x => { x with gb := 0 }).setF (STG_STAT p) STG_STAT_STATE 0).modPort p fun x => { x with
    ga := false, gb := false, onS := 0, onM := 0, rise := 0, fall := 0, gen := {}, swing := [], pulsed := [], edges := [], tail := x.start,
    ocHold := false, fire := none, pend := [], stored := x.pend.foldl (fun t e => Tab.set none t e.1 (some e.2.w)) x.stored }

/-- The port turns ON, or enters SAFE again at once where a cause still holds (R131, R226, R227). -/
def State.portOn (s : State) (p : Nat) : State :=
  let was := s.pstate p
  if was = 1 then s
  else
    let s := s.setF (STG_STAT p) STG_STAT_STATE 1
    let s := if was = 0 then s.setF (ENV_STAT p) ENV_STAT_CAUSE 0 else s
    let s := s.modPort p fun x => { x with savg := if was = 0 then 0 else x.savg, firstStart := true, ga := false, gb := false }
    match s.safeCause p with
    | some c => s.enterSafe p c
    | none => s

/-- At the tick boundary the writes of PERS and EN take effect (R129, R131); at a port that does not start and is not
OFF the safe action follows (R70). -/
def State.portBoundary (s : State) (p : Nat) : State :=
  let x := s.port p
  let s : State := match x.persNext with | some v => s.persApply p v | none => s
  let s : State := match x.enNext with
    | some true => (s.portOn p).modPort p fun x => { x with enNext := none }
    | some false => (s.portOff p).modPort p fun x => { x with enNext := none }
    | none => s
  if s.pstate p = 1 ∧ s.laneIdle p then s.enterSafe p 5 else s

/-- The waiting values of a port cross an S: cycles count from the new S (R116, R173). -/
def PortSt.nextTick (x : PortSt) (n : Nat) : PortSt :=
  { x.genShift (n * unitsPerCycle) with
    pend := x.pend.map (fun e => (e.1,
      { e.2 with due := e.2.due - n, age := e.2.age + n * unitsPerCycle, meas := e.2.meas || (e.2.age == 0 && x.measured) })),
    envPend := x.envPend.map (fun e => (e.1, e.2.1, e.2.2 - n)), measured := false,
    cmpOld := (x.cmpOld.filter fun o => decide (n < o.2)).map fun o => (o.1, o.2 - n) }

/-! ### Update points (R116, R142, R173) -/

/-- The delay from S to the update point at which a tick's OUT is first applied (R173). -/
def State.measureDelay (s : State) (p : Nat) (o : PendOut) (pos : Nat) : State :=
  if o.meas ∨ (o.age = 0 ∧ (s.port p).measured) then s
  else
    let d := BitVec.ofNat 24 (min 0xFFFFFF (o.age + pos))
    let s := s.wr (PHS_DLY_LAST p) d
    let s := if d.toNat < (s.rd (PHS_DLY_MIN p)).toNat then s.wr (PHS_DLY_MIN p) d else s
    let s := if (s.rd (PHS_DLY_MAX p)).toNat < d.toNat then s.wr (PHS_DLY_MAX p) d else s
    let s := if o.age = 0 then s else s.bump (PHS_DLY_NEXT p)
    s.modPort p fun x => { x with
      measured := x.measured || o.age == 0,
      pend := x.pend.map (fun e => (e.1, if e.2.age = o.age then { e.2 with meas := true } else e.2)) }

/-- A value is applied to a target: the stored one after ON, then the last one that has waited its 8 lane cycles, each judged against the
envelope in force (R116, R122, R131). `pos` is the update point in 78.125 ps units after S. With whether a value was applied. -/
def State.takeOut (s : State) (p tgt pos : Nat) : State × Bool :=
  let x := s.port p
  let kept := Tab.get none x.stored tgt
  let s := match kept with
    | some w => s.modPort p fun x => { x.setApp tgt (s.limitOut p tgt w w) with stored := Tab.set none x.stored tgt none }
    | none => s
  let due (e : Nat × PendOut) : Bool := e.1 == tgt && decide (e.2.due * unitsPerCycle ≤ pos)
  match (x.pend.filter due).getLast? with
  | some o =>
    let s := s.measureDelay p o.2 pos
    let s := s.countCore p 0x0D 1
    (s.modPort p fun x => { x.setApp tgt (s.limitOut p tgt o.2.ref o.2.w) with pend := x.pend.filter fun e => !due e }, true)
  | none => (s, kept.isSome)

/-- Values that wait at an update point in SAFE have no effect (R115). -/
def State.dropOut (s : State) (p pos : Nat) : State :=
  s.modPort p fun x => { x with pend := x.pend.filter fun e => !decide (e.2.due * unitsPerCycle ≤ pos) }

/-- SHIFT × P of the pulse on GB in PSP, rounded half_even (R142, log entry 97). -/
def State.shiftUnits (s : State) (p : Nat) : Nat :=
  let x := s.port p
  (roundOff (((x.shift.toNat * x.gen.per : Nat)) : Int) 23 .halfEven).toNat

/-- The rising edges of GA and GB in the running period, as its pulse gives them (R142, R146). -/
def State.pulseEdges (s : State) (p : Nat) : List Int :=
  let x := s.port p
  let dt := s.deadTime p
  if x.fall ≤ x.rise ∨ x.firstStart then []
  else
    let at_ (u : Nat) : Int := x.start + (u : Int)
    (if x.rise + dt < x.fall then [at_ (x.rise + dt)] else []) ++
      (match s.pwmMode p with
        | 0 => [at_ (x.fall + dt)]
        | 2 => [at_ ((x.rise + s.shiftUnits p) % max 1 x.gen.per)]
        | _ => [])

/-- The holds that end at a period start at `pos`: the comparator's, the fault input's where the pin is high, a released truncation; an
all-fire pulse that is over. The edges of the period before are kept for the blanking, with GB's where a hold ends (R146, R148, R168, R169). -/
def State.periodStart (s : State) (p : Nat) (held : Bool) (pos : Nat) : State :=
  let es := s.pulseEdges p
  let dt := s.deadTime p
  let fan := s.pers p == 4 && s.pstate p == 2
  s.modPort p fun x =>
    let free := (x.ocHold || x.drvHold || x.trunc || x.firstStart) && !(x.drvHold && x.fltLow)
    { x with
      ocHold := false, drvHold := x.drvHold && x.fltLow, trunc := x.trunc && held, firstStart := false, ga := x.ga || fan,
      fire := x.fire.bind fun f => if f.2.2 + dt ≤ pos then none else some f,
      tail := if x.rise < x.fall then min (x.start + x.fall) pos + dt else x.tail,
      edges := ((if free then [(pos : Int)] else []) ++ es.filter (fun e => decide (e < (pos : Int))) ++ x.edges).filter fun e => decide ((pos : Int) < e + 8064) }

/-- The duty that the generator takes: the applied one, with the perturbation of the capacitor probe added within the limits of
the envelope (R222, R386). -/
def State.probeDuty (s : State) (p : Nat) : Word :=
  let x := s.port p
  if x.pert = 0 then x.app 0 else s.limitOut p 0 x.dutyNow (word (satI ((x.app 0).toInt + x.pert)))

/-- A tightening of ENV_DUTY or ENV_OFFT re-limits the duty in force at the next update point, without slew (R222). -/
def State.relimitDuty (s : State) (p : Nat) : State :=
  if (s.port p).relimit then s.modPort p fun x => { x.setApp 0 (word (s.dutyCap p (x.app 0).toInt)) with relimit := false } else s

/-- The generator takes the applied duty at an update point: on-times, rise and fall, and whether the period switches (R137, R142).
A SHIFT applies at a period start only. -/
def State.genUpdate (s : State) (p : Nat) (q : Point) : State :=
  let duty := s.probeDuty p
  let on := s.onTime p q.per duty
  let m := q.per / 2
  s.modPort p fun x =>
    let sw (rise fall : Nat) : Bool := decide (rise < fall) && decide (fall - rise < q.per)
    if q.mid then
      let fall := m + (on - on / 2)
      { x with dutyNow := duty, onM := on, fall := fall,
               swing := match x.swing with | e :: t => (e.1, sw x.rise fall) :: t | [] => [],
               pulsed := match x.pulsed with | e :: t => (e.1, x.start + (fall : Int)) :: t | [] => [] }
    else
      let rise := m - on / 2
      let fall := m + (on - on / 2)
      { x with dutyNow := duty, onS := on, onM := on, rise := rise, fall := fall, shift := x.app 1,
               swing := ((q.pos : Int), sw rise fall) :: x.swing,
               pulsed := (x.start + (rise : Int), x.start + (fall : Int)) :: x.pulsed }

/-- One update point of a generating port, `held` whether truncation holds at the rail (R116, R131, R142, R170). Between the S of ON and the
first period start a middle applies values and drives nothing. -/
def State.updatePoint (s : State) (p : Nat) (q : Point) (held : Bool) : State :=
  let s := s.envSettle p (q.pos / unitsPerCycle)
  let s := if q.mid then s else s.periodStart p held q.pos
  let s := s.modPort p fun x => x.pass q
  if s.pstate p = 2 then s.dropOut p q.pos
  else
    let s := if q.mid then s else s.countPort p 0x20 1
    let s := s.countPort p 0x21 1
    if (s.port p).trunc then s
    else
      let s := (s.relimitDuty p).takeOut p 0 q.pos |>.1
      let s := if q.mid then s else (s.takeOut p 1 q.pos).1
      if (s.port p).firstStart then s
      else
        let s := s.genUpdate p q
        s.traceCap (p / 16) [5] (p % 16) true fun _ _ => BitVec.ofNat 24 (min 0xFFFFFF (if q.mid then (s.port p).onM else (s.port p).onS))

/-! ### Gate levels before inversion, and the pins (R128, R130, R131, R142, R145, R146, R168 to R170, R225) -/

/-- Is `pos` within the nominal pulse of the running period, from `late` units after its rise? -/
def PortSt.inPulse (x : PortSt) (late : Nat) (pos : Int) : Bool :=
  let u := pos - x.start
  decide (x.rise + late < x.fall) && decide ((x.rise + late : Nat) ≤ u) && decide (u < x.fall)

/-- Is `pos` within an all-fire pulse? -/
def PortSt.inFire (x : PortSt) (pos : Int) : Bool :=
  match x.fire with | some f => decide (f.2.1 ≤ pos) && decide (pos < f.2.2) | none => false

/-- The comparator or the fault input holds both gates inactive. -/
def PortSt.stopped (x : PortSt) : Bool := x.ocHold || x.drvHold

/-- Is GA active `pos` units after S? In ON the pulse after the dead time of COMP, or an all-fire pulse, unless something holds the gates;
else the level that stands (R142, R146, R148, R168, R169). -/
def State.gaActive (s : State) (p : Nat) (pos : Int) : Bool :=
  let x := s.port p
  !x.stopped &&
    (if s.pulses p ∧ s.pstate p = 1 then !x.trunc && !x.firstStart && (x.inFire pos || x.inPulse (s.deadTime p) pos) else x.ga)

/-- GB of a pulsing port in ON (R142, R168, R169): in COMP inactive from rise to DT after fall and around an all-fire pulse, and active DT
after truncation; in PSP the pulse delayed by SHIFT. -/
def State.gbPulse (s : State) (p : Nat) (pos : Int) : Bool :=
  let x := s.port p
  let dt := s.deadTime p
  match s.pwmMode p with
  | 0 =>
    if x.trunc then decide (x.truncAt + dt ≤ pos) || (decide (x.tail ≤ pos) && !(decide (x.rise < x.fall) &&
      decide (x.start + x.rise ≤ pos) && decide (pos < x.start + x.fall + dt)))
    else
      let fire := match x.fire with | some f => decide (f.1 ≤ pos) && decide (pos < f.2.2 + dt) | none => false
      !fire && decide (x.tail ≤ pos) && !(decide (x.rise < x.fall) && decide (x.start + x.rise ≤ pos) && decide (pos < x.start + x.fall + dt))
  | 2 =>
    let per : Int := max 1 x.gen.per
    let u := pos - x.start
    !x.trunc && decide (0 ≤ u) && decide (u < per) && x.inPulse 0 (x.start + (u - s.shiftUnits p) % per)
  | _ => false

/-- Steps of 512 that a gate reference is active: none at 0 or less, all at full scale (R145; log entry 97). -/
def trainSteps (g : Int) : Nat := if g ≤ 0 then 0 else if 0x7FFFFF ≤ g then 512 else min 511 (roundOff g 14 .halfEven).toNat

/-- GB of a fuse or OR-ing port: a pulse train of 40 ns of its reference, full scale in a closed safe action (R145, R225). -/
def State.gbTrain (s : State) (p : Nat) (pos : Int) : Bool :=
  decide (pos % 512 < (trainSteps (if s.pstate p = 2 then (if (s.port p).gb then 0x7FFFFF else 0) else (s.fuse p).gb) : Nat))

/-- Is GB active `pos` units after S? An output that the personality does not use is inactive (R130). -/
def State.gbActive (s : State) (p : Nat) (pos : Int) : Bool :=
  let x := s.port p
  !x.stopped &&
    (if s.pers p = 1 ∨ s.pers p = 2 then s.gbTrain p pos
     else s.pstate p == 1 && s.pulses p && !x.firstStart && s.gbPulse p pos)

/-- The levels of the pins SPn_GA and SPn_GB: POLA and POLB invert them (R128, R142). -/
def State.pinGA (s : State) (p : Nat) (pos : Int) : Bool := s.gaActive p pos != s.flag (STG_PWM p) STG_PWM_POLA
def State.pinGB (s : State) (p : Nat) (pos : Int) : Bool := s.gbActive p pos != s.flag (STG_PWM p) STG_PWM_POLB

/-- Is the fast comparator blanked `pos` units after S: a rising edge of GA or GB came less than BLANK × 10 ns before? The edges of the
reference train on GB do not count (R146, log entry 97). -/
def State.blanked (s : State) (p pos : Nat) : Bool :=
  let blank := s.getF (STG_CMP p) STG_CMP_BLANK * 128
  let x := s.port p
  let live := if s.pulses p && s.pstate p == 1 && !x.stopped && !x.trunc then s.pulseEdges p else []
  let fire : List Int := match x.fire with | some f => [f.2.1, f.2.2 + s.deadTime p] | none => []
  (live ++ fire ++ x.edges).any fun e => decide (e ≤ pos) && decide ((pos : Int) < e + blank)

/-! ### The fault input (R148) and the comparators' shared effects (R146, R147) -/

/-- FLT_N held low for 20 ns: gates inactive, DRV_FLT, the source once a tick (R148, R153). -/
def State.driverFault (s : State) (p cyc : Nat) : State :=
  if s.pers p = 4 then s
  else
    let first := !(s.port p).drvSeen
    let s := s.setF (STG_STAT p) STG_STAT_DRV_FLT 1
    let s := s.modFuse p fun x => { x with gb := 0 }
    let s := s.modPort p fun x => { x with fltLow := true, drvHold := true, drvSeen := true, ga := false, gb := false }
    if first then s.raise (portSrc p STG_DRV_FLT) p cyc else s

/-- DRIVER_FAULT_RELEASE (R148): FLT_N returns high and DRV_FLT clears; the gates stay inactive until the next period
start, or until an OUT above 0 in the fuse and OR-ing personalities. -/
def execDriverFaultRelease (p : Nat) (s : State) : Host.Outcome State Fault Refusal :=
  .next (
    if s.pers p = 4 then s
    else (s.setF (STG_STAT p) STG_STAT_DRV_FLT 0).modPort p fun x => { x with fltLow := false })

/-- Each tick with FLT_N low raises STG_DRV_FLT (R153). -/
def State.driverFaultTick (s : State) (p : Nat) : State :=
  if (s.port p).fltLow ∧ s.pers p ≠ 4 then
    (s.raise (portSrc p STG_DRV_FLT) p 0).modPort p fun x => { x with drvSeen := true }
  else s

/-- The fast comparator fires: gates inactive; in phase, battery and fan for the rest of the period; in fuse and OR-ing
OC_LATCH holds GA; OC_SEEN, and the source and the count once a tick (R146, R153); in the fuse personality a trip raises the source (R197). -/
def State.ocFire (s : State) (p cyc : Nat) : State :=
  let first := !(s.port p).ocFired
  let latch := s.pers p == 1 || s.pers p == 2
  let s := s.setF (STG_STAT p) STG_STAT_OC_SEEN 1
  let s := if latch then s.setF (STG_STAT p) STG_STAT_OC_LATCH 1 else s
  let s := if latch then s.modFuse p fun x => { x with gb := 0 } else s
  let s := s.modPort p fun x => { x with ocFired := true, ga := false, gb := false, ocHold := !latch, fire := none }
  if first then
    let s := s.bump (STG_OC_CNT p)
    if s.pers p = 1 then s else s.raise (portSrc p STG_OC_TRIP) p cyc
  else s

/-- A fast limit as the comparator's threshold: truncated to a multiple of 2^−9 (R146). -/
def cmpThreshold (w : Word) : Nat := w.toNat / 2 ^ 14 * 2 ^ 14

/-- Does the fast comparator of a port fire at current `i`, in unit format (R146)? Until it has taken a tightened limit, whether it
acts at the old one or the new one is open: a free value; what it has taken it keeps (R222, log entry 76). -/
def State.ocCrosses (s : State) (p : Nat) (i : Int) (cyc : Nat) : Bool × State :=
  let past (w : Word) : Bool := decide (cmpThreshold w < i.natAbs)
  let left := (s.port p).cmpOld.filter fun o => decide (cyc < o.2)
  let s := if left = (s.port p).cmpOld then s else s.modPort p fun x => { x with cmpOld := left }
  let act := left.dropWhile fun o => !past o.1
  if act.length = left.length ∨ !past (s.rd (ENV_FAST p)) then (past ((left.map (·.1)).headD (s.rd (ENV_FAST p))), s)
  else
    let f := s.takeBool
    (f.1, if f.1 then f.2.modPort p fun x => { x with cmpOld := act } else f.2)

/-- The reverse-current comparator fires in fuse and OR-ing: GA inactive, RC_LATCH, the source and the count (R147). -/
def State.rcFire (s : State) (p cyc : Nat) : State :=
  if s.pers p = 1 ∨ s.pers p = 2 then
    let s := s.setF (STG_STAT p) STG_STAT_RC_LATCH 1
    let s := s.modPort p fun x => { x with rcFired := true, rcActive := true, ga := false }
    ((s.bump (STG_RC_CNT p)).countPort p 0x23 1).raise (portSrc p STG_RC_TRIP) p cyc
  else s

/-- An OUT GATE or GREF above 0 is applied: the latches clear while the reverse comparator is inactive and FLT_N is high
(R146 to R148). -/
def State.clearLatches (s : State) (p : Nat) : State :=
  let x := s.port p
  if x.rcActive then s
  else
    let s := (s.setF (STG_STAT p) STG_STAT_OC_LATCH 0).setF (STG_STAT p) STG_STAT_RC_LATCH 0
    if x.fltLow then s else s.modPort p fun x => { x with drvHold := false }

/-! ### Fans (R150 to R152) -/

/-- TACH_EDGE (R151, R152): an accepted falling edge `per` × 100 ns after the one before; the first after standstill only
starts a period. -/
def execTachEdge (p per : Nat) (s : State) : Host.Outcome State Fault Refusal :=
  .next (
    if s.pers p ≠ 4 then s
    else if !(s.port p).tachRun then s.modPort p fun x => { x with tachRun := true }
    else if per = 0 then s
    else
      let rpm := 600000000 / (per * (s.getF (FAN_CTL p) FAN_CTL_PPR + 1))
      let fs := (s.rd (FAN_FS p)).toNat
      let t := if fs = 0 then (if rpm = 0 then 0 else 0x7FFFFF) else min (rpm * 2 ^ 23 / fs) 0x7FFFFF
      let s := (s.wr (FAN_PER p) (BitVec.ofNat 24 (min per 0xFFFFFF))).wr (FAN_SPD p) (BitVec.ofNat 24 (min rpm 0xFFFFFF))
      s.modPort p fun x => { x with smpT := BitVec.ofNat 24 t })

/-- FAN_STANDSTILL (R152): 1 s without an accepted edge: speed, period and smp_t read 0. -/
def execFanStandstill (p : Nat) (s : State) : Host.Outcome State Fault Refusal :=
  .next (
    if s.pers p ≠ 4 then s
    else ((s.wr (FAN_SPD p) 0).wr (FAN_PER p) 0).modPort p fun x => { x with tachRun := false, smpT := 0 })

/-- FAN_STALL_CHECK (R152): a duty above 0 has been applied for 1 s and the speed reads 0. -/
def execFanStallCheck (p cyc : Nat) (s : State) : Host.Outcome State Fault Refusal :=
  .next (
    if s.pers p = 4 ∧ s.pstate p = 1 ∧ 0 < ((s.port p).app 0).toInt ∧ s.rd (FAN_SPD p) = 0 then
      s.raise (portSrc p FAN_STALL) p cyc
    else s)

/-! ### Sync mode (R144) -/

/-- Are two intervals within 1 % of one another? -/
def within1 (a b : Nat) : Bool := decide (((a : Int) - b).natAbs * 100 ≤ b)

/-- The run of consecutive intervals within 1 % of one another goes on with one of `gap` units, or starts with it (R144). -/
def PwmSync.follow (y : PwmSync) (gap : Nat) : PwmSync :=
  let lo := min y.lo gap
  let hi := max y.hi gap
  if y.good ≠ 0 ∧ within1 hi lo then { y with good := y.good + 1, lo := lo, hi := hi } else { y with good := 1, lo := gap, hi := gap }

/-- A sync-mode generator times a SYNC_IN edge, `pos` units after S and `gap` units after the one before (R144). An interval within 1 % of
the last accepted one is accepted; after holdover, the first one after 16 edges within 1 % of one another. An accepted edge begins a block. -/
def State.pwmEdge (s : State) (pos gap p : Nat) : State :=
  if !s.flag (STG_PWM p) STG_PWM_SYNC then s
  else
    let y := (s.port p).sync.follow gap
    let hold := s.flag (STG_STAT p) STG_STAT_SYNC_HOLD
    if (if hold then decide (16 < y.good) else y.acc == 0 || within1 gap y.acc) then
      let s := if hold then s.setF (STG_STAT p) STG_STAT_SYNC_HOLD 0 else s
      (s.modPort p fun x => { x with sync := { y with acc := gap, bad := 0, at_ := pos } }).genEdge p pos gap
    else s.modPort p fun x => { x with sync := { y with bad := y.bad + 1 } }

/-- SYNC_IN_EDGE (R39, R40, R144): a rising edge `pos` units after S and `gap` units after the edge before it: it is
measured for the tick's lock and by every sync-mode generator. -/
def execSyncInEdge (pos gap : Nat) (s : State) : Host.Outcome State Fault Refusal :=
  .next (forEach 128 (fun p s => s.pwmEdge pos gap p) (s.syncLock pos gap))

/-- Four consecutive edges were not accepted or are missing: four intervals have passed since the last accepted one (R144). -/
def State.syncLost (s : State) (p cyc : Nat) : Bool :=
  let y := (s.port p).sync
  decide (4 ≤ y.bad) || decide (((4 * y.acc : Nat) : Int) ≤ (cyc * unitsPerCycle : Nat) - y.at_)

/-- PWM_SYNC_HOLDOVER (R144): after four consecutive unaccepted or missing edges the sync-mode generator of port `p`
enters holdover at the last accepted interval. -/
def execPwmSyncHoldover (p cyc : Nat) (s : State) : Host.Outcome State Fault Refusal :=
  .next (
    if s.flag (STG_PWM p) STG_PWM_SYNC ∧ !s.flag (STG_STAT p) STG_STAT_SYNC_HOLD ∧ s.syncLost p cyc then
      let s := (s.setF (STG_STAT p) STG_STAT_SYNC_HOLD 1).raise (portSrc p STG_PWM_SYNC_LOST) p cyc
      s.modPort p fun x => { x with sync := { x.sync with good := 0, lo := 0, hi := 0 } }
    else s)

end Sys2Proof.Machine
end

