-- ==== Sys2Proof/Machine/Fuse.lean ====
section
/-! DEFINITION. Fuse units and OR-ing units: the gate request, inrush, the trip curve, retries and toggles, ideal-diode
OR-ing (R181 to R194, R282, R283). -/

namespace Sys2Proof.Machine

/-- The state of a fuse unit (R182): 0 OFF, 1 INRUSH, 2 ON, 3 WAIT, 4 LATCHED. -/
def State.fusSt (s : State) (p : Nat) : Nat := s.getF (FUS_STAT p) FUS_STAT_STATE
def State.setFus (s : State) (p st : Nat) : State := s.setF (FUS_STAT p) FUS_STAT_STATE st

/-- The request of a port (R181). -/
def State.request (s : State) (p : Nat) : Bool := decide (0 < ((s.port p).app 3).toInt)

/-- Is the port shed (R282)? -/
def State.isShed (s : State) (p : Nat) : Bool := s.flag (CAP_PORT p) CAP_PORT_SHED

/-- The accumulator takes a value, and FUS_ACC shows it (R186). -/
def State.setU (s : State) (p u : Nat) : State :=
  (s.modFuse p fun x => { x with u := u }).wr (FUS_ACC p) (BitVec.ofNat 24 (min (u / 2 ^ 16) 0xFFFFFF))

/-- The unit enters OFF (R182). -/
def State.fuseOff (s : State) (p : Nat) (shed : Bool) : State :=
  let s := ((s.setFus p 0).setF (FUS_STAT p) FUS_STAT_RETRY 0).setF (FUS_STAT p) FUS_STAT_HELD 0
  s.modFuse p fun x => { x with gref := 0, shedOff := shed, trips := [], fresh := false }

/-- The unit enters WAIT, for an attempt that is a retry or not, held or not (R188, R191). -/
def State.fuseWait (s : State) (p : Nat) (retry held : Bool) : State :=
  let s := ((s.setFus p 3).setF (FUS_STAT p) FUS_STAT_RETRY 0).setF (FUS_STAT p) FUS_STAT_HELD (b2n held)
  s.modFuse p fun x => { x with gref := 0, isRetry := retry, trips := [], fresh := false }

/-- The unit enters INRUSH at FUS_GREF0 (R183, R188). -/
def State.fuseInrush (s : State) (p : Nat) (retry : Bool) : State :=
  let s := ((s.setFus p 1).setF (FUS_STAT p) FUS_STAT_RETRY (b2n retry)).setF (FUS_STAT p) FUS_STAT_HELD 0
  s.modFuse p fun x => { x with gref := (s.rd (FUS_GREF0 p)).toInt, shedOff := false, trips := [], fresh := true }

/-- The attempt after a toggle: at once, or held in WAIT while the off-time runs (R190, R191). -/
def State.fuseAttempt (s : State) (p cyc : Nat) : State :=
  if (s.fuse p).offRuns then (s.fuseWait p false true).raise (portSrc p FUS_TOGGLE_HELD) p cyc else s.fuseInrush p false

/-- A toggle (R190, R191): RCNT and U clear, and a unit that is not in OFF makes an attempt that is no retry (log entry 26). -/
def State.fuseToggle (s : State) (p cyc : Nat) : State :=
  let s := (s.setF (FUS_STAT p) FUS_STAT_RCNT 0).setU p 0
  if s.fusSt p = 0 then s
  else if s.isShed p then s.fuseOff p true
  else s.fuseAttempt p cyc

/-- The cause that a grid point takes: the first of FAST, DRV, CURVE and INRUSH (R187), by FUS_STAT.CAUSE. -/
def tripCause (l : List Nat) : Option Nat := [1, 5, 2, 3].find? fun c => l.contains c

/-- A trip or a failed retry with a cause (R187 to R189, R197). -/
def State.fuseFail (s : State) (p cause cyc : Nat) : State :=
  let retry := s.fusSt p == 1 && s.flag (FUS_STAT p) FUS_STAT_RETRY
  let s := s.setF (FUS_STAT p) FUS_STAT_CAUSE cause
  let s := if cause = 4 then s else s.bump (FUS_TRIP_CNT p)
  let s := if cause = 4 ∨ cause = 1 then s else s.raise (portSrc p FUS_TRIP) p cyc
  let s := if retry then
      (s.setF (FUS_STAT p) FUS_STAT_RCNT (min 15 (s.getF (FUS_STAT p) FUS_STAT_RCNT + 1))).raise (portSrc p FUS_RETRY_FAIL) p cyc
    else s
  let s := s.modFuse p fun x => { x with offRuns := true }
  if s.getF (FUS_RETRY p) FUS_RETRY_COUNT ≤ s.getF (FUS_STAT p) FUS_STAT_RCNT then
    (s.fuseWait p false false).setFus p 4 |>.raise (portSrc p FUS_LATCHED) p cyc
  else s.fuseWait p true false

/-- A trip arises: the next grid point takes it, in INRUSH and ON of a port that is ON (R182, R187). -/
def State.tripArises (s : State) (p cause : Nat) : State :=
  if s.pers p = 1 ∧ s.pstate p = 1 ∧ (s.fusSt p = 1 ∨ s.fusSt p = 2) then
    s.modFuse p fun x => { x with trips := x.trips ++ [cause] }
  else s

/-! ### Grid points (R145, R181 to R184, R192 to R194) -/

/-- Codes that take part in a mean: those since the grid point before, but not those R138 excludes. The last of the list
is the latest at or before lane cycle `cyc`; those of a grid point at S were taken in the tick that ends there. -/
def State.gridKept (s : State) (p cyc : Nat) (openEn : Fld) (l : List Int) : List Int :=
  let k := if cyc = 0 then (s.mer.count + 2 ^ 48 - 1) % 2 ^ 48 else s.mer.count
  let excl := s.flag (STG_SNS p) openEn && pulseTick k (p % 16) (s.getF (STG_SNS p) STG_SNS_OPEN_INT)
  let j0 := if cyc = 0 then 0 else (s.period - cyc + 79) / 80
  if excl then
    (l.zipIdx).filterMap fun x => let j := j0 + (l.length - 1 - x.2); if 3 ≤ j ∧ j ≤ 12 then none else some x.1
  else l

/-- The mean of calibrated codes, rounded half_even; a free value where none takes part (log entry 27). -/
def State.gridMean (s : State) (l : List Int) : Int × State :=
  if l.isEmpty then let f := s.takeWord; (f.1.toInt, f.2) else (roundq (l.foldl (· + ·) 0) l.length, s)

/-- The means i_m and v_m of a grid point (R183). -/
def State.gridMeans (s : State) (p cyc : Nat) (conv : PortConv) : (Int × Int) × State :=
  let i := s.gridMean ((s.gridKept p cyc STG_SNS_OPEN_EN_I conv.i).map (s.calI p))
  let v := i.2.gridMean ((s.gridKept p cyc STG_SNS_OPEN_EN_V (conv.v.map Int.ofNat)).map fun c => s.calV p c.toNat)
  ((i.1, v.1), v.2)

/-- The OUT values due at a grid point are applied, GATE and GREF; one above 0 clears the latches. In SAFE, and while the
reverse-current comparator's output is active, they have no effect (R115, R145 to R148, R181). -/
def State.gridOut (s : State) (p pos : Nat) : State :=
  let s := s.envSettle p (pos / unitsPerCycle)
  if s.pstate p = 0 then s
  else if s.pstate p = 2 ∨ (s.port p).rcActive then s.dropOut p pos
  else
    let a := s.takeOut p 3 pos
    let b := a.1.takeOut p 2 pos
    let s := b.1
    if (a.2 && decide (0 < ((s.port p).app 3).toInt)) || (b.2 && decide (0 < ((s.port p).app 2).toInt)) then s.clearLatches p else s

/-- The reverse-current comparator's output follows the latest raw current (R147). -/
def State.rcFollow (s : State) (p : Nat) (conv : PortConv) : State :=
  match conv.i.getLast? with
  | some c => s.modPort p fun x => { x with rcActive := decide (c < -((s.getF (STG_CMP p) STG_CMP_RC_THR : Nat) : Int)) }
  | none => s

/-- The pins of a port that is ON, at lane cycle `cyc`: GA where the unit allows conduction and nothing holds it, GB the smaller of the
lane ceiling and the unit's reference, 0 while the fault input holds it (R148, R181). In SAFE the safe action stands (R225). A rise of GA
starts the fast comparator's blanking (R146). -/
def State.gridPins (s : State) (p cyc : Nat) (conduct : Bool) : State :=
  let hold := s.gaHeld p
  let s := if s.pstate p = 1 then
      s.modPort p fun x => { x with ga := conduct && !hold,
                                    edges := if conduct && !hold && !x.ga then [((cyc * unitsPerCycle : Nat) : Int)] else x.edges }
    else if hold then s.modPort p fun x => { x with ga := false } else s
  let c := if (s.port p).drvHold then 0 else min ((s.port p).app 2).toInt (s.fuse p).gref
  s.modFuse p fun x => { x with gb := if s.pstate p = 1 then c else x.gb }

/-- One grid point of INRUSH (R183, R184): the end condition, else the constant-power law moves the reference. -/
def State.inrushStep (s : State) (p : Nat) (im vm : Int) : State :=
  let x := s.fuse p
  let s := s.modFuse p fun x => { x with v0 := if x.fresh then vm else x.v0, fresh := false }
  if vm ≤ (s.rd (FUS_VDS_ON p)).toInt then
    let s := (s.setFus p 2).setF (FUS_STAT p) FUS_STAT_RETRY 0
    s.modFuse p fun x => { x with gref := 0x7FFFFF }
  else if !s.flag (FUS_CTL p) FUS_CTL_INR_EN then s.modFuse p fun x => { x with gref := 0x7FFFFF }
  else
    let iinr := (s.rd (FUS_IINR p)).toInt
    let tgt := if vm ≤ 0 then iinr else min iinr ((s.rd (FUS_PLIM p)).toInt * 2 ^ 23 / vm)
    let d := roundOff ((s.rd (FUS_KG p)).toInt * (tgt - im)) 16 .halfEven
    s.modFuse p fun x => { x with gref := clampI 0 0x7FFFFF (x.gref + d) }

/-- A unit in OFF while its request is on: shed, it stays; restored from a shed step it makes an attempt that is no
toggle; otherwise the attempt is that of a toggle (R182, R190, R191, R282). -/
def State.fuseFromOff (s : State) (p cyc : Nat) : State :=
  let x := s.fuse p
  if s.isShed p then
    if x.shedOff then s
    else ((s.setF (FUS_STAT p) FUS_STAT_RCNT 0).setU p 0).modFuse p fun x => { x with shedOff := true }
  else if x.shedOff then
    let retry := decide (0 < s.getF (FUS_STAT p) FUS_STAT_RCNT)
    if x.offRuns then s.fuseWait p retry false else (s.setU p 0).fuseInrush p retry
  else ((s.setF (FUS_STAT p) FUS_STAT_RCNT 0).setU p 0).fuseAttempt p cyc

/-- The trips that have arisen since the last grid point are recorded, in INRUSH and ON (R187). -/
def State.takeTrips (s : State) (p cyc : Nat) : State :=
  match tripCause (s.fuse p).trips with
  | some c => if s.fusSt p = 1 ∨ s.fusSt p = 2 then s.fuseFail p c cyc else s
  | none => s

/-- The moves of the unit of a port that is ON, at a grid point. `relatched`: RC_LATCH has cleared at it (R182). -/
def State.fuseMoves (s : State) (p cyc : Nat) (im vm : Int) (relatched : Bool) : State :=
  let s := s.takeTrips p cyc
  if !s.request p then
    let s := if s.fusSt p = 0 then s else s.fuseOff p false
    s.modFuse p fun x => { x with toggle := false, shedOff := false }
  else
    let s := if (s.fuse p).toggle then (s.fuseToggle p cyc).modFuse p fun x => { x with toggle := false } else s
    let s :=
      if s.fusSt p = 0 then s.fuseFromOff p cyc
      else if s.fusSt p = 3 ∧ !(s.fuse p).offRuns then
        if s.isShed p then s.fuseOff p true else s.fuseInrush p (s.fuse p).isRetry
      else if (s.fusSt p = 1 ∨ s.fusSt p = 2) ∧ relatched then s.fuseInrush p false
      else s
    if s.fusSt p = 1 then s.inrushStep p im vm else s

/-- FUSE_GRID_POINT (R145, R181 to R189): a 1 MHz grid point of a fuse port at lane cycle `cyc`, with the raw conversions
since the grid point before. -/
def execFuseGridPoint (p cyc : Nat) (conv : PortConv) (s : State) : Host.Outcome State Fault Refusal :=
  .next (
    if s.pers p ≠ 1 ∨ s.tileDown (p / 16) then s
    else
      let m := s.gridMeans p cyc conv
      let s := m.2.rcFollow p conv
      let was := s.flag (STG_STAT p) STG_STAT_RC_LATCH
      let s := s.gridOut p (cyc * unitsPerCycle)
      let re := was && !s.flag (STG_STAT p) STG_STAT_RC_LATCH
      let s := s.modFuse p fun x => { x with vm := m.1.2 }
      let s := if s.pstate p = 1 then s.fuseMoves p cyc m.1.1 m.1.2 re
        else if s.pstate p = 0 ∧ s.fusSt p ≠ 0 then (s.takeTrips p cyc).fuseOff p false else s
      s.gridPins p cyc (s.fusSt p == 1 || s.fusSt p == 2))

/-- FUSE_INRUSH_TIMEOUT (R184): FUS_TINR has run from the entry to INRUSH: a trip with cause INRUSH. -/
def execFuseInrushTimeout (p cyc : Nat) (s : State) : Host.Outcome State Fault Refusal :=
  .next (
    if s.pers p = 1 ∧ s.pstate p = 1 ∧ s.fusSt p = 1 then
      let c := (tripCause ((s.fuse p).trips ++ [3])).getD 3
      (s.fuseFail p c cyc).gridPins p cyc false
    else s)

/-- FUSE_RETRY_PROGRESS_CHECK (R188): at TON after a retry's entry v_m above 7/8 of its first value fails the retry. -/
def execFuseRetryProgressCheck (p cyc : Nat) (s : State) : Host.Outcome State Fault Refusal :=
  .next (
    if s.pers p = 1 ∧ s.pstate p = 1 ∧ s.fusSt p = 1 ∧ s.flag (FUS_STAT p) FUS_STAT_RETRY
        ∧ 7 * (s.fuse p).v0 < 8 * (s.fuse p).vm then
      (s.fuseFail p 4 cyc).gridPins p cyc false
    else s)

/-- FUSE_OFFTIME_EXPIRE (R188, R191, R282): the off-time since the last trip or failed retry has run: the unit in WAIT
makes its attempt, or enters OFF while it is shed. In SAFE the unit holds its state (R182). -/
def execFuseOfftimeExpire (p : Nat) (s : State) : Host.Outcome State Fault Refusal :=
  .next (
    let s := s.modFuse p fun x => { x with offRuns := false }
    if s.pers p = 1 ∧ s.pstate p = 1 ∧ s.fusSt p = 3 then
      if s.isShed p then s.fuseOff p true else s.fuseInrush p (s.fuse p).isRetry
    else s)

/-- FUSE_CLEAN_EXPIRE (R189): the port has stayed in ON without a trip for CLEAN × 10 s: RCNT returns to 0. -/
def execFuseCleanExpire (p : Nat) (s : State) : Host.Outcome State Fault Refusal :=
  .next (if s.pers p = 1 ∧ s.fusSt p = 2 then s.setF (FUS_STAT p) FUS_STAT_RCNT 0 else s)

/-- A write of 1 to FUS_CMD.CLEAR is a toggle (R190). While the port is not ON there is no attempt to make: RCNT and U
clear, and a unit in SAFE holds its state (R182). -/
def State.fuseClear (s : State) (p cyc : Nat) : State :=
  if s.pers p ≠ 1 then s
  else if s.pstate p = 1 then s.fuseToggle p cyc
  else (s.setF (FUS_STAT p) FUS_STAT_RCNT 0).setU p 0

/-- ORING_GRID_POINT (R192 to R194): a grid point of an OR-ing port at lane cycle `cyc`, with the raw conversions since
the grid point before. -/
def execOringGridPoint (p cyc : Nat) (conv : PortConv) (s : State) : Host.Outcome State Fault Refusal :=
  .next (
    if s.pers p ≠ 2 ∨ s.tileDown (p / 16) then s
    else
      let m := s.gridMean (conv.v.map fun c => s.calV p c)
      let vf := m.1
      let s := (m.2.rcFollow p conv).gridOut p (cyc * unitsPerCycle)
      let st := s.getF (ORG_STAT p) ORG_STAT_STATE
      let put (s : State) (k : Nat) (g : Int) : State :=
        (s.setF (ORG_STAT p) ORG_STAT_STATE k).modFuse p fun x => { x with gref := g }
      let s :=
        if s.pstate p ≠ 1 ∨ !s.request p then put s 0 0
        else if st = 2 then
          if vf ≤ -(s.rd (ORG_VOFF p)).toInt then
            ((put s 1 0).setF (ORG_STAT p) ORG_STAT_SLOW_SEEN 1).raise (portSrc p ORG_SLOW_OFF) p cyc
          else if s.flag (ORG_CTL p) ORG_CTL_REG then
            let d := roundOff ((s.rd (ORG_KG p)).toInt * (vf - (s.rd (ORG_VREG p)).toInt)) 16 .halfEven
            put s 2 (clampI (s.rd (ORG_GMIN p)).toInt 0x7FFFFF ((s.fuse p).gref + d))
          else put s 2 0x7FFFFF
        else if st = 1 ∧ (s.rd (ORG_VON p)).toInt ≤ vf ∧ !s.gaHeld p then put s 2 0x7FFFFF
        else put s 1 0
      s.gridPins p cyc (s.getF (ORG_STAT p) ORG_STAT_STATE == 2))

/-! ### The comparators and the fault input (R146 to R148, R187, R194) -/

/-- OC_COMPARATOR_FIRE (R146, R187): outside its blanking, the current `i` at port `p` is above the fast comparator's threshold, which
fires; in a fuse port that conducts, it is a trip with cause FAST, which raises STG_OC_TRIP (R197). -/
def execOcComparatorFire (p : Nat) (i : Int) (cyc : Nat) (s : State) : Host.Outcome State Fault Refusal :=
  .next (
    if s.blanked p (cyc * unitsPerCycle) then s
    else
    let f := s.ocCrosses p i cyc
    let s := f.2
    if !f.1 then s
    else
    let trips := s.pers p = 1 ∧ s.pstate p = 1 ∧ (s.fusSt p = 1 ∨ s.fusSt p = 2) ∧ !(s.fuse p).trips.contains 1
    let s := s.ocFire p cyc
    if trips then (s.tripArises p 1).raise (portSrc p STG_OC_TRIP) p cyc else s)

/-- RC_COMPARATOR_FIRE (R147, R194): the current at port `p`, `raw` in raw current LSB, is below −RC_THR: the reverse-current comparator
fires; an OR-ing unit in CONDUCT enters DIODE. -/
def execRcComparatorFire (p : Nat) (raw : Int) (cyc : Nat) (s : State) : Host.Outcome State Fault Refusal :=
  .next (
    if -((s.getF (STG_CMP p) STG_CMP_RC_THR : Nat) : Int) ≤ raw then s
    else
    let s := s.rcFire p cyc
    if s.pers p = 2 ∧ s.getF (ORG_STAT p) ORG_STAT_STATE = 2 then
      (s.setF (ORG_STAT p) ORG_STAT_STATE 1).modFuse p fun x => { x with gref := 0, gb := 0 }
    else s)

/-- DRIVER_FAULT_INPUT (R148, R187): SPn_FLT_N has been low for 20 ns; in a fuse port it is a trip with cause DRV. -/
def execDriverFaultInput (p cyc : Nat) (s : State) : Host.Outcome State Fault Refusal :=
  .next ((s.driverFault p cyc).tripArises p 5)

/-! ### Each tick (R185, R186, R190) -/

/-- The curve as the registers hold it, its currents scaled by the margin atlas (R391). -/
def State.curvePoints (s : State) (p : Nat) : List (Int × Nat) :=
  (List.range 8).map fun j => ((s.rd (FUS_TC_I p j)).toInt * s.derate p / 2 ^ 23, (s.rd (FUS_TC_T p j)).toNat)

/-- Is a curve valid: currents ascending, times descending, the last at least 1 (R185)? -/
def curveOk : List (Int × Nat) → Bool
  | [] => true
  | [a] => decide (1 ≤ a.2)
  | a :: b :: t => decide (a.1 < b.1) && decide (b.2 < a.2) && curveOk (b :: t)

/-- e as a fraction, numerator and denominator, at a current at or above the first point (R186). -/
def curveE (i : Int) : List (Int × Nat) → Int × Int
  | [] => (0, 1)
  | [a] => (a.1 * a.1 * a.2, 1)
  | a :: b :: t =>
    if i < b.1 then
      let ea := a.1 * a.1 * a.2
      let eb := b.1 * b.1 * b.2
      (ea * (b.1 - a.1) + (eb - ea) * (i - a.1), b.1 - a.1)
    else curveE i (b :: t)

/-- U after a tick of n lane cycles at a current (R186), before it saturates; `f` is the sum where e is 0, which the
spec leaves open (log entry 28). -/
def accumulate (u n cool : Nat) (i : Int) (c : List (Int × Nat)) (f : Nat) : Nat :=
  if i < (c.headD (0, 0)).1 then u - u / 2 ^ cool
  else
    let e := curveE i c
    if e.1 ≤ 0 then f else u + (2 ^ 40 * n * i * i * e.2 / (8000 * e.1)).toNat

/-- The fuse unit of a port at S: the curve's check and the accumulator (R185, R186). -/
def State.fuseTick (s : State) (p : Nat) : State :=
  if s.pers p ≠ 1 then s
  else
    let pts := s.curvePoints p
    let ok := curveOk pts
    let s := if ok then s.modFuse p fun x => { x with curve := some pts } else s
    if !s.flag (FUS_CTL p) FUS_CTL_CURVE_EN then s.setU p 0
    else
      let s := if ok then s else s.raise (portSrc p FUS_CURVE_ORDER) p 0
      match (s.fuse p).curve with
      | none => s
      | some c =>
        let i : Int := (s.port p).smpI.toInt.natAbs
        let open_ := decide ((c.headD (0, 0)).1 ≤ i) && decide ((curveE i c).1 ≤ 0)
        let f := if open_ then s.takeWord else (0, s)
        let u := min (2 ^ 40) (accumulate (s.fuse p).u s.mer.tickN (s.getF (FUS_CTL p) FUS_CTL_COOL) i c ((s.fuse p).u + f.1.toNat))
        let s := f.2.setU p u
        if 2 ^ 40 ≤ u then s.tripArises p 2 else s

/-- What a boundary does to a fuse or OR-ing unit before the writes of EN take effect: EN written 0 and then 1 at a port
that stays enabled is a toggle (R190). -/
def State.fuseBoundary (s : State) (p : Nat) : State :=
  if s.pers p = 1 ∧ (s.port p).enNext = some true ∧ s.pstate p ≠ 0 then s.modFuse p fun x => { x with toggle := true } else s

/-- The units of a port that is OFF are in OFF; a trip that has arisen is recorded (R182, R187, R192). -/
def State.fuseSettle (s : State) (p : Nat) : State :=
  if s.pstate p ≠ 0 then s
  else
    let s := if s.fusSt p = 0 then s else (s.takeTrips p 0).fuseOff p false
    if s.getF (ORG_STAT p) ORG_STAT_STATE = 0 then s
    else (s.setF (ORG_STAT p) ORG_STAT_STATE 0).modFuse p fun x => { x with gref := 0, gb := 0 }

/-- The shed step of a fuse port (R282, R283): in INRUSH or ON the unit enters OFF; in SAFE it enters OFF and the gates
open. -/
def State.fuseShed (s : State) (p : Nat) : State :=
  if s.pers p ≠ 1 then s
  else if s.pstate p = 2 then
    (s.fuseOff p true).modPort p fun x => { x with ga := false, gb := false }
  else if s.fusSt p = 1 ∨ s.fusSt p = 2 then
    (s.fuseOff p true).modPort p fun x => { x with ga := false }
  else s

end Sys2Proof.Machine
end

