-- ==== Sys2Proof/Machine/Crc.lean ====
section
/-! DEFINITION. CRC-32C (R497), and the CRC-8 of the two-wire buses (R325). -/

namespace Sys2Proof.Machine

/-- One bit of the reflected Castagnoli CRC. -/
def crcBit (c : Nat) : Nat := if c % 2 = 1 then (c / 2) ^^^ 0x82F63B78 else c / 2

/-- One byte of the CRC. -/
def crcByte (c b : Nat) : Nat := (List.range 8).foldl (fun c _ => crcBit c) (c ^^^ (b % 256))

/-- CRC-32C of bytes (R497). -/
def crc32c (l : List Nat) : Nat := (l.foldl crcByte 0xFFFFFFFF) ^^^ 0xFFFFFFFF

/-- The bytes of a 24-bit word, most significant first (R497). -/
def wordBytes (w : Word) : List Nat := [w.toNat / 65536, w.toNat / 256 % 256, w.toNat % 256]

/-- CRC-32C of 24-bit words (R497). -/
def crcWords (l : List Word) : Nat := crc32c (l.flatMap wordBytes)

/-- CRC-8 of the packet error check, polynomial x^8 + x^2 + x + 1 (R325, SMBus). -/
def crc8 (l : List Nat) : Nat :=
  l.foldl (fun c b => (List.range 8).foldl (fun c _ => if 128 ≤ c then (2 * c) % 256 ^^^ 7 else 2 * c) (c ^^^ b)) 0

/-- `n` bytes of a number, most significant first. -/
def beBytes : Nat → Nat → List Nat
  | 0, _ => []
  | n + 1, v => v / 256 ^ n % 256 :: beBytes n v

end Sys2Proof.Machine
end

