-- ==== Sys2Proof/Machine/Mram.lean ====
section
/-! DEFINITION. Records that MRAM holds as two alternating copies (R209, R303, R369, R374, R392, R443, R497). -/

namespace Sys2Proof.Machine

/-- A copy with its CRC-32C, as a write leaves it. -/
def sealCopy {α : Type} (words : α → List Word) (v : α) : MramCopy α := ⟨v, BitVec.ofNat 32 (crcWords (words v))⟩

/-- What a copy holds, where its CRC-32C is right. -/
def validCopy {α : Type} (words : α → List Word) (c : Option (MramCopy α)) : Option α :=
  match c with
  | some c => if BitVec.ofNat 32 (crcWords (words c.body)) = c.crc then some c.body else none
  | none => none

/-- The valid copy with the higher sequence number (R209). -/
def MramPair.newest {α : Type} (p : MramPair α) (words : α → List Word) (seq : α → Nat) : Option α :=
  match validCopy words p.a, validCopy words p.b with
  | some a, some b => some (if seq a < seq b then b else a)
  | some a, none => some a
  | none, b => b

/-- The next sequence number: 24 bits (R209). -/
def MramPair.nextSeq {α : Type} (p : MramPair α) (words : α → List Word) (seq : α → Nat) : Nat :=
  match p.newest words seq with
  | some v => (seq v + 1) % 2 ^ 24
  | none => 0

/-- Does a write go to the first copy? To the one that is not valid, else to the older one (R209). -/
def MramPair.onA {α : Type} (p : MramPair α) (words : α → List Word) (seq : α → Nat) : Bool :=
  match validCopy words p.a, validCopy words p.b with
  | some a, some b => decide (seq a < seq b)
  | some _, none => false
  | none, _ => true

/-- The older copy takes a new content, none where its write does not end well. -/
def MramPair.put {α : Type} (p : MramPair α) (words : α → List Word) (seq : α → Nat) (v : Option α) : MramPair α :=
  let c := v.map (sealCopy words)
  if p.onA words seq then { p with a := c } else { p with b := c }

/-! ### The words of each record; their order is given for the boot record alone (log entry 93) -/

/-- The words of a table, each entry its place and its value. -/
def tabWords {α : Type} (t : Tab α) (f : α → List Word) : List Word := t.flatMap fun e => lo24 e.1 :: f e.2

/-- Words of a number of 48 bits. -/
def pairWords (n : Nat) : List Word := [lo24 n, hi24 n]

def optWords {α : Type} (o : Option α) (f : α → List Word) : List Word :=
  match o with
  | some x => 1 :: f x
  | none => [0]

/-- Words 0 to 2 of a boot record copy (R443). -/
def BootRec.words (r : BootRec) : List Word :=
  [lo24 r.seq, BitVec.ofNat 24 (b2n r.trial * 32 + r.tslot * 16 + r.tset * 8 + r.cslot * 2 + r.cset), lo24 r.ver]

/-- The words of a string record copy (R209). -/
def StrRec.words (r : StrRec) : List Word := [lo24 r.seq, r.qfull, r.res, r.cyc] ++ pairWords r.hours

/-- The words of a session in a save (R303). -/
def Session.words (x : Session) : List Word :=
  lo24 x.num :: pairWords x.ip ++ [lo24 x.sport, BitVec.ofNat 24 (b2n x.up)] ++ pairWords x.durable ++ pairWords x.live

/-- The words of a session save (R303). -/
def SesSave.words (x : SesSave) : List Word :=
  lo24 x.seq :: optWords x.bulk Session.words ++ optWords x.recs Session.words ++ [lo24 x.bulkPath, lo24 x.recPath]

/-- The words of the extremes of a quantity (R369). -/
def Extremes.words (e : Extremes) : List Word :=
  [e.min, e.max] ++ pairWords e.minCount ++ [lo24 e.minCycles] ++ pairWords e.maxCount ++ [lo24 e.maxCycles]

/-- The words of what a flush saves (R365, R369, R374). -/
def RecSave.words (r : RecSave) : List Word :=
  lo24 r.seq :: tabWords r.bins pairWords ++ tabWords r.ext Extremes.words ++ pairWords r.next ++ pairWords r.base ++ pairWords r.hours
    ++ [lo24 r.cycles, lo24 r.clears]

/-- The words of an ageing quantity (R392). -/
def AgeQ.words (q : AgeQ) : List Word :=
  pairWords q.sum ++ [lo24 q.n] ++ optWords q.base pairWords ++ [BitVec.ofNat 24 (b2n q.await), lo24 q.ratio]
    ++ q.hist.flatMap (fun e => lo24 e.1 :: pairWords e.2) ++ [lo24 q.eol]

/-- The words of the atlas (R392). -/
def AgeCopy.words (c : AgeCopy) : List Word :=
  lo24 c.seq :: tabWords c.ports (fun p => p.rho.words ++ p.kf.words ++ optWords p.res pairWords ++ [p.d])
    ++ tabWords c.rails (fun r => r.kc.words ++ r.ke.words) ++ c.si.words ++ [lo24 c.mean, lo24 c.rev]

end Sys2Proof.Machine
end

