-- ==== Sys2Proof/Machine/Rails.lean ====
section
/-! DEFINITION. Rail units: membership, presence, the lead, the carousel, rail states, truncation and all-fire, overload,
gain scheduling, telemetry (R155 to R178). -/

namespace Sys2Proof.Machine

/-- A 128-bit lane set held in six words of a rail block from offset `o` on (R155). -/
def State.laneWords (s : State) (r o : Nat) : Nat :=
  (List.range 6).foldl (fun m w => m + (s.rd (.rail r (o + w))).toNat * 2 ^ (24 * w)) 0

/-- Six words take a lane set. -/
def State.putLaneWords (s : State) (r o m : Nat) : State :=
  forEach 6 (fun w s => s.wr (.rail r (o + w)) (BitVec.ofNat 24 (m / 2 ^ (24 * w)))) s

/-- The lanes of a lane set, ascending. -/
def lanesOf (m : Nat) : List Nat := (List.range 128).filter fun l => m.testBit l

def State.railMask (s : State) (r : Nat) : Nat := s.laneWords r 4
def State.railPres (s : State) (r : Nat) : Nat := s.laneWords r 10

/-- The presence set in force: the one formed in the tick before (R157, R159). -/
def State.presNow (s : State) (r : Nat) : Nat := (s.rail r).pres

/-- The rail state (R166): 0 OFF, 1 START, 2 RUN, 3 TEST, 4 RECOVERY. -/
def State.railState (s : State) (r : Nat) : Nat := s.getF (PHS_RAIL_CTL r) PHS_RAIL_CTL_STATE
def State.leadOf (s : State) (r : Nat) : Nat := s.getF (PHS_RAIL_LEAD r) PHS_RAIL_LEAD_LEAD
def State.altOf (s : State) (r : Nat) : Nat := s.getF (PHS_RAIL_LEAD r) PHS_RAIL_LEAD_ALT

/-- The active lead, whose port is the detection port (R156). -/
def State.activeLead (s : State) (r : Nat) : Nat :=
  if s.flag (PHS_RAIL_STAT r) PHS_RAIL_STAT_ALT_ACT then s.altOf r else s.leadOf r

/-- The rail that a lane belongs to (R155). -/
def State.railOf (s : State) (l : Nat) : Option Nat := (List.range 16).find? fun r => (s.railMask r).testBit l

/-- A write of the member mask, as a whole (R155). False: refused. -/
def State.railMaskWrite (s : State) (r m : Nat) : State × Bool :=
  let m := m % 2 ^ 128
  if s.railState r ≠ 0 ∨ 64 < (lanesOf m).length
      ∨ (List.range 16).any (fun q => q != r && (m &&& s.railMask q) != 0) then (s, false)
  else (s.putLaneWords r 4 m, true)

/-- A write of PHS_RAIL_LEAD (R156): outside OFF both lanes must be members; LEAD becomes the active lead; the detection port's
conversions up to the last S stand before those to come (log entry 24). False: refused. -/
def State.railLeadWrite (s : State) (r : Nat) (w : Word) : State × Bool :=
  let lead := PHS_RAIL_LEAD_LEAD.get w
  let alt := PHS_RAIL_LEAD_ALT.get w
  let m := s.railMask r
  if s.railState r ≠ 0 ∧ !(m.testBit lead && m.testBit alt) then (s, false)
  else
    let old := s.activeLead r
    let s := (s.wr (PHS_RAIL_LEAD r) (w &&& 0x7F7F)).setF (PHS_RAIL_STAT r) PHS_RAIL_STAT_ALT_ACT 0
    let tail := (s.port lead).tailV
    (s.modRail r fun x => { x with toAlt := false, upset := x.upset || old != lead, hist := if old = lead then x.hist else tail }, true)

/-- Truncation ends at the rail: each member resumes at its next period start (R168). -/
def State.truncEnd (s : State) (r : Nat) : State := s.setF (PHS_RAIL_STAT r) PHS_RAIL_STAT_TRUNC 0

/-- The rail enters a state: all-fire is armed on START, TEST and RECOVERY, the averages start at 0 from OFF, entry to
OFF makes LEAD the active lead and ends truncation, overload and the telemetry block; the change is recorded in tick `k` (R156, R166, R169, R171, R175). -/
def State.railEnter (s : State) (r new k : Nat) (auto : Bool) : State :=
  let old := s.railState r
  if old = new then s
  else
    let s := s.setF (PHS_RAIL_CTL r) PHS_RAIL_CTL_STATE new
    let s := s.modRail r fun x => { x with
      armed := x.armed || new == 1 || new == 3 || new == 4, rearm := if new = 2 ∨ new = 0 then x.rearm else false,
      avg := if old = 0 then [] else x.avg, inWin := 0, upset := false }
    let s := if old = 0 then s.setF (PHS_RAIL_STAT r) PHS_RAIL_STAT_OVL 0 else s
    let s := if new = 0 then
        (((s.setF (PHS_RAIL_STAT r) PHS_RAIL_STAT_ALT_ACT 0).setF (PHS_RAIL_STAT r) PHS_RAIL_STAT_OVL 0).truncEnd r).modRail r
          fun x => { x with toAlt := false, sums := [], isums := [], n := 0 }
      else s
    s.recordAt k 0x006 r old (new + if auto then 2 ^ 23 else 0)

/-- A write of PHS_RAIL_CTL (R156, R166): one that would take the rail out of OFF while LEAD or ALT is not a member is
refused whole. False: refused. -/
def State.railCtlWrite (s : State) (r : Nat) (w : Word) : State × Bool :=
  let st := PHS_RAIL_CTL_STATE.get w
  let m := s.railMask r
  if s.railState r = 0 ∧ st ≠ 0 ∧ !(m.testBit (s.leadOf r) && m.testBit (s.altOf r)) then (s, false)
  else
    let s := s.wr (PHS_RAIL_CTL r) (PHS_RAIL_CTL_STATE.put (w &&& 0x1FFFC7) (s.railState r))
    let s := if PHS_RAIL_CTL_TR_EN.on w then s else s.truncEnd r
    (s.railEnter r st s.mer.count false, true)

/-! ### Presence, lead, carousel, in the mirror window (R156, R157, R164) -/

/-- Is a member present (R157)? -/
def State.memberPresent (s : State) (r l : Nat) : Bool :=
  Tab.get false s.present l && s.pstate l == 1 && s.pers l == 0
    && s.getF (STG_PWM l) STG_PWM_MULT == s.getF (STG_PWM (s.activeLead r)) STG_PWM_MULT

/-- Form the presence set of the next tick, note the members that leave, switch to ALT from the next S, and advance the
carousel (R156, R157, R164). -/
def State.railForm (s : State) (r cyc : Nat) : State :=
  let m := s.railMask r
  let members := lanesOf m
  let old := s.railPres r
  let ps := members.filter (s.memberPresent r)
  let new := ps.foldl (fun a l => a + 2 ^ l) 0
  let off := s.railState r == 0
  let lost := if off then [] else members.filter fun l => old.testBit l && !new.testBit l
  let s := (s.putLaneWords r 10 new).setF (PHS_RAIL_STAT r) PHS_RAIL_STAT_COUNT ps.length
  let mult := s.getF (STG_PWM (s.activeLead r)) STG_PWM_MULT
  let s := s.setF (PHS_RAIL_STAT r) PHS_RAIL_STAT_MULT_ERR (b2n (members.any fun l => s.getF (STG_PWM l) STG_PWM_MULT != mult))
  let s := forList lost (fun l s => s.raise (railSrc r PHS_PHASE_LOST) l cyc) s
  let s := if lost.isEmpty then s else s.modRail r fun x => { x with upset := true }
  let sw := !off && !s.flag (PHS_RAIL_STAT r) PHS_RAIL_STAT_ALT_ACT && s.altOf r != s.leadOf r && !new.testBit (s.leadOf r)
    && new.testBit (s.altOf r)
  let s := if sw then (s.raise (railSrc r PHS_LEAD_SWITCH) r cyc).modRail r fun x => { x with toAlt := true } else s
  let p := ps.length
  let c := if !off ∧ s.flag (PHS_RAIL_CTL r) PHS_RAIL_CTL_CAR_EN ∧ p ≠ 0 then (s.getF (PHS_RAIL_CAR r) PHS_RAIL_CAR_C + 1) % p else 0
  s.modRail r fun x => { x with cNext := c }

/-- Truncation holds the members of a lane set from `at_` on (R168). -/
def State.truncHold (s : State) (ls : List Nat) (at_ : Int) : State :=
  forList ls (fun l s => s.modPort l fun x => if x.trunc then x else { x with
      trunc := true, truncAt := at_, fire := none, pulsed := x.pulsed.map fun e => (e.1, min e.2 at_) }) s

/-- At S the presence set comes into force: ALT takes over, the carousel's counter advances and gives each present member its offset in
the tick's period, and truncation takes in members that have become present (R143, R156, R157, R164, R168). -/
def State.railCommit (s : State) (r : Nat) : State :=
  let x := s.rail r
  let s := if x.toAlt then
      let s := s.setF (PHS_RAIL_STAT r) PHS_RAIL_STAT_ALT_ACT 1
      let tail := (s.port (s.activeLead r)).tailV
      s.modRail r fun x => { x with toAlt := false, upset := true, hist := tail }
    else s
  let ps := lanesOf (s.railPres r)
  let slot := if s.railState r = 0 ∨ ps.isEmpty then 0 else unitsPerCycle * s.period / s.mult (s.activeLead r) / ps.length
  let s := s.wr (PHS_RAIL_CAR r) (BitVec.ofNat 24 (x.cNext * 2 ^ 18 + slot % 2 ^ 18))
  let s := (s.modRail r fun y => { y with pres := s.railPres r })
  let s := forList ((lanesOf (s.railMask r)).filter fun l => !ps.contains l) (fun l s => s.modPort l fun y => { y with carOfs := 0 }) s
  let s := forList ps.zipIdx (fun e s => s.modPort e.1 fun y => { y with
    carOfs := if s.flag (STG_PWM e.1) STG_PWM_SYNC then 0 else (e.2 + x.cNext) % max 1 ps.length * slot }) s
  if s.flag (PHS_RAIL_STAT r) PHS_RAIL_STAT_TRUNC then s.truncHold ps 0 else s

/-! ### Each tick, at S (R166, R169, R171, R172, R178) -/

/-- The automatic changes of state (R166). -/
def State.railAuto (s : State) (r : Nat) : State :=
  let st := s.railState r
  let x := s.rail r
  if st = 2 then
    if x.upset then s.railEnter r 4 s.mer.count true else s
  else if st = 1 ∨ st = 4 then
    let v := (s.port (s.activeLead r)).smpV.toInt
    let inw := decide ((s.rd (PHS_RAIL_VLO r)).toInt ≤ v) && decide (v ≤ (s.rd (PHS_RAIL_VHI r)).toInt)
    let n := if inw then x.inWin + 1 else 0
    let s := s.modRail r fun x => { x with inWin := n, upset := false }
    if 2 ^ s.getF (PHS_RAIL_CTL r) PHS_RAIL_CTL_HOLD ≤ n then s.railEnter r 2 s.mer.count true else s
  else s.modRail r fun x => { x with upset := false }

/-- The averaging exponent of point `j` (R171). -/
def ovlExp (w : Word) (j : Nat) : Nat := w.toNat / 2 ^ (5 * j) % 32

/-- The rail current and the overload limit of a rail that is not OFF (R171). -/
def State.railOverload (s : State) (r : Nat) : State :=
  let raw := (lanesOf (s.presNow r)).foldl (fun (a : Int) l => a + (s.port l).smpI.toInt) 0
  let i := roundOff raw 6 .halfEven
  let s := s.modRail r fun x => { x with cur := i }
  if s.railState r = 0 then s
  else
    let a := s.rd (PHS_RAIL_OVL_A r)
    let s := s.modRail r fun x => { x with avg := (List.range 4).foldl (fun t j =>
      let v := Tab.get 0 t j
      Tab.set 0 t j (v + roundOff (i * 2 ^ 24 - v) (ovlExp a j) .halfEven)) x.avg }
    let avg := (s.rail r).avg
    let lim (j : Nat) : Int := (s.rd (PHS_RAIL_OVL_L r j)).toInt * 2 ^ 24
    let past := (List.range 4).any fun j => decide (lim j < Tab.get 0 avg j)
    let below := (List.range 4).all fun j => decide (8 * Tab.get 0 avg j < 7 * lim j)
    let ovl := past || (s.flag (PHS_RAIL_STAT r) PHS_RAIL_STAT_OVL && !below)
    let s := s.setF (PHS_RAIL_STAT r) PHS_RAIL_STAT_OVL (b2n ovl)
    if ovl then s.raise (railSrc r PHS_OVERLOAD) r 0 else s

/-- The current-reference limit of a rail (R172). -/
def State.railLimit (s : State) (r : Nat) : State :=
  let fold : Word := if s.flag (PHS_RAIL_STAT r) PHS_RAIL_STAT_OVL then s.rd (PHS_RAIL_FOLD r) else 0x7FFFFF
  let cap := s.rd (PHS_RAIL_CAPLIM r)
  s.wr (PHS_RAIL_ILIM r) (if cap.toInt ≤ fold.toInt then cap else fold)

/-- Neither LEAD nor ALT is present, of a rail that is not OFF (R178). -/
def State.leadLost (s : State) (r : Nat) : Bool :=
  s.railState r != 0 && !(s.presNow r).testBit (s.leadOf r) && !(s.presNow r).testBit (s.altOf r)

/-- One rail unit at S. -/
def State.railTick (s : State) (r : Nat) : State :=
  let s := s.railCommit r
  let s := s.railAuto r
  let s := (s.railOverload r).railLimit r
  let lost := s.leadLost r
  let s := s.setF (PHS_RAIL_STAT r) PHS_RAIL_STAT_LEAD_LOST (b2n lost)
  let s := if lost then s.raise (railSrc r PHS_LEAD_LOST) r 0 else s
  s.modRail r fun x => { x with armed := x.armed || x.rearm, rearm := false, heldTick := false }

/-! ### Detection conversions (R167 to R169) -/

/-- A truncation starts at every present member (R168). -/
def State.truncStart (s : State) (r cyc : Nat) : State :=
  let s := (s.setF (PHS_RAIL_STAT r) PHS_RAIL_STAT_TRUNC 1).setF (PHS_RAIL_STAT r) PHS_RAIL_STAT_TRUNC_SEEN 1
  let s := (s.raise (railSrc r PHS_TRUNC) r cyc).countP 13 0xB0 1
  s.truncHold (lanesOf (s.presNow r)) (cyc * unitsPerCycle)

/-- The all-fire pulse of a member at `at_`: GA rises DT later in COMP and stays active for TON, or to the fall of the period's own pulse, and
no longer than the envelope lets a pulse last (R169, R170, R222). -/
def State.firePulse (s : State) (l : Nat) (ton : Nat) (at_ : Int) : State :=
  let x := s.port l
  let rise := at_ + s.deadTime l
  let last := max (rise + (ton * 128 : Nat)) (x.start + x.fall)
  let cap := s.onTime l (s.dutyPer l) 0x7FFFFF - s.deadTime l
  s.modPort l fun x => { x with fire := some (at_, rise, min last (rise + cap)) }

/-- All-fire at every present member that is ON and whose GA is inactive and not held inactive (R169, R170). -/
def State.allFire (s : State) (r cyc : Nat) : State :=
  let s := (s.setF (PHS_RAIL_STAT r) PHS_RAIL_STAT_AF_SEEN 1).raise (railSrc r PHS_ALLFIRE) r cyc
  let s := (s.countP 13 0xB1 1).modRail r fun x => { x with armed := false, rearm := false }
  let ton := s.getF (PHS_RAIL_AF r) PHS_RAIL_AF_TON
  forList (lanesOf (s.presNow r)) (fun l s =>
    if s.pstate l ≠ 1 || s.gaActive l (cyc * unitsPerCycle) || (s.port l).stopped || (s.port l).trunc then s
    else s.firePulse l ton (cyc * unitsPerCycle)) s

/-- The truncation rule for a conversion `v` (R168). -/
def State.railTrunc (s : State) (r : Nat) (v : Int) (cyc : Nat) : State :=
  let vos := (s.rd (PHS_RAIL_VOS r)).toInt
  let hys : Int := (s.rd (PHS_RAIL_HYS r)).toNat
  if s.railState r = 0 ∨ !s.flag (PHS_RAIL_CTL r) PHS_RAIL_CTL_TR_EN then s
  else if s.flag (PHS_RAIL_STAT r) PHS_RAIL_STAT_TRUNC then (if v < vos - hys then s.truncEnd r else s)
  else if vos ≤ v then s.truncStart r cyc else s

/-- The all-fire rule for a conversion `v` with slope `d` (R169). -/
def State.railFire (s : State) (r : Nat) (v : Int) (d : Option Int) (cyc : Nat) : State :=
  let vus := (s.rd (PHS_RAIL_VUS r)).toInt
  let hys : Int := (s.rd (PHS_RAIL_HYS r)).toNat
  let dv : Int := (s.rd (PHS_RAIL_DVDT r)).toNat
  let steep := decide (v ≤ vus) && (match d with | some d => decide (d ≤ -dv) | none => false)
  let st := s.railState r
  let x := s.rail r
  let s := if !x.armed ∧ vus + hys ≤ v then s.modRail r fun x => { x with rearm := true } else s
  if st = 2 then
    if steep ∧ !x.heldTick then
      ((s.setF (PHS_RAIL_STAT r) PHS_RAIL_STAT_AF_HELD 1).raise (railSrc r PHS_UNDERSHOOT) r cyc).modRail r
        fun x => { x with heldTick := true }
    else s
  else if (st = 1 ∨ st = 3 ∨ st = 4) ∧ s.flag (PHS_RAIL_CTL r) PHS_RAIL_CTL_AF_EN ∧ x.armed ∧ steep then s.allFire r cyc
  else s

/-- Is the voltage conversion of port `p` at lane cycle `cyc` excluded by an open-detection pulse (R132, R138)? -/
def State.convExcluded (s : State) (p cyc : Nat) : Bool :=
  let j := (s.period - cyc) / 80
  s.flag (STG_SNS p) STG_SNS_OPEN_EN_V && pulseTick s.mer.count (p % 16) (s.getF (STG_SNS p) STG_SNS_OPEN_INT) &&
    decide (3 ≤ j) && decide (j ≤ 12)

/-- RAIL_DETECT_CONVERSION (R167 to R169): a raw voltage code of the detection port, converted at lane cycle `cyc`; for one that R138
excludes the last conversion that is not excluded stands. Suspended while no member is present or no lead is. The slope needs
eight earlier conversions (log entry 24). A command that says of R138's exclusion what does not hold names no conversion, and
nothing happens (log entry 3). -/
def execRailDetectConversion (r code : Nat) (excl : Bool) (cyc : Nat) (s : State) : Host.Outcome State Fault Refusal :=
  .next (
    if s.convExcluded (s.activeLead r) cyc ≠ excl then s else
    let x := s.rail r
    let v := match excl, x.hist with
      | true, h :: _ => h
      | _, _ => s.calV (s.activeLead r) code
    let d := (x.hist[7]?).map fun o => v - o
    let s := s.modRail r fun x => { x with hist := (v :: x.hist).take 8 }
    let pres := s.presNow r
    if pres = 0 ∨ !(pres.testBit (s.leadOf r) || pres.testBit (s.altOf r)) then s
    else (s.railTrunc r v cyc).railFire r v d cyc)

/-! ### Gain scheduling (R160 to R162) -/

/-- The scheduling variable of a lane (R160). -/
def State.gsVar (s : State) (l : Nat) : Word :=
  let ctl := s.rd (PHS_GS_CTL l)
  let q := 16 * (l / 16) + PHS_GS_CTL_PORT.get ctl
  match PHS_GS_CTL_SRC.get ctl with
  | 0 => (s.port l).smpI
  | 1 => (s.port l).smpV
  | 2 => (s.port l).smpT
  | 3 => (s.port q).smpI
  | 4 => (s.port q).smpV
  | 5 => (s.port q).smpT
  | _ => s.recvWord (l / 16) (PHS_GS_CTL_LANE.get ctl) (PHS_GS_CTL_WORD.get ctl)

/-- Are breakpoints strictly ascending (R161)? -/
def ascending : List Int → Bool
  | [] => true
  | [_] => true
  | a :: b :: t => decide (a < b) && ascending (b :: t)

/-- The scheduled gain at `x` of breakpoints and their gains (R161). -/
def sched (x : Int) : List (Int × Int) → Int
  | [] => 0
  | [(_, g)] => g
  | (x0, g0) :: (x1, g1) :: t =>
    if x ≤ x0 then g0
    else if x < x1 then g0 + roundq ((g1 - g0) * (x - x0)) (x1 - x0)
    else sched x ((x1, g1) :: t)

def State.setGain (s : State) (l g : Nat) (w : Word) : State := { s with gains := Tab.set 0 s.gains (l * 8 + g) w }

/-- The coefficient unit of a lane at S (R160, R161): its scheduling variable and its eight gains; breakpoints that do
not ascend keep the gains and raise PHS_GS_ORDER. -/
def State.coeffLane (s : State) (l : Nat) : State :=
  if !s.flag (PHS_GS_CTL l) PHS_GS_CTL_EN then
    forEach 8 (fun g s => s.setGain l g 0) (s.wr (PHS_GS_X l) 0)
  else
    let x := s.gsVar l
    let s := s.wr (PHS_GS_X l) x
    let n := s.getF (PHS_GS_CTL l) PHS_GS_CTL_NBP + 1
    let base := s.getF (PHS_GS_BASE l) PHS_GS_BASE_BASE
    let at_ (o : Nat) : Int := (s.cramWord (l / 16) (base + o)).toInt
    let xs := (List.range n).map at_
    if !ascending xs then s.raise (portSrc l PHS_GS_ORDER) l 0
    else forEach 8 (fun g s => s.setGain l g (word (sched x.toInt (xs.zipIdx.map fun e => (e.1, at_ (8 + 8 * e.2 + g)))))) s

/-- While EN is 0 PHS_GS_X reads 0 (R160). -/
def State.gsShow (s : State) (l : Nat) : State := if s.flag (PHS_GS_CTL l) PHS_GS_CTL_EN then s else s.wr (PHS_GS_X l) 0

/-- g7 of the members of a rail with G7LIM carries the rail's limit in gain format (R162). -/
def State.railG7 (s : State) (r : Nat) : State :=
  if s.flag (PHS_RAIL_CTL r) PHS_RAIL_CTL_G7LIM then
    let g := word (roundOff (s.rd (PHS_RAIL_ILIM r)).toInt 7 .halfEven)
    forList (lanesOf (s.railMask r)) (fun l s => s.setGain l 7 g) s
  else s

/-! ### Telemetry, in the mirror window (R175) -/

/-- A register keeps the larger of its value and `v`, both signed. -/
def State.keepMax (s : State) (l : Loc) (v : Int) : State := if (s.rd l).toInt < v then s.wr l (word v) else s

/-- A register keeps the smaller of its value and `v`, both signed. -/
def State.keepMin (s : State) (l : Loc) (v : Int) : State := if v < (s.rd l).toInt then s.wr l (word v) else s

/-- The per-tick power of a rail, in rail format; 0 in OFF (R175). -/
def State.railPower (s : State) (r : Nat) : Int :=
  if s.railState r = 0 then 0 else roundOff ((s.port (s.activeLead r)).smpV.toInt * (s.rail r).cur) 23 .halfEven

/-- The telemetry of a rail that is not OFF: peaks each tick, means at the end of each block (R175). With no member
present the largest T has no stated value: a free value (log entry 25). -/
def State.railTelemetry (s : State) (r : Nat) : State :=
  if s.railState r = 0 then s
  else
    let d := s.port (s.activeLead r)
    let ps := lanesOf (s.presNow r)
    let i := (s.rail r).cur
    let pw := s.railPower r
    let ts := ps.map fun l => (s.port l).smpT.toInt
    let free := s.takeWord
    let t := match ts with | [] => free.1.toInt | a :: rest => rest.foldl max a
    let s := if ts.isEmpty then free.2 else s
    let s := ((s.keepMax (PHS_PK_VMAX r) d.vpk.toInt).keepMin (PHS_PK_VMIN r) d.vvl.toInt).keepMax (PHS_PK_IMAX r) i
    let s := (s.keepMax (PHS_PK_PMAX r) pw).keepMax (PHS_PK_TMAX r) t
    let add (t : Tab Int) (e : Nat × Int) : Tab Int := Tab.set 0 t e.1 (Tab.get 0 t e.1 + e.2)
    let ms := (lanesOf (s.railMask r)).map fun l => (l, (s.port l).smpI.toInt)
    let s := s.modRail r fun x => { x with
      sums := [(0, d.smpV.toInt), (1, i), (2, pw), (3, t)].foldl add x.sums, isums := ms.foldl add x.isums, n := x.n + 1 }
    if (s.mer.count + 1) % 2 ^ s.getF (PHS_TLM_CTL r) PHS_TLM_CTL_K = 0 then
      let x := s.rail r
      let mean (v : Int) : Word := word (roundq v x.n)
      let s := (s.wr (PHS_TLM_V r) (mean (Tab.get 0 x.sums 0))).wr (PHS_TLM_I r) (mean (Tab.get 0 x.sums 1))
      let s := (s.wr (PHS_TLM_P r) (mean (Tab.get 0 x.sums 2))).wr (PHS_TLM_T r) (mean (Tab.get 0 x.sums 3))
      let s := forList ms (fun e s => s.wr (PHS_IAVG e.1) (mean (Tab.get 0 x.isums e.1))) s
      s.modRail r fun x => { x with sums := [], isums := [], n := 0 }
    else s

/-- Does truncation hold at the rail of a present member (R168)? -/
def State.railHolds (s : State) (p : Nat) : Bool :=
  match s.railOf p with
  | some r => s.flag (PHS_RAIL_STAT r) PHS_RAIL_STAT_TRUNC && (s.presNow r).testBit p
  | none => false

/-- PWM_UPDATE_POINT (R116, R141 to R144): the generator of a port reaches its next update point of the running tick, where there is one.
A command that names another point than the generator's next names nothing that happens, and has no effect (log entry 3). -/
def execPwmUpdatePoint (p u : Nat) (mid : Bool) (pos : Nat) (s : State) : Host.Outcome State Fault Refusal :=
  .next (
    match s.nextPoint p with
    | some q => if q.named u mid pos then s.updatePoint p q (s.railHolds p) else s
    | none => s)

end Sys2Proof.Machine
end

