-- ==== Sys2Proof/Machine/Strings.lean ====
section
/-! DEFINITION. Battery string units and the hold-up reserve (R199 to R217). -/

namespace Sys2Proof.Machine

/-! ### String units -/

/-- The port that string unit `u` serves (R199). -/
def State.strPort (s : State) (u : Nat) : Nat := s.getF (BAT_CTL u) BAT_CTL_PORT

/-- Does unit `u` estimate: enabled, its port in the battery personality (R199)? -/
def State.estimates (s : State) (u : Nat) : Bool := s.flag (BAT_CTL u) BAT_CTL_EN && s.pers (s.strPort u) == 3

def State.strI (s : State) (u : Nat) : Int := (s.port (s.strPort u)).smpI.toInt
def State.strV (s : State) (u : Nat) : Int := (s.port (s.strPort u)).smpV.toInt
def State.strPres (s : State) (u : Nat) : Bool := s.flag (BAT_STAT u) BAT_STAT_PRES

/-- Raw-LSB lane cycles in one unit of QFULL (R203). -/
def strUnit : Nat := 2 ^ 23 * 8000000

/-- The hold-up unit is in HOLD (R215). -/
def State.inHold (s : State) : Bool := s.flag HLD_STAT HLD_STAT_HOLD

/-- QFULL in raw-LSB lane cycles (R203). -/
def State.strFull (s : State) (u : Nat) : Nat := (s.rd (BAT_QFULL u)).toNat * strUnit

/-- The charge count takes a value and BAT_SOC shows it (R203). -/
def State.setQ (s : State) (u q : Nat) : State :=
  let full := s.strFull u
  let soc := if full = 0 then 0 else min (q * 2 ^ 23 / full) (2 ^ 23 - 1)
  (s.modStr u fun x => { x with q := q }).wr (BAT_SOC u) (BitVec.ofNat 24 soc)

/-- The words of the chemistry table of a unit (R204). -/
def State.ocv (s : State) (u : Nat) : List Int :=
  (List.range 33).map fun j => ((s.rd (BAT_OCV (s.getF (BAT_CTL u) BAT_CTL_CHEM) j)).toNat : Int)

/-- The state of charge at a cell voltage, by inversion of a table from its word `j` on (R204). -/
def socOcv (vcell : Int) : Nat → List Int → Int
  | _, [] => 2 ^ 23 - 1
  | _, [_] => 2 ^ 23 - 1
  | j, a :: b :: t =>
    if vcell < b then j * 2 ^ 18 + roundq ((vcell - a) * 2 ^ 18) (b - a) else socOcv vcell (j + 1) (b :: t)

/-- The state of charge that the table gives for the string's voltage; none where the table is not valid (R204). -/
def State.strSocOcv (s : State) (u : Nat) : Option Nat :=
  let t := s.ocv u
  if !ascending t then none
  else
    let vcell := s.strV u * (s.rd (BAT_VFS u)).toNat * 100 / (2 ^ 23 * max 1 (s.getF (BAT_CTL u) BAT_CTL_CELLS))
    some (if vcell ≤ t.headD 0 then 0 else (socOcv vcell 0 t).toNat)

/-- The charge count takes the table's estimate: CONF as given; an invalid table raises BAT_OCV_ORDER and gives the
count `dflt` (R202, R204, R205). With QFULL 0 the count stays 0 and CONF 0 (R203). -/
def State.ocvCorrect (s : State) (u cyc : Nat) (conf : Bool) (dflt : Option Nat) : State :=
  match s.strSocOcv u with
  | none =>
    let s := s.raise (stringSrc u BAT_OCV_ORDER) (s.strPort u) cyc
    match dflt with | some q => (s.setQ u q).setF (BAT_STAT u) BAT_STAT_CONF 0 | none => s
  | some soc =>
    (s.setQ u (soc * s.strFull u / 2 ^ 23)).setF (BAT_STAT u) BAT_STAT_CONF (b2n (conf && s.strFull u != 0))

/-! Records in MRAM (R209) -/

/-- Start a write of the string record, or let one further write follow the running one (R209). The copy that the write
makes takes the place of the older one. -/
def State.strWrite (s : State) (u : Nat) : State :=
  let x := s.str u
  if x.writing.isSome then s.modStr u fun x => { x with again := true }
  else
    let r : StrRec := ⟨x.copies.nextSeq StrRec.words (·.seq), s.rd (BAT_QFULL u), s.rd (BAT_RES u), s.rd (BAT_CYC u), s.rcd.hours⟩
    let s := s.setF (BAT_STAT u) BAT_STAT_NVM_BUSY 1
    s.modStr u fun x => { x with copies := x.copies.put StrRec.words (·.seq) none, writing := some r }

/-- STRING_RECORD_WRITE (R209): a trigger of a string record write. -/
def execStringRecordWrite (u : Nat) (s : State) : Host.Outcome State Fault Refusal := .next (s.strWrite u)

/-- STRING_RECORD_WRITE_DONE (R209): the running write ends, well or not; one merged further write starts. -/
def execStringRecordWriteDone (u : Nat) (ok : Bool) (cyc : Nat) (s : State) : Host.Outcome State Fault Refusal :=
  .next (
    match (s.str u).writing with
    | none => s
    | some r =>
      let again := (s.str u).again
      let s := s.setF (BAT_STAT u) BAT_STAT_NVM_BUSY 0
      let s := if ok then s.modStr u fun x => { x with copies := x.copies.put StrRec.words (·.seq) (some r) }
        else s.raise (stringSrc u BAT_NVM_ERR) (s.strPort u) cyc
      let s := s.modStr u fun x => { x with writing := none, again := false }
      if again then s.strWrite u else s)

/-- The record in force (R209). -/
def StringSt.newest (x : StringSt) : Option StrRec := x.copies.newest StrRec.words (·.seq)

/-- What boot does to a unit: the learned values come from the record, or QNOM and 0 with BAT_NVM_ERR (R202, R209). A
write that was running left no copy. -/
def State.strBoot (s : State) (u : Nat) : State :=
  let x := s.str u
  let s := s.setStr u { copies := x.copies }
  match x.newest with
  | some r => ((s.wr (BAT_QFULL u) r.qfull).wr (BAT_RES u) r.res).wr (BAT_CYC u) r.cyc
  | none => ((s.wr (BAT_QFULL u) (s.rd (BAT_QNOM u))).wr (BAT_RES u) 0).raise (stringSrc u BAT_NVM_ERR) (s.strPort u) 0

/-! Writes -/

/-- The runs of consecutive ticks of a unit end: it no longer estimates, or another port begins to serve it (R201, R205, R206, R208). -/
def StringSt.broken (x : StringSt) : StringSt :=
  { x with last := none, above := 0, below := 0, rest := 0, eoc := some 0, eod := some 0 }

/-- A write of BAT_CTL is refused where it would map two enabled units to one port (R199). -/
def State.batCtlWrite (s : State) (u : Nat) (w : Word) : State × Bool :=
  let clash := BAT_CTL_EN.on w && (List.range 32).any fun v =>
    v != u && s.flag (BAT_CTL v) BAT_CTL_EN && s.strPort v == BAT_CTL_PORT.get w
  if clash then (s, false)
  else
    let moved := s.strPort u != BAT_CTL_PORT.get w
    let s := s.wr (BAT_CTL u) (w &&& 0xFF78FF)
    (if moved then s.modStr u fun x => x.broken else s, true)

/-- A write of QNOM while QFULL is 0 also writes QFULL (R203). -/
def State.batQnomWrite (s : State) (u : Nat) (w : Word) : State :=
  let s := s.wr (BAT_QNOM u) w
  if s.rd (BAT_QFULL u) = 0 then s.wr (BAT_QFULL u) w else s

/-- A change of QFULL by host software ends a learning run (R207). -/
def State.batQfullWrite (s : State) (u : Nat) (w : Word) : State :=
  if s.rd (BAT_QFULL u) = w then s else (s.wr (BAT_QFULL u) w).modStr u fun x => { x with run := false }

/-! Events -/

/-- Lane cycles in a second. -/
def perSecond : Nat := 800000000

/-- STRING_INSERTION (R201, R202, R217): where V has stayed at or above VPRES for 1 s of consecutive ticks the string is
present and takes its first estimate. -/
def execStringInsertion (u cyc : Nat) (s : State) : Host.Outcome State Fault Refusal :=
  .next (
    if s.estimates u ∧ !s.strPres u ∧ perSecond ≤ (s.str u).above then
      let keep := s.flag (BAT_CTL u) BAT_CTL_KEEP || (s.str u).atBoot
      let s := if keep then s else (s.wr (BAT_QFULL u) (s.rd (BAT_QNOM u))).wr (BAT_RES u) 0
      let hold := s.inHold
      let s := (s.setF (BAT_STAT u) BAT_STAT_PRES 1).modStr u fun x => { x with run := false, atBoot := false, fresh := hold }
      (s.raise (stringSrc u BAT_INSERTED) (s.strPort u) cyc).ocvCorrect u cyc false (some 0)
    else s)

/-- A string is no longer present: PRES, CONF, EOC and EOD clear (R201). -/
def State.strGone (s : State) (u : Nat) : State :=
  (((s.setF (BAT_STAT u) BAT_STAT_PRES 0).setF (BAT_STAT u) BAT_STAT_CONF 0).setF (BAT_STAT u) BAT_STAT_EOC 0).setF
    (BAT_STAT u) BAT_STAT_EOD 0

/-- STRING_REMOVAL (R201): where V has lain below VPRES for 64 consecutive ticks the string is removed and its record written. -/
def execStringRemoval (u cyc : Nat) (s : State) : Host.Outcome State Fault Refusal :=
  .next (
    if s.estimates u ∧ s.strPres u ∧ 64 ≤ (s.str u).below then
      ((s.raise (stringSrc u BAT_REMOVED) (s.strPort u) cyc).strWrite u).strGone u
    else s)

/-- REST_CORRECTION (R205): where rest has lasted TREST seconds REST is set, and the count takes the table's estimate. -/
def execRestCorrection (u cyc : Nat) (s : State) : Host.Outcome State Fault Refusal :=
  .next (
    if s.estimates u ∧ s.strPres u ∧ !s.flag (BAT_STAT u) BAT_STAT_REST
        ∧ (s.rd (BAT_TREST u)).toNat * perSecond ≤ (s.str u).rest then
      let s := s.setF (BAT_STAT u) BAT_STAT_REST 1
      if s.rd (BAT_QFULL u) = 0 then s else s.ocvCorrect u cyc true none
    else s)

/-- A taper threshold, C/DIV (R206). -/
def State.taper (s : State) (u div : Nat) : Int := (s.rd (BAT_QFULL u)).toNat * 2 ^ 23 / (div * 360000)

/-- The end-of-charge condition (R203, R206); in HOLD its window cannot complete (R217). -/
def State.eocNow (s : State) (u : Nat) : Bool :=
  s.strPres u && s.rd (BAT_QFULL u) != 0 && !s.inHold && decide (0 < s.strI u)
    && decide (s.strI u < s.taper u (s.getF (BAT_EOC u) BAT_EOC_DIV)) && decide ((s.rd (BAT_VEOC u)).toInt ≤ s.strV u)

/-- The end-of-discharge condition (R203, R206). -/
def State.eodNow (s : State) (u : Nat) : Bool :=
  s.strPres u && s.rd (BAT_QFULL u) != 0 && decide (s.strI u < 0)
    && decide (-(s.taper u (s.getF (BAT_EOD u) BAT_EOD_DIV)) < s.strI u) && decide (s.strV u ≤ (s.rd (BAT_VEOD u)).toInt)

/-- Has a window been held for `t` seconds (R206)? -/
def heldFor (t : Nat) (h : Option Nat) : Bool := match h with | some n => decide (t * perSecond ≤ n) | none => false

/-- END_OF_CHARGE (R206): where the taper condition has held for its time. -/
def execEndOfCharge (u : Nat) (s : State) : Host.Outcome State Fault Refusal :=
  .next (
    if s.estimates u ∧ s.eocNow u ∧ heldFor (s.getF (BAT_EOC u) BAT_EOC_TIME) (s.str u).eoc then
      let s := (s.setQ u (s.strFull u)).modStr u fun x => { x with run := true, eoc := none }
      ((s.setF (BAT_STAT u) BAT_STAT_EOC 1).setF (BAT_STAT u) BAT_STAT_CONF 1).strWrite u
    else s)

/-- The learning run of a unit closes at an end of discharge (R207). -/
def State.learn (s : State) (u cyc : Nat) : State :=
  if !(s.str u).run then s
  else
    let s := s.modStr u fun x => { x with run := false }
    let qf := (s.rd (BAT_QFULL u)).toNat
    let qn := (s.rd (BAT_QNOM u)).toNat
    let m := (s.strFull u - (s.str u).q) / strUnit
    if qn ≤ 2 * m ∧ 2 * m ≤ 3 * qn then s.wr (BAT_QFULL u) (word (qf + roundq ((m : Int) - qf) 4))
    else s.raise (stringSrc u BAT_LEARN_RANGE) (s.strPort u) cyc

/-- BAT_EMPTY is raised where soc, until then `was`, has reached SOCMIN while i is negative (R210). -/
def State.emptyCheck (s : State) (u : Nat) (was : Int) (cyc : Nat) : State :=
  let low := (s.rd (BAT_SOCMIN u)).toInt
  if s.strI u < 0 ∧ low < was ∧ (s.rd (BAT_SOC u)).toInt ≤ low then s.raise (stringSrc u BAT_EMPTY) (s.strPort u) cyc else s

/-- END_OF_DISCHARGE (R206, R207, R210): where the end-of-discharge condition has held for its time. -/
def execEndOfDischarge (u cyc : Nat) (s : State) : Host.Outcome State Fault Refusal :=
  .next (
    if s.estimates u ∧ s.eodNow u ∧ heldFor (s.getF (BAT_EOD u) BAT_EOD_TIME) (s.str u).eod then
      let was := (s.rd (BAT_SOC u)).toInt
      let s := (((s.learn u cyc).setQ u 0).modStr u fun x => { x with eod := none }).emptyCheck u was cyc
      ((s.setF (BAT_STAT u) BAT_STAT_EOD 1).setF (BAT_STAT u) BAT_STAT_CONF 1).strWrite u
    else s)

/-! Each tick -/

/-- A sample of the string resistance from a current step (R208); a result that 24 bits do not hold, or a full scale of
0, has no stated value: a free value (log entry 32). -/
def State.resSample (s : State) (u : Nat) (di dv : Int) : State :=
  if (2 : Int) ^ 20 ≤ di.natAbs ∧ 0 < di * dv then
    let ifs := (s.rd (BAT_IFS u)).toNat
    let r := roundq (dv * (s.rd (BAT_VFS u)).toNat * 100000) (di * ifs)
    let res : Int := (s.rd (BAT_RES u)).toNat
    let v := res + roundq (r - res) 16
    s.wrOpen (BAT_RES u) (if ifs = 0 then -1 else v)
  else s

/-- BAT_CYC rises each time the discharged charge reaches QFULL (R207). -/
def State.cycles (s : State) (u d : Nat) : State :=
  let full := s.strFull u
  let out := (s.str u).out + d
  if full ≠ 0 ∧ full ≤ out then (s.bump (BAT_CYC u)).modStr u fun x => { x with out := out - full }
  else s.modStr u fun x => { x with out := out }

/-- The change of the charge count in a tick of `n` lane cycles at current `i` (R203). -/
def State.chargeStep (s : State) (u n : Nat) (i : Int) : Int :=
  if i.natAbs < (s.rd (BAT_IDEAD u)).toNat then 0
  else if 0 < i then i * (s.rd (BAT_ETAC u)).toInt / 2 ^ 23 * n else i * n

/-- Is T of the string inside its window (R210)? -/
def State.tempOk (s : State) (u : Nat) : Bool :=
  let t := (s.port (s.strPort u)).smpT.toInt
  decide ((s.rd (BAT_TLO u)).toInt ≤ t) && decide (t ≤ (s.rd (BAT_THI u)).toInt)

/-- A held condition after a tick of `n` lane cycles in which it held or not. -/
def windowNext (c : Bool) (n : Nat) (h : Option Nat) : Option Nat := if c then h.map (· + n) else some 0

/-- The runs of consecutive ticks after a tick of `n` lane cycles (R201, R202, R205, R206, R217). -/
def State.strRuns (s : State) (u n : Nat) : State :=
  let here := decide ((s.rd (BAT_VPRES u)).toInt ≤ s.strV u)
  let calm := decide ((s.strI u).natAbs ≤ (s.rd (BAT_IREST u)).toNat)
  let full := s.eocNow u
  let flat := s.eodNow u
  let on := s.pstate (s.strPort u) == 1
  s.modStr u fun x =>
    { x with
      above := if here then x.above + n else 0, below := if here then 0 else x.below + 1, atBoot := x.atBoot && here,
      rest := if calm then x.rest + n else 0, eoc := windowNext full n x.eoc, eod := windowNext flat n x.eod,
      fresh := false, onS := on }

/-- A string unit at S, with the period of the tick that ends there (R201, R203, R205 to R208, R210). -/
def State.strTick (s : State) (u : Nat) : State :=
  if !s.estimates u then
    let s := s.modStr u fun x => { x.broken with atBoot := false, fresh := false, onS := false }
    if s.flag (BAT_CTL u) BAT_CTL_EN then s.setF (BAT_STAT u) BAT_STAT_PRES 0 else s
  else
    let i := s.strI u
    let v := s.strV u
    let p := s.strPort u
    let dead : Int := (s.rd (BAT_IDEAD u)).toNat
    let ok := s.tempOk u
    let s := if s.flag (BAT_STAT u) BAT_STAT_TEMP_OK ∧ !ok then s.raise (stringSrc u BAT_TEMP) p 0 else s
    let s := s.setF (BAT_STAT u) BAT_STAT_TEMP_OK (b2n ok)
    let s := if (s.rd (BAT_IREST u)).toNat < i.natAbs then s.setF (BAT_STAT u) BAT_STAT_REST 0 else s
    let s := if i < -dead then s.setF (BAT_STAT u) BAT_STAT_EOC 0 else s
    let s := if dead < i then s.setF (BAT_STAT u) BAT_STAT_EOD 0 else s
    let s := match (s.str u).last with | some l => s.resSample u (i - l.1) (v - l.2) | none => s
    let s := (s.modStr u fun x => { x with last := some (i, v) }).strRuns u s.mer.tickN
    if s.rd (BAT_QFULL u) = 0 then (s.setQ u 0).setF (BAT_STAT u) BAT_STAT_CONF 0
    else
      let dq := s.chargeStep u s.mer.tickN i
      let was := (s.rd (BAT_SOC u)).toInt
      let q := (clampI 0 (s.strFull u) ((s.str u).q + dq)).toNat
      ((s.setQ u q).cycles u (-dq).toNat).emptyCheck u was 0

/-- Battery ports that no enabled unit serves raise BAT_NO_UNIT where that begins (R199). -/
def State.noUnitCheck (s : State) : State :=
  let bare := (List.range 128).filter fun p =>
    s.pers p == 3 && !(List.range 32).any fun u => s.flag (BAT_CTL u) BAT_CTL_EN && s.strPort u == p
  let s := forList (bare.filter fun p => !s.hld.noUnit.contains p) (fun p s => s.raise BAT_NO_UNIT p 0) s
  { s with hld := { s.hld with noUnit := bare } }

/-! ### Limits handed to the lane (R210) -/

/-- Is string `u` in HLD_BMASK (R213)? -/
def State.inBmask (s : State) (u : Nat) : Bool := (s.rdPair HLD_BMASK_LO HLD_BMASK_HI).testBit u

/-- A word of unit format in gain format (R162). -/
def gainOf (w : Word) : Word := word (roundOff w.toInt 7 .halfEven)

/-- The charge limit that g6 carries (R210). -/
def State.chargeLimit (s : State) (u : Nat) : Word :=
  if !s.strPres u ∨ !s.tempOk u ∨ s.inHold
      ∨ (s.flag (BAT_STAT u) BAT_STAT_EOC ∧ (s.rd (BAT_RECHG u)).toInt ≤ (s.rd (BAT_SOC u)).toInt) then 0
  else s.rd (BAT_ICHG u)

/-- The discharge limit that g7 carries (R210). -/
def State.dischargeLimit (s : State) (u : Nat) : Word :=
  if !s.strPres u ∨ !s.tempOk u ∨ (s.rd (BAT_SOC u)).toInt ≤ (s.rd (BAT_SOCMIN u)).toInt then 0 else s.rd (BAT_IDIS u)

/-- g5 to g7 of the lane of a unit with GOVR (R203, R210). -/
def State.strGains (s : State) (u : Nat) : State :=
  if s.estimates u then
    let hold := s.inHold && s.inBmask u
    let z := s.rd (BAT_QFULL u) == 0
    let gov := s.flag (BAT_CTL u) BAT_CTL_GOVR
    let s := s.setF (BAT_STAT u) BAT_STAT_HOLDREQ (b2n (hold && gov))
    if gov then
      let l := s.strPort u
      let s := s.setGain l 5 (if hold then 0x010000 else 0)
      let s := s.setGain l 6 (if z then 0 else gainOf (s.chargeLimit u))
      s.setGain l 7 (if z then 0 else gainOf (s.dischargeLimit u))
    else s
  else s.setF (BAT_STAT u) BAT_STAT_HOLDREQ 0

/-! ### The hold-up reserve, in the mirror window (R211 to R214) -/

/-- The bus voltage in units of 10 mV (R211). -/
def State.vbus (s : State) : Int :=
  let p := s.port (s.getF HLD_CTL HLD_CTL_VPORT)
  let v := if s.flag HLD_CTL HLD_CTL_VCH then p.smpT.toInt else p.smpV.toInt
  v * (s.rd HLD_VFS).toNat / 2 ^ 23

/-- The bus capacitance that the hold-up unit counts with: with AGE_CTL.CBUS and a rail that probes the bus, scaled by that
rail's kc (R391). -/
def State.busCap (s : State) : Nat :=
  let c := (s.rd HLD_CBUS).toNat
  match (List.range 16).find? fun r => s.flag (AGE_CAP_CTL r) AGE_CAP_CTL_SEL with
  | some r => if s.flag AGE_CTL AGE_CTL_APPLY && s.flag AGE_CTL AGE_CTL_CBUS then c * min 65536 (Tab.get {} s.age.rails r).kc.ratio / 65536 else c
  | none => c

/-- The capacitance energy above VMIN, in mJ (R211). -/
def State.ecap (s : State) : Nat :=
  let v := s.vbus
  let m : Int := (s.rd HLD_VMIN).toNat
  if v ≤ m then 0 else min (s.busCap * (v * v - m * m) / 20000000).toNat (2 ^ 24 - 1)

/-- The load power of the tick, in W (R212). -/
def State.loadPower (s : State) : Int :=
  let sum := (List.range 16).foldl (fun a r =>
    if (s.getF HLD_RMASK HLD_RMASK_MASK).testBit r then a + s.railPower r * (s.rd (HLD_RSCALE r)).toNat else a) 0
  (s.rd HLD_PAUX).toNat + max 0 sum * 64 / max 1 (s.rd HLD_ETA).toInt

/-- Does string `u` contribute to the reserve (R203, R213)? A port that took its safe action in this tick stops to with the
next, and a string that became present in this tick of HOLD begins to with the next (R217). -/
def State.contributes (s : State) (u : Nat) : Bool :=
  let st := s.pstate (s.strPort u)
  s.inBmask u && s.estimates u && s.strPres u && !(s.str u).fresh && (st == 1 || st == 2 && (s.str u).onS)
    && s.rd (BAT_QFULL u) != 0 && Tab.get 0 s.gains (s.strPort u * 8 + 7) != 0

/-- The capacity that the hold-up unit counts with (R213, R391). -/
def State.capacity (s : State) (u : Nat) : Nat :=
  let q := (s.rd (BAT_QFULL u)).toNat
  min q (q * s.derate (s.strPort u) / 2 ^ 23)

/-- The energy of a contributing string in J (R213). -/
def State.ebat (s : State) (u : Nat) : Nat :=
  let qa := ((s.rd (BAT_SOC u)).toInt - (s.rd (BAT_SOCMIN u)).toInt).toNat
  let v10 := (s.strV u * (s.rd (BAT_VFS u)).toNat / 2 ^ 23).toNat
  qa * s.capacity u * (s.rd (BAT_IFS u)).toNat * v10 * (s.rd (BAT_ETAD u)).toInt.toNat / (2 ^ 46 * 1000000)

/-- The ride-through time in µs, from a load power that carries 24 extra fraction bits (R212, R214). -/
def rideTime (plf ecap ebat pbat : Nat) : Nat :=
  if plf = 0 then 2 ^ 48 - 1
  else
    let pb := if 0 < ebat then min plf (pbat * 2 ^ 24) else 0
    let pc := plf - pb
    let tb := if 0 < pb then ebat * 1000000 * 2 ^ 24 / pb else 0
    let t :=
      if pc = 0 then tb + ecap * 1000 * 2 ^ 24 / plf
      else
        let tc := ecap * 1000 * 2 ^ 24 / pc
        if pb = 0 ∨ tc ≤ tb then tc else tb + (ecap * 1000 * 2 ^ 24 - pc * tb) / plf
    min t (2 ^ 48 - 1)

/-- The cap level rises in HOLD where the ride-through time falls below a threshold (R216). -/
def State.capLevel (s : State) (t : Nat) : State :=
  let l := s.getF HLD_STAT HLD_STAT_LEVEL
  let n := if t < (s.rd HLD_TREQ2).toNat * 100 then 2 else if t < (s.rd HLD_TREQ1).toNat * 100 then 1 else 0
  if s.inHold ∧ l < n then { s.setF HLD_STAT HLD_STAT_LEVEL n with hld := { s.hld with rose := true } } else s

/-- The tick counts towards the end of HOLD where PFAIL_N was high in all of it and vbus is at or above VREL (R215). -/
def State.relTick (s : State) (v : Int) : State :=
  let rel := if s.hld.pinLow then none else if v < ((s.rd HLD_VREL).toNat : Int) then some 0
    else match s.hld.rel with | some r => some (r + s.period) | none => some 0
  { s with hld := { s.hld with rel := rel } }

/-- The reserve of the tick (R211 to R216). -/
def State.holdupReserve (s : State) : State :=
  let cyc := s.period - 480
  let v := s.vbus
  let ecap := s.ecap
  let plf := s.hld.plf + roundOff (s.loadPower * 2 ^ 24 - s.hld.plf) (s.getF HLD_CTL HLD_CTL_AVG) .halfEven
  let us := (List.range 32).filter s.contributes
  let eb := us.foldl (fun a u => a + s.ebat u) 0
  let pb := us.foldl (fun a u => a + (s.rd (BAT_PMAX u)).toNat) 0
  let low := us.any fun u => !s.flag (BAT_STAT u) BAT_STAT_CONF
  let e := (List.range 32).map fun u => (u, if us.contains u then s.ebat u else 0)
  let s := forList e (fun x s => s.wrPair (BAT_EAVAIL_LO x.1) (BAT_EAVAIL_HI x.1) x.2) s
  let s := { s with hld := { s.hld with plf := plf } }
  let pl := (plf / 2 ^ 24).toNat
  let s := (s.wr HLD_VBUS (word v)).wr HLD_ECAP (BitVec.ofNat 24 ecap)
  let s := (s.wrOpen HLD_PLOAD pl).wrOpen HLD_PBAT pb
  let t := rideTime plf.toNat ecap eb pb
  let s := (s.wrPair HLD_EBAT_LO HLD_EBAT_HI eb).wrPair HLD_TRIDE_LO HLD_TRIDE_HI t
  let under := decide (v < ((s.rd HLD_VMIN).toNat : Int))
  let s := (s.setF HLD_STAT HLD_STAT_LOWCONF (b2n low)).setF HLD_STAT HLD_STAT_BUSLOW (b2n under)
  let s : State := if s.inHold && under then s.raise HLD_BUS_LOW 0xFF cyc else s
  let s := if v ≤ (s.rd HLD_VDIS).toNat then { s with hld := { s.hld with busLow := true } } else s
  (s.relTick v).capLevel t

/-- HOLD_ENTRY (R215): at the first S after a recognised assertion, or after a tick with vbus at or below VDIS, the
hold-up unit enters HOLD where HLD_CTL.EN is 1; HLD_PFAIL is raised where PFAIL_N caused it. -/
def execHoldEntry (s : State) : Host.Outcome State Fault Refusal :=
  .next (
    let why := s.hld.asserted || s.hld.due.1
    let go := s.flag HLD_CTL HLD_CTL_EN && !s.inHold && (why || s.hld.busLow || s.hld.due.2)
    let s := { s with hld := { s.hld with asserted := false, busLow := false, due := (false, false) } }
    if go then
      let s := s.setF HLD_STAT HLD_STAT_HOLD 1
      if why then s.raiseAtS HLD_PFAIL 0xFF else s
    else s)

/-- At S the causes of HOLD of the tick that ends there are due (R215). -/
def State.holdTick (s : State) : State :=
  { s with hld := { s.hld with due := (s.hld.asserted, s.hld.busLow), asserted := false, busLow := false } }

/-- PFAIL_RELEASE (R215): PFAIL_N returns high. -/
def execPfailRelease (s : State) : Host.Outcome State Fault Refusal :=
  .next { s.setF HLD_STAT HLD_STAT_PFAIL 0 with hld := { s.hld with pinLow := false, rel := none } }

/-- At the S after the cap level rose, the entry of the level is requested and HLD_CAP is raised (R216). -/
def State.holdCapTick (s : State) : State :=
  if s.hld.rose then
    let e := if s.getF HLD_STAT HLD_STAT_LEVEL = 2 then s.getF HLD_CTL HLD_CTL_CAPENT2 else s.getF HLD_CTL HLD_CTL_CAPENT1
    { s.raise HLD_CAP 0xFF 0 with hld := { s.hld with rose := false, capReq := some e } }
  else s

end Sys2Proof.Machine
end

