-- ==== Sys2Proof/Machine/Order.lean ====
section
/-! DEFINITION. The order of events and the flag of concurrent ones (R31, R32). -/

namespace Sys2Proof.Machine

/-- What an S handles: an event of a fault source, or the record of a change of state (R31). -/
inductive Due where
  | fault (e : FaultEv)
  | change (r : Rec)
  deriving DecidableEq, Repr

/-- The tile of a change of state: the one that it names, for those of a tile (log entry 95). -/
def changeTile (r : Rec) : Nat := if r.code = 0x044 ∨ r.code = 0x0A1 then r.arg else 0

/-- The key of an event (R31). -/
def Due.key : Due → EvKey
  | .fault e => ⟨e.count, e.stamp, srcTile e.src, (srcPort e.src).getD 0xFF, e.src⟩
  | .change r => ⟨r.count, r.stamp, changeTile r, 0xFF, 0x1000 + r.code⟩

/-- The key of an event that a record shows (R31, R362). -/
def Rec.key (r : Rec) : EvKey := if r.type = 2 then (Due.change r).key else ⟨r.count, r.stamp, srcTile r.code, (srcPort r.code).getD 0xFF, r.code⟩

/-- Lists of numbers in order, the first number most significant. -/
def keyLe : List Nat → List Nat → Bool
  | a :: s, b :: t => if a = b then keyLe s t else decide (a < b)
  | [], _ => true
  | _, [] => false

/-- The numbers of a key in the order in which they are compared, with the age of the count first (R31). -/
def EvKey.nums (k : EvKey) (now : Nat) : List Nat := [(k.count + 2 ^ 48 - now) % 2 ^ 48, k.stamp, k.tile, k.port, k.code]

/-- An event in its place, after its equals. -/
def dueInsert (now : Nat) (e : Due) : List Due → List Due
  | [] => [e]
  | a :: t => if keyLe (a.key.nums now) (e.key.nums now) then a :: dueInsert now e t else e :: a :: t

/-- Are two events of the package concurrent (R32)? -/
def concurrent (a b : EvKey) : Bool :=
  a.tile != b.tile && a.count == b.count && decide (a.stamp ≤ b.stamp + 1) && decide (b.stamp ≤ a.stamp + 1)

/-- The pairs of a list in order that are concurrent (R32). -/
def concurrentPairs : List EvKey → List (EvKey × EvKey)
  | [] => []
  | a :: t => (t.filter (concurrent a)).map (fun b => (a, b)) ++ concurrentPairs t

/-- System time of an event in 78.125 ps units, at the rate in force (R30, R45). -/
def State.systemTime (s : State) (k : EvKey) : Nat := k.count * s.period * 16 + k.stamp * 2 ^ scaleOf s.period * 16

/-- Are events of two devices of a troupe concurrent: their system times differ by less than 40 ns (R32)? -/
def State.concurrentFar (s : State) (a b : EvKey) : Bool :=
  decide (s.systemTime a < s.systemTime b + 512) && decide (s.systemTime b < s.systemTime a + 512)

/-- The key of the event that the words of a record give (R31, R362). -/
def keyOfRecord (ws : List Word) : EvKey :=
  let w (k : Nat) : Nat := (ws.getD k 0).toNat
  let r : Rec := ⟨w 0 / 2 ^ 20, 0, false, w 0 % 4096, w 1 / 2 ^ 16, w 1 % 4096, w 2 + w 3 * 2 ^ 24, 0, 0, 0, 0, 0⟩
  r.key

/-- The keys of the device's own events that wait or stand in the recorder's buffer. -/
def State.ownKeys (s : State) : List EvKey :=
  s.rcd.buf.map Rec.key ++ s.rcd.wait.map Rec.key ++ s.flt.queue.map fun e => (Due.fault e).key

/-- The record of another device's event comes: the device's own events that are concurrent with it are flagged (R32). -/
def State.flagFar (s : State) (ws : List Word) : State :=
  let k := keyOfRecord ws
  { s with flt := { s.flt with conc := s.flt.conc ++ (s.ownKeys.filter fun a => s.concurrentFar a k).map fun a => (a, k) } }

end Sys2Proof.Machine
end

