-- ==== Sys2Proof/Machine/Wire.lean ====
section
/-! DEFINITION. Troupe cells, markers, echoes and management datagrams as the bytes that are sent, and their CRC-32C (R241, R244, R295,
R497). -/

namespace Sys2Proof.Machine

/-- A bit as a number. -/
def bit1 (b : Bool) : Nat := if b then 1 else 0

/-- CRC-32C over bytes in the order in which they are sent (R497). -/
def byteCrc (l : List Nat) : BitVec 32 := BitVec.ofNat 32 (crc32c l)

/-- Bytes 0 to 59 of a cell; a payload of fewer than 16 words is filled with zeros (R241). -/
def Cell.wire (c : Cell) : List Nat :=
  [c.ty * 16 + bit1 c.bcast * 8 + bit1 c.opn * 4 + bit1 c.ackv * 2] ++ beBytes 2 c.dst ++ beBytes 2 c.src
    ++ [c.port, c.epoch, c.rights] ++ beBytes 2 c.seq ++ beBytes 2 c.ack
    ++ (List.range 16).flatMap fun w => wordBytes (c.payload.getD w 0)

/-- Is the CRC of a cell right; is it the right one inverted (R243, R249)? -/
def Cell.crcOk (c : Cell) : Bool := c.crc == byteCrc c.wire
def Cell.crcInv (c : Cell) : Bool := c.crc == ~~~(byteCrc c.wire)

/-- A cell with its CRC, inverted for one that a forwarding device found damaged (R241, R249). -/
def Cell.sealed (c : Cell) (bad : Bool) : Cell :=
  let x := byteCrc c.wire
  { c with crc := if bad then ~~~x else x }

/-- Bytes 0 to 59 of a marker or an echo (R244). -/
def Marker.wire (m : Marker) : List Nat :=
  [16 + bit1 m.lull * 8 + bit1 m.aligned * 4 + bit1 m.ratev * 2 + bit1 m.timev] ++ beBytes 2 m.src ++ [m.sysEpoch, m.hops]
    ++ beBytes 6 m.count ++ beBytes 3 m.n ++ beBytes 6 m.rateAt ++ beBytes 3 m.newN ++ beBytes 4 (BitVec.ofInt 32 m.rx).toNat
    ++ beBytes 2 (bit1 m.almv * 4096 + m.almAck) ++ beBytes 6 m.tCount ++ beBytes 6 m.tSec ++ beBytes 4 m.tNs ++ List.replicate 15 0

def Marker.crcOk (m : Marker) : Bool := m.crc == byteCrc m.wire
def Marker.sealed (m : Marker) : Marker := { m with crc := byteCrc m.wire }

/-- The payload of a datagram by its operation (R296); the flags of BULK take one byte (log entry 102). -/
def Dgram.body (d : Dgram) : List Nat :=
  let words := (if [1, 2, 3, 4, 6, 7].contains d.op then (List.range 16).map fun w => d.words.getD w 0 else d.words).flatMap wordBytes
  if d.op = 0x10 ∨ d.op = 0x11 then beBytes 6 d.off ++ [d.flags % 256] ++ d.bytes
  else if d.op = 0x12 ∨ d.op = 0x13 then beBytes 6 d.off ++ words ++ d.bytes
  else if d.op = 0x20 ∨ d.op = 0x21 then beBytes 4 d.num
  else words

/-- The header and the payload of a datagram (R295). -/
def Dgram.wire (d : Dgram) : List Nat :=
  let body := d.body
  [d.ver * 16, d.op] ++ beBytes 2 d.session ++ beBytes 2 d.seq ++ beBytes 2 (bit1 d.ackv * 2 ^ 15 + d.ack) ++ beBytes 2 d.target
    ++ [d.port, d.epoch] ++ beBytes 2 body.length ++ [0, 0] ++ body

def Dgram.crcOk (d : Dgram) : Bool := d.crc == byteCrc d.wire
def Dgram.sealed (d : Dgram) : Dgram := { d with crc := byteCrc d.wire }

end Sys2Proof.Machine
end

