-- ==== Sys2Proof/Machine/Troupe.lean ====
section
/-! DEFINITION. Troupe links: slots, queues, forwarding, sequence numbers, markers and echoes, alarms (R234 to R263). -/

namespace Sys2Proof.Machine

/-! ### The device in its troupe (R235, R255) -/

def State.role (s : State) : Nat := s.getF TRP_STAT TRP_STAT_ROLE
def State.isRing (s : State) : Bool := s.role == 2
def State.myAddr (s : State) : Nat := s.getF TRP_ADDR TRP_ADDR_ADDR
def State.addressed (s : State) : Bool := s.isRing || s.flag TRP_ADDR TRP_ADDR_VALID
def State.myEpoch (s : State) : Nat := s.getF TRP_ADDR TRP_ADDR_EPOCH
def State.sstate (s : State) : Nat := s.getF TRP_STAT TRP_STAT_SSTATE
def State.setSstate (s : State) (v : Nat) : State := s.setF TRP_STAT TRP_STAT_SSTATE v
/-- Does link `l` face downstream (R235)? -/
def State.linkDown (s : State) (l : Nat) : Bool := (s.getF TRP_CTL TRP_CTL_DOWN).testBit l
def State.linkEn (s : State) (l : Nat) : Bool := (s.getF TRP_CTL TRP_CTL_EN).testBit l
def State.linkState (s : State) (l : Nat) : Nat := s.getF (TRP_LNK_STAT l) TRP_LNK_STAT_STATE
/-- Is link `l` up, at full or at low rate? -/
def State.linkUp (s : State) (l : Nat) : Bool := s.linkState l == 2 || s.linkState l == 3
/-- The upstream link of a member (R235). -/
def State.upLink (s : State) : Option Nat :=
  if s.isRing then none else (List.range 6).find? fun l => s.linkEn l && !s.linkDown l
def State.downLinks (s : State) : List Nat := (List.range 6).filter fun l => s.linkEn l && s.linkDown l
def State.thru (s : State) : Nat := s.getF TRP_CTL TRP_CTL_THRU
/-- The links that head strings of this device: all downstream ones of a ringmaster, all but the through link of a member
(R235). -/
def State.headLinks (s : State) : List Nat := s.downLinks.filter fun l => s.isRing || l != s.thru

/-- A write of TRP_CTL that would give a member no upstream link, more than one, or a through link that is not downstream
is refused (R235). A disabled link is off; one that is enabled trains. -/
def State.trpCtlWrite (s : State) (w : Word) : State × Bool :=
  let dn := TRP_CTL_DOWN.get w
  let en := TRP_CTL_EN.get w
  let ups := (List.range 6).filter fun l => en.testBit l && !dn.testBit l
  if !s.isRing ∧ (ups.length ≠ 1 ∨ !dn.testBit (TRP_CTL_THRU.get w)) then (s, false)
  else
    let s := forEach 6 (fun l s =>
      if !en.testBit l then s.setF (TRP_LNK_STAT l) TRP_LNK_STAT_STATE 0
      else if !s.linkEn l then s.setF (TRP_LNK_STAT l) TRP_LNK_STAT_STATE 1 else s) s
    (s.wr TRP_CTL (w &&& 0x07BF3F), true)

/-! ### Cells and queues (R240, R248) -/

/-- The traffic class of a cell type (R240); an IDLE cell that carries an ACK goes with the control cells. -/
def classOf (ty : Nat) : Nat := if ty = 2 ∨ ty = 8 then 1 else if ty = 0xA ∨ ty = 0xB then 3 else if ty = 0xC then 4
  else if ty = 0xD then 5 else 2

/-- Does a type carry a sequence number of a stream (R251)? -/
def inStream (ty : Nat) : Bool := [3, 4, 9, 0xA, 0xB, 0xC, 0xD].contains ty

/-- The register that counts drops of a class (R240). -/
def dropLoc (cl : Nat) : Loc := if cl = 3 then TRP_DROP 0 else if cl = 4 then TRP_DROP 1 else if cl = 5 then TRP_DROP 2 else TRP_DROP 4

/-- Without the newest queued cell of a class, if one waits. -/
def dropNewest (cl : Nat) (q : List QCell) : Option (List QCell) :=
  match q.reverse.findIdx? fun x => classOf x.c.ty == cl with
  | some k => some (q.eraseIdx (q.length - 1 - k))
  | none => none

/-- A cell enters a queue of link `m`; a full shared queue loses its newest log cell, else its newest bulk cell, else the
arriving cell; a full control queue discards (R240). -/
def State.enqueue (s : State) (m : Nat) (q : QCell) (cyc : Nat) : State :=
  let x := s.link m
  let cl := classOf q.c.ty
  let s := if q.fwd then s.countP m 0x72 1 else s
  if cl = 1 then s.modLink m fun x => { x with sheds := x.sheds ++ [q] }
  else if cl = 2 then
    if x.ctl.length < 32 then s.modLink m fun x => { x with ctl := x.ctl ++ [q] }
    else if q.fwd then ((s.bump (TRP_DROP 4)).countP m 0x74 1).raise TRP_DROP_CTL m cyc else s
  else if x.shared.length < 64 then s.modLink m fun x => { x with shared := x.shared ++ [q] }
  else match dropNewest 5 x.shared with
    | some l => ((s.bump (TRP_DROP 2)).countP m 0x74 1).modLink m fun x => { x with shared := l ++ [q] }
    | none =>
      match dropNewest 4 x.shared with
      | some l => ((s.bump (TRP_DROP 1)).countP m 0x74 1).modLink m fun x => { x with shared := l ++ [q] }
      | none => (s.bump (dropLoc cl)).countP m 0x74 1

/-- A cell of this device with a type, a destination and its words. -/
def State.cellOf (s : State) (ty dst : Nat) (payload : List Word) : Cell :=
  { ty := ty, bcast := false, opn := false, ackv := false, dst := dst, src := s.myAddr, port := 0xFF, epoch := 0,
    rights := 0x1F, seq := 0, ack := 0, payload := payload, crc := 0 }

/-- The cell of a stream takes the next number; the first one to an address opens the stream (R241, R251). -/
def State.number (s : State) (c : Cell) : Cell × State :=
  if inStream c.ty then
    let k := Tab.get 0 s.trp.seq c.dst
    ({ c with seq := k % 4096, opn := k == 0 }, { s with trp := { s.trp with seq := Tab.set 0 s.trp.seq c.dst (k + 1) } })
  else (c, s)

/-- The link toward an address: its route, else the upstream link (R247). Behind a downstream link that is not up there is no route
(R269). -/
def State.routeTo (s : State) (a : Nat) : Option Nat :=
  match Tab.get none s.trp.route a with
  | some m => if s.linkUp m then some m else none
  | none => s.upLink

/-- The device originates a cell: it goes into a queue of the link toward its destination. -/
def State.originate (s : State) (c : Cell) (cyc : Nat) : State :=
  match s.routeTo c.dst with
  | none => s
  | some m => let n := s.number c; n.2.enqueue m ⟨n.1, false, s.mer.count, cyc, false⟩ cyc

/-- The device sends a cell on a link itself, without a route. -/
def State.sendOn (s : State) (m : Nat) (c : Cell) (cyc : Nat) : State := s.enqueue m ⟨c, false, s.mer.count, cyc, false⟩ cyc

/-- The rights of an arrival port in force (R337). -/
def State.rightsOf (s : State) (port : Nat) : Nat := s.getF (RGT_PORT port) RGT_PORT_RIGHTS

/-- RESULT of a command of `dst` (R246). -/
def State.sendResult (s : State) (dst cseq status : Nat) (data : List Word) (cyc : Nat) : State :=
  s.originate (s.cellOf 4 dst (BitVec.ofNat 24 (cseq * 4096 + status) :: data)) cyc

/-- A cell is forwarded on the links `ms`, with RIGHTS intersected with those of its arrival link; `bad`: its CRC proved wrong here (R247,
R249). -/
def State.forward (s : State) (l : Nat) (ms : List Nat) (c : Cell) (bad : Bool) (cyc : Nat) : State :=
  forList ms (fun m s => s.enqueue m ⟨{ c with rights := c.rights &&& s.rightsOf (6 + l) }, true, s.mer.count, cyc, bad⟩ cyc) s

/-- Does link `l` carry traffic: enabled, and downstream where the device is the ringmaster (R235)? -/
def State.carries (s : State) (l : Nat) : Bool := s.linkEn l && (!s.isRing || s.linkDown l)

/-- A marker, an echo or a cell reaches a link that carries traffic: it counts as received, and a wrong CRC discards it, with TRP_CRC
(R243, R450). -/
def State.linkIn (s : State) (l cyc : Nat) (ok : Bool) (k : State → State) : State :=
  if !s.carries l then s
  else
    let s := s.countP l 0x71 1
    if !ok then ((s.bump (TRP_LNK_ERR l)).countP l 0x73 1).raise TRP_CRC l cyc else k s

/-- A cell reaches a link. One with its CRC inverted is discarded: a hop before has counted it. One that proves damaged here is counted
here, and still leaves on the links `ms` that it would have left on (R249). -/
def State.cellLink (s : State) (l cyc : Nat) (c : Cell) (ms : State → List Nat) (k : State → State) : State :=
  if s.carries l && c.crcInv then s.countP l 0x71 1
  else
    let hurt := s.carries l && !c.crcOk
    let s := s.linkIn l cyc c.crcOk k
    if hurt then s.forward l (ms s) c true cyc else s

/-- The links on which a cell that arrives on link `l` is forwarded (R247); an unaddressed device passes on nothing (R264). -/
def State.cellRoute (s : State) (l : Nat) (c : Cell) : List Nat :=
  if !s.addressed || decide (0xE ≤ c.ty) then []
  else if c.bcast then if s.upLink = some l then s.downLinks.filter (· != l) else []
  else if c.dst = s.myAddr then []
  else match s.routeTo c.dst with | some m => if s.upLink = some m ∧ m = l then [] else [m] | none => []

/-- A cell arrives on link `l`: a wrong CRC or a reserved type discards it (R242, R243); it is delivered, `local`, or
forwarded, or both; a CMD for which there is no route is answered (R247). -/
def State.cellIn (s : State) (l cyc : Nat) (c : Cell) (local_ : State → State) : State :=
  s.cellLink l cyc c (fun s => s.cellRoute l c) fun s =>
    if 0xE ≤ c.ty then (s.bump (TRP_LNK_ERR l)).countP l 0x73 1
    else
      let ms := s.cellRoute l c
      if c.bcast then if s.upLink = some l then (local_ s).forward l ms c false cyc else s
      else if s.addressed && c.dst == s.myAddr then local_ s
      else if s.addressed && ms.isEmpty && c.ty == 3 then s.sendResult c.src c.seq 7 [] cyc
      else s.forward l ms c false cyc

/-! ### Streams (R251 to R254) -/

/-- Is the number `k` below the highest accepted one marked? -/
def Stream.marked (t : Stream) (k : Nat) : Bool := decide (k < 256) && t.marks.testBit k

/-- Advance the number up to which nothing is missing. -/
def Stream.fill : Nat → Stream → Stream
  | 0, t => t
  | n + 1, t =>
    let f := (t.full + 1) % 4096
    if t.full ≠ t.e ∧ t.marked ((t.e + 4096 - f) % 4096) then Stream.fill n { t with full := f } else t

/-- The acceptance rule (R252): 0 accepted, 1 a duplicate, 4 outside the window. -/
def Stream.take (t : Stream) (q : Nat) : Stream × Nat :=
  let d := (q + 4096 - t.e) % 4096
  if 1 ≤ d ∧ d ≤ 256 then
    (Stream.fill 257 { t with e := q, marks := (t.marks * 2 ^ d + 1) % 2 ^ 256, owed := true }, 0)
  else if d = 0 ∨ 3841 ≤ d then
    let k := (4096 - d) % 4096
    if t.marked k then ({ t with owed := true }, 1)
    else (Stream.fill 257 { t with marks := t.marks ||| 2 ^ k, owed := true }, 0)
  else (t, 4)

/-- The stream of a source, if there is state for it. -/
def State.stream (s : State) (a : Nat) : Option Stream := s.trp.streams.find? fun t => t.src == a

/-- Put a stream first, as the one most recently heard, keeping 64 (R251). -/
def State.putStream (s : State) (t : Stream) : State :=
  { s with trp := { s.trp with streams := (t :: s.trp.streams.filter fun u => u.src != t.src).take 64 } }

/-- The sequence check of an arriving cell (R251, R252): 0 accepted, 1 a duplicate, 4 SEQ_RANGE, 6 NO_STREAM. -/
def State.streamIn (s : State) (c : Cell) : State × Nat :=
  let t : Option Stream :=
    if c.opn then
      let b := (c.seq + 4095) % 4096
      some { src := c.src, e := b, marks := 0, full := b, results := ((s.stream c.src).map (·.results)).getD [] }
    else s.stream c.src
  match t with
  | none => (s, 6)
  | some t => let r := t.take c.seq; (s.putStream r.1, r.2)

/-- The result of a command of a cell is kept for repeats: the last 16 (R251, R253). -/
def keepResult (ts : List Stream) (src seq : Nat) (ws : List Word) : List Stream :=
  ts.map fun (t : Stream) => if t.src = src then { t with results := ((seq, ws) :: t.results).take 16 } else t

/-- An acknowledgement that a cell carries (R254). -/
def State.ackIn (s : State) (c : Cell) : State :=
  if c.ackv then { s with trp := { s.trp with acks := Tab.set none s.trp.acks c.src (some c.ack) } } else s

/-- ROLE_STALE: the refusal counts and raises its source; a CMD or a QUERY is answered with role, address and epoch
(R256). -/
def State.roleStale (s : State) (c : Cell) (cyc : Nat) : State :=
  let s := (s.bump TRP_STALE_CNT).raise TRP_ROLE_STALE 0xFF cyc
  if c.ty = 3 ∨ c.ty = 5 then
    s.sendResult c.src c.seq 1 [BitVec.ofNat 24 s.role, BitVec.ofNat 24 s.myAddr, BitVec.ofNat 24 s.myEpoch] cyc
  else s

/-- A delivered cell of a stream that is no command: the acknowledgement, the sequence rule, then its effect (R253, R254). -/
def State.streamCell (s : State) (c : Cell) (effect : State → State) : State :=
  let r := (s.ackIn c).streamIn c
  if r.2 = 0 then effect r.1 else r.1

/-- A cell for the steward of tile 0 or for an outside reader is kept, and interrupt source 4 becomes pending (R68). -/
def State.keepCell (s : State) (c : Cell) : State :=
  { s with trp := { s.trp with inbox := s.trp.inbox ++ [c] } }.irq 0 4

/-- IDLE_CELL (R242, R254): an IDLE cell delivers the acknowledgement it carries. -/
def execIdleCell (l : Nat) (c : Cell) (cyc : Nat) (s : State) : Host.Outcome State Fault Refusal :=
  .next (if c.ackv then s.cellIn l cyc c fun s => s.ackIn c else s.cellLink l cyc c (fun _ => []) id)

/-- ANSWER_CELL (R250): the answer to a query reaches the querier. -/
def execAnswerCell (l : Nat) (c : Cell) (cyc : Nat) (s : State) : Host.Outcome State Fault Refusal :=
  .next (s.cellIn l cyc c fun s => (s.ackIn c).keepCell c)

/-- REC_CELL (R32, R377): a cell of records is handed to the steward through interrupt source 4; the device's own events that are
concurrent with the record's are flagged. -/
def execRecCell (l : Nat) (c : Cell) (cyc : Nat) (s : State) : Host.Outcome State Fault Refusal :=
  .next (s.cellIn l cyc c fun s => s.streamCell c fun s => (s.keepCell c).flagFar c.payload)

/-- LOG_CELL (R242, R251): steward log text is received. -/
def execLogCell (l : Nat) (c : Cell) (cyc : Nat) (s : State) : Host.Outcome State Fault Refusal :=
  .next (s.cellIn l cyc c fun s => s.streamCell c fun s => s.keepCell c)

/-- SHARE_CELL (R256, R271, R290): a sharing word goes through the write buffer to the coefficient and table RAM, at BASE +
slot, and its CAPPED to BASE + 16 + slot; it is discarded while EN is 0. -/
def execShareCell (l : Nat) (c : Cell) (cyc : Nat) (s : State) : Host.Outcome State Fault Refusal :=
  .next (s.cellIn l cyc c fun s =>
    if !c.bcast ∧ c.epoch ≠ s.myEpoch then s.roleStale c cyc
    else s.streamCell c fun s =>
      if !s.flag TRP_SHR_IN TRP_SHR_IN_EN then s
      else
        let a := (s.getF TRP_SHR_IN TRP_SHR_IN_BASE + (c.payload.headD 0).toNat % 16) % 65536
        let b := (a + 16) % 65536
        let capped : Word := if (c.payload.headD 0).getLsbD 23 then 1 else 0
        let n := s.getF TRP_SHR_IN TRP_SHR_IN_TILE
        (s.cramPut n a (c.payload.getD 1 0) cyc).cramPut n b capped cyc)

/-- ACK_IDLE_SEND (R254): no cell has gone to a stream's source within 1 ms: an IDLE cell carries the ACK. -/
def execAckIdleSend (a cyc : Nat) (s : State) : Host.Outcome State Fault Refusal :=
  .next (
    match s.stream a with
    | some t => if t.owed then s.originate (s.cellOf 0 a []) cyc else s
    | none => s)

/-! ### Alarms (R261 to R263) -/

/-- An alarm entry of this device (R261). -/
def State.alarmOwn (s : State) (tier code : Nat) : State :=
  { s with trp := { s.trp with own := s.trp.own ++ [⟨tier, false, code, s.myAddr, s.mer.count⟩] } }

/-- Fold an entry into the count of its tier and code; a count saturates at 16,383 (R262). -/
def foldIn (t : Tab (Nat × Nat)) (e : AEnt) : Tab (Nat × Nat) :=
  let k := e.tier * 4096 + e.code
  let c := Tab.get (0, 0) t k
  Tab.set (0, 0) t k (min 16383 (c.1 + if e.sum then e.n else 1), if c.1 = 0 then e.born else min c.2 e.born)

/-- Does an entry precede another: higher tier, then older (R262)? -/
def AEnt.before (a b : AEnt) : Bool := decide (b.tier < a.tier) || (a.tier == b.tier && decide (a.born ≤ b.born))

/-- Put an entry in its place, after its equals. -/
def sortIn (e : AEnt) : List AEnt → List AEnt
  | [] => [e]
  | a :: t => if a.before e then a :: sortIn e t else e :: a :: t

/-- The pending entries in order: fold summaries, own entries, received entries (R262). -/
def State.alarmPending (s : State) : List AEnt :=
  let f : List AEnt := s.trp.fold.map fun e => ⟨e.1 / 4096, true, e.1 % 4096, e.2.1, e.2.2⟩
  (f ++ s.trp.own ++ s.trp.recv).foldl (fun l e => sortIn e l) []

/-- The bits of an entry (R245). -/
def AEnt.bits (e : AEnt) : Nat := e.tier * 2 ^ 30 + (if e.sum then 2 ^ 29 else 0) + e.code % 4096 * 2 ^ 17 + e.n % 16384

/-- The words of an alarm cell: twelve entries, first entry first; a place of zeros holds none (log entry 36). -/
def alarmWords (l : List AEnt) : List Word :=
  let n := (List.range 12).foldl (fun n k => n * 2 ^ 32 + match l[k]? with | some e => e.bits | none => 0) 0
  (List.range 16).map fun w => BitVec.ofNat 24 (n / 2 ^ (24 * (15 - w)))

/-- The entries of an alarm cell's words (R245). -/
def alarmEntries (ws : List Word) (born : Nat) : List AEnt :=
  let n := (List.range 16).foldl (fun n k => n * 2 ^ 24 + (ws.getD k 0).toNat) 0
  ((List.range 12).map fun k => n / 2 ^ (32 * (11 - k)) % 2 ^ 32).filterMap fun b =>
    if b = 0 then none else some ⟨b / 2 ^ 30, b / 2 ^ 29 % 2 == 1, b / 2 ^ 17 % 4096, b % 16384, born⟩

/-- The tick's alarm cell: the first twelve entries leave, the others fold (R261 to R263). -/
def State.alarmCell (s : State) : State × Option Cell :=
  let all := s.alarmPending
  if all.isEmpty then (s, none)
  else
    let go := all.take 12
    let rest := all.drop 12
    let fresh := rest.filter fun e => !e.sum || s.trp.recv.contains e
    let q := s.mer.count % 4096
    let c := { s.cellOf 2 0 (alarmWords go) with seq := q }
    let s := forList fresh (fun _ s => s.bump TRP_ALM_FOLD) s
    ({ s with trp := { s.trp with own := [], recv := [], fold := rest.foldl foldIn [],
                                  sent := ((q, s.mer.count, go) :: s.trp.sent).take 16 } }, some c)

/-- ALARM_CELL (R261, R263): an alarm cell from downstream: its entries wait for the next alarm cell, and the next marker
acknowledges it. -/
def execAlarmCell (l : Nat) (c : Cell) (cyc : Nat) (s : State) : Host.Outcome State Fault Refusal :=
  .next (
    if !s.linkDown l then s
    else s.cellLink l cyc c (fun _ => []) fun s =>
      let s := { s with trp := { s.trp with recv := s.trp.recv ++ alarmEntries c.payload s.mer.count } }
      s.modLink l fun x => { x with almAck := some c.seq })

/-- ALARM_FOLD_BACK (R263): the entries of an alarm cell that 16 ticks have not acknowledged fold back. -/
def execAlarmFoldBack (q : Nat) (s : State) : Host.Outcome State Fault Refusal :=
  .next (
    match s.trp.sent.find? fun x => x.1 == q with
    | none => s
    | some x =>
      if (s.mer.count + 2 ^ 48 - x.2.1) % 2 ^ 48 < 16 then s
      else
        let s := forList x.2.2 (fun _ s => s.bump TRP_ALM_FOLD) s
        { s with trp := { s.trp with fold := x.2.2.foldl foldIn s.trp.fold, sent := s.trp.sent.filter fun y => y.1 != q } })

/-! ### Slots (R238, R239, R244, R248) -/

/-- The marker or echo of link `l` (R244). -/
def State.markerOf (s : State) (l : Nat) : Marker :=
  let dn := s.linkDown l
  let ann : Option (Nat × Nat) :=
    if s.isRing then match s.mer.rate with | some r => r.tick.map fun k => (k, r.n) | none => none else s.trp.ann
  let t := s.trp.time.getD (0, 0, 0)
  { lull := (s.link l).lull || s.linkState l == 3
    aligned := s.addressed && s.flag TRP_STAT TRP_STAT_ALIGNED
    ratev := dn && ann.isSome
    timev := s.trp.time.isSome
    src := if s.addressed then s.myAddr else 0x3FFF
    sysEpoch := s.trp.sentEpoch
    hops := s.getF TRP_SYS TRP_SYS_HOPS
    count := s.mer.count, n := s.period
    rateAt := if dn then (ann.getD (0, 0)).1 else 0, newN := if dn then (ann.getD (0, 0)).2 else 0
    rx := if dn then (s.link l).rx4 else (s.link l).rx2
    almv := dn && (s.link l).almAck.isSome
    almAck := if dn then ((s.link l).almAck).getD 0 else 0
    tCount := t.1, tSec := t.2.1, tNs := t.2.2
    crc := 0 : Marker }.sealed

/-- Slots in a tick, and on a link at low rate in a frame of 100 µs (R238, R260). -/
def State.slots (s : State) (l : Nat) : Nat := if s.linkState l = 3 then 80000 / 4160 else s.period / 208

/-- The lane cycle, from the S of the tick in which slot `j` begins: a frame at low rate spans ticks of a device in Run (R260). -/
def State.slotAt (s : State) (l j : Nat) : Nat := if s.linkState l = 3 then j * 4160 % s.period else j * 208

/-- A forwarded cell waits 40 ns, an ANSWER 300 ns, and both go before the other queued cells (R248, R250). -/
def QCell.ready (q : QCell) (now at_ : Nat) : Bool :=
  q.count != now || decide (q.cyc + (if q.fwd then 32 else if q.c.ty = 6 then 240 else 0) ≤ at_)
def QCell.first (q : QCell) : Bool := q.fwd || q.c.ty == 6

/-- The cell for slot `j` from 2 on: control cells in slots 2 and 3 first; from slot 4 on forwarded cells, then originated
cells, in class order (R239, R240, R248). -/
def State.slotPick (s : State) (l j : Nat) : Option QCell :=
  let at_ := s.slotAt l j
  let x := s.link l
  let ctl := x.ctl.filter fun q => q.ready s.mer.count at_
  let sh (cl : Nat) := x.shared.filter fun q => classOf q.c.ty == cl && q.ready s.mer.count at_
  let shared := sh 3 ++ sh 4 ++ sh 5
  let sheds := x.sheds.filter fun q => q.ready s.mer.count at_
  let first := sheds.find? QCell.first <|> ctl.find? QCell.first
  let own := ctl.find? fun q => !q.first
  let fwd := shared.find? QCell.first
  if j < 4 then first <|> own <|> fwd else first <|> fwd <|> sheds.head? <|> own <|> shared.head?

/-- A cell leaves in the present slot: it leaves its queue, a cell of this device carries the ACK that its destination's stream is owed
(R254), and it takes its CRC (R241, R249). -/
def State.slotSend (s : State) (l : Nat) (q : QCell) : State :=
  let s := (s.countP l 0x70 1).modLink l fun x => { x with ctl := x.ctl.erase q, shared := x.shared.erase q, sheds := x.sheds.erase q }
  match if q.fwd then none else s.stream q.c.dst with
  | some t =>
    let s := { s with trp := { s.trp with streams := s.trp.streams.map fun (u : Stream) => if u.src = t.src then { u with owed := false } else u } }
    s.modLink l fun x => { x with out := some (.cell (Cell.sealed { q.c with ackv := true, ack := t.full } q.bad)) }
  | none => s.modLink l fun x => { x with out := some (.cell (q.c.sealed q.bad)) }

/-- LINK_SLOT (R238 to R240, R244, R248, R262): slot `j` of a tick begins on link `l`, which is up. -/
def execLinkSlot (l j : Nat) (s : State) : Host.Outcome State Fault Refusal :=
  .next (
    if !s.linkUp l ∨ !s.carries l ∨ s.slots l ≤ j then s
    else
      let s := s.modLink l fun x => { x with delim := some (if j = 0 then .k27_7 else .k28_5) }
      let idle (s : State) : State := (s.countP l 0x70 1).modLink l fun x => { x with out := some .idle }
      if j = 0 then
        (s.countP l 0x70 1).modLink l fun x => { x with out := some (.marker (s.markerOf l)), almAck := none }
      else if j = 1 then
        if s.linkDown l then
          match (s.link l).sheds.find? fun q => q.ready s.mer.count (s.slotAt l 1) with
          | some q => s.slotSend l q
          | none => idle s
        else
          let r := s.alarmCell
          match r.2 with
          | some c => (r.1.countP l 0x70 1).modLink l fun x => { x with out := some (.cell (c.sealed false)) }
          | none => idle s
      else match s.slotPick l j with
        | some q => s.slotSend l q
        | none => idle s)

/-! ### Markers and echoes (R257 to R260, R265) -/

/-- Is the device aligned, given whether its upstream partner is (R258)? -/
def State.alignedNow (s : State) : Bool :=
  s.isRing || (s.getF PWS_STAT PWS_STAT_STATE != 3 && match s.upLink with
    | some l => s.mer.srcNow == 2 && s.lockState == 1 && s.flag (TRP_LNK_STAT l) TRP_LNK_STAT_PARTNER_ALIGNED
    | none => false)

/-- TRP_STAT.ALIGNED follows; a device that is aligned again in the survey in force sends its epoch (R258, R265). -/
def State.alignedSettle (s : State) : State :=
  let a := s.alignedNow
  let s := s.setF TRP_STAT TRP_STAT_ALIGNED (b2n a)
  if a && (s.isRing || s.sstate == 4) then { s with trp := { s.trp with sentEpoch := s.getF TRP_SYS TRP_SYS_SYS_EPOCH } } else s

/-- A phase measurement of the upstream link: delay and theta in 78.125 ps units; the mean of 64 is the phase error of the
tick (R39, R257). Halves are taken downward (log entry 37). `used`: with source LINK, the marker lies in the lock range, else it corrects
nothing (R40). -/
def State.thetaIn (s : State) (l : Nat) (t2 t4 : Int) (used : Bool) : State :=
  let th := (t4 - t2) / 2 + (s.rd (TRP_LNK_ASYM l)).toInt
  let s := (s.wr (TRP_LNK_DLY l) (word ((t2 + t4) / 2))).wr (TRP_LNK_OFS l) (word th)
  if s.mer.srcNow = 2 ∧ !used then s
  else
  let sum := s.trp.tsum + th
  let n := s.trp.tnum + 1
  if n < 64 then { s with trp := { s.trp with tsum := sum, tnum := n } }
  else
    let m := roundq sum 64
    let s := { s with trp := { s.trp with tsum := 0, tnum := 0, theta := m } }
    if s.mer.srcNow = 2 then { s with mer := { s.mer with err := -m } } else s

/-- A marker with a new survey epoch takes a member back to WAIT; an addressed device needs a new ASSIGN (R265). -/
def State.epochIn (s : State) (e hops : Nat) : State :=
  let s := s.setF TRP_SYS TRP_SYS_HOPS (hops + 1)
  if e = s.getF TRP_SYS TRP_SYS_SYS_EPOCH ∨ s.isRing then s
  else
    let s := (s.setF TRP_SYS TRP_SYS_SYS_EPOCH e).setF TRP_ADDR TRP_ADDR_VALID 0
    let s := { s with trp := { s.trp with measured := false, adopt := none } }
    if s.sstate = 0 then s else s.setSstate 1

/-- An announced rate change starts the check of R51 at its first marker (R259). -/
def State.annIn (s : State) (m : Marker) : State :=
  if !m.ratev then { s with trp := { s.trp with ann := none } }
  else if s.trp.ann = some (m.rateAt, m.newN) then s
  else
    let s := { s with trp := { s.trp with ann := some (m.rateAt, m.newN) } }
    if s.mer.srcNow ≠ 2 then s
    else { s with mer := { s.mer with annRate := some ⟨m.newN, true, m.rateAt, none, false, true⟩ } }.ratePend

/-- MARKER_CELL (R244, R257 to R259, R263, R265, R268): a downstream marker arrives on the upstream link, `t2` units after
this device's S of its COUNT and `gap` units after the marker before it. -/
def execMarkerCell (l : Nat) (m : Marker) (t2 : Int) (gap cyc : Nat) (s : State) : Host.Outcome State Fault Refusal :=
  .next (
    if s.linkDown l ∨ s.isRing then s
    else s.linkIn l cyc m.crcOk fun s =>
      let s := s.setF (TRP_LNK_STAT l) TRP_LNK_STAT_PARTNER_ALIGNED (b2n m.aligned)
      let s := s.modLink l fun x => { x with rx2 := t2 }
      let s := s.thetaIn l t2 m.rx (s.mer.srcNow == 2 && s.edgeCounts gap)
      let s := if s.mer.srcNow = 2 then s.refEdge gap s.mer.err else s
      let s := s.annIn m
      let s := if m.almv then { s with trp := { s.trp with sent := s.trp.sent.filter fun x => x.1 != m.almAck } } else s
      let s := if m.timev then { s with trp := { s.trp with time := some (m.tCount, m.tSec, m.tNs) } } else s
      let s := { s.epochIn m.sysEpoch m.hops with trp := { (s.epochIn m.sysEpoch m.hops).trp with upN := m.n } }
      let s := if s.trp.measured && s.trp.adopt.isNone then
          { s with trp := { s.trp with adopt := some ((m.count + 2) % 2 ^ 48) } } else s
      s.alignedSettle)

/-- ECHO_CELL (R244, R257, R260): an upstream echo arrives on a downstream link, `t4` units after this device's S of its
COUNT; one with LULL takes the link to low rate, one without takes it back. -/
def execEchoCell (l : Nat) (m : Marker) (t4 : Int) (cyc : Nat) (s : State) : Host.Outcome State Fault Refusal :=
  .next (
    if !s.linkDown l then s
    else s.linkIn l cyc m.crcOk fun s =>
      let s := s.setF (TRP_LNK_STAT l) TRP_LNK_STAT_PARTNER_ALIGNED (b2n m.aligned)
      let s := if s.linkUp l then s.setF (TRP_LNK_STAT l) TRP_LNK_STAT_STATE (if m.lull then 3 else 2) else s
      s.modLink l fun x => { x with rx4 := t4 })

end Sys2Proof.Machine
end

