-- ==== Sys2Proof/Machine/Capping.lean ====
section
/-! DEFINITION. The cap unit: sources and their combination, the pin, the shed sequence, shed waves; the end of HOLD (R215,
R274 to R290). -/

namespace Sys2Proof.Machine

/-! ### Combination (R276 to R278) -/

/-- A word of the cap table as it takes part: as it stood at the last S (R277). -/
def State.capWord (s : State) (l : Loc) : Word := (Tab.get none s.cap.old l.addr).getD (s.rd l)

/-- A write of the cap table takes effect at the next S (R277). -/
def State.capTableWrite (s : State) (l : Loc) (w : Word) : State :=
  let keep := s.capWord l
  { s.wr l w with cap := { s.cap with old := Tab.set none s.cap.old l.addr (some keep) } }

/-- The entries in force (R276). -/
def State.capEntries (s : State) : Nat :=
  let m := s.getF CAP_WV_MASK CAP_WV_MASK_MASK ||| s.getF CAP_LOCAL CAP_LOCAL_MASK
  let m := if s.flag CAP_STAT CAP_STAT_PIN then m ||| 2 ^ s.cap.armed else m
  match s.hld.capReq with | some e => m ||| 2 ^ e | none => m

/-- The limit of a rail over the entries in force (R277). -/
def State.capLimit (s : State) (m r : Nat) : Word :=
  ((List.range 16).filter m.testBit).foldl (fun v e =>
    let w := s.capWord (CAP_ENT_RAIL e r)
    if w.toInt < v.toInt then w else v) 0x7FFFFF

/-- The shed target over the entries in force (R277). -/
def State.capTarget (s : State) (m : Nat) : Nat :=
  ((List.range 16).filter m.testBit).foldl (fun t e => t ||| CAP_ENT_CTL_SHED.get (s.capWord (CAP_ENT_CTL e))) 0

/-- A class that joins the target in tick `k` gets its due tick; one that leaves it loses it (R281). -/
def State.capDue (s : State) (k tgt : Nat) : State :=
  let was := s.getF CAP_STAT CAP_STAT_TGT
  let d := k + 2 + s.getF CAP_SEQ CAP_SEQ_SDLY
  let due := (List.range 8).foldl (fun t c =>
    if tgt.testBit c && !was.testBit c then Tab.set none t c (some (d % 2 ^ 48))
    else if !tgt.testBit c then Tab.set none t c none else t) s.cap.due
  { s.setF CAP_STAT CAP_STAT_TGT tgt with cap := { s.cap with due := due } }

/-- The cap unit combines the entries in force in tick `k` (R277). -/
def State.capSettleIn (s : State) (k : Nat) : State :=
  let s := s.setF CAP_STAT CAP_STAT_HOLDUP (b2n s.hld.capReq.isSome)
  let m := s.capEntries
  let s := s.setF CAP_REQ CAP_REQ_MASK m
  let s := forEach 16 (fun r s => (s.wr (PHS_RAIL_CAPLIM r) (s.capLimit m r)).railLimit r) s
  s.capDue k (s.capTarget m)

/-- The cap unit combines the entries in force in the running tick. -/
def State.capSettle (s : State) : State := s.capSettleIn s.mer.count

/-- At S the table writes of the tick, and a change of PIN_EN or of the armed entry, take effect (R276, R277). -/
def State.capBoundary (s : State) : State :=
  let s := { s with cap := { s.cap with old := [], armed := s.getF CAP_ARM CAP_ARM_ENT } }
  (s.setF CAP_STAT CAP_STAT_PIN (b2n (s.cap.pin && s.flag CAP_CTL CAP_CTL_PIN_EN))).capSettle

/-- CAP_PIN_ASSERT (R276, R279): CAP_N has been low for 20 ns. -/
def execCapPinAssert (cyc : Nat) (s : State) : Host.Outcome State Fault Refusal :=
  .next (
    if s.cap.pin then s
    else
      let s := { s.raise CAP_PIN 0xFF cyc with cap := { s.cap with pin := true, armed := s.getF CAP_ARM CAP_ARM_ENT } }
      (s.setF CAP_STAT CAP_STAT_PIN (b2n (s.flag CAP_CTL CAP_CTL_PIN_EN))).capSettle)

/-- CAP_PIN_RELEASE (R279): CAP_N has been high for 1 µs: the pin's request is withdrawn. -/
def execCapPinRelease (s : State) : Host.Outcome State Fault Refusal :=
  .next (
    if !s.cap.pin then s
    else { s.setF CAP_STAT CAP_STAT_PIN 0 with cap := { s.cap with pin := false } }.capSettle)

/-- A write of CAP_LOCAL requests or withdraws entries (R276). -/
def State.capLocalWrite (s : State) (w : Word) : State := (s.setF CAP_LOCAL CAP_LOCAL_MASK (CAP_LOCAL_MASK.get w)).capSettle

/-- PFAIL_N has been high and vbus at or above VREL for TREL (R215). -/
def State.released (s : State) : Bool :=
  match s.hld.rel with | some r => decide ((s.rd HLD_TREL).toNat * 800000 ≤ r) | none => false

/-- HOLD_EXIT (R215, R216): where the conditions of the release have held for TREL, HOLD ends, the cap level returns to 0 and
its request is withdrawn. -/
def execHoldExit (s : State) : Host.Outcome State Fault Refusal :=
  .next (
    if s.inHold ∧ !s.hld.pinLow ∧ s.released then
      let s := (s.setF HLD_STAT HLD_STAT_HOLD 0).setF HLD_STAT HLD_STAT_LEVEL 0
      { s with hld := { s.hld with capReq := none, rose := false } }.capSettle
    else s)

/-! ### The shed sequence (R281 to R283) -/

/-- The largest and the smallest class of a set. -/
def topClass (m : Nat) : Nat := 2 ^ ((List.range 8).foldl (fun k c => if m.testBit c then c else k) 0)
def lowClass (m : Nat) : Nat := match (List.range 8).find? m.testBit with | some c => 2 ^ c | none => 0

/-- The set of classes of `tgt` that are due and not shed (R281). -/
def State.shedCand (s : State) (shed : Nat) : Nat :=
  (List.range 8).foldl (fun m c =>
    match Tab.get none s.cap.due c with
    | some d => if !shed.testBit c && inPast d s.mer.count then m + 2 ^ c else m
    | none => m) 0

/-- One step of the sequencer at the S that begins a tick (R281). -/
def State.shedStep (s : State) : State :=
  let shed := s.getF CAP_STAT CAP_STAT_SHED
  let sp := s.getF CAP_SEQ CAP_SEQ_SHED_SP
  let cand := s.shedCand shed
  let apart : Bool := match s.cap.lastShed with | some k => decide (sp ≤ (s.mer.count + 2 ^ 48 - k) % 2 ^ 48) | none => true
  let rest := s.cap.sinceRest.map fun r => r + s.mer.tickN
  let s := { s with cap := { s.cap with sinceRest := rest } }
  if cand ≠ 0 ∧ (sp = 0 ∨ apart) then
    let s := s.setF CAP_STAT CAP_STAT_SHED (if sp = 0 then shed ||| cand else shed ||| topClass cand)
    { s with cap := { s.cap with lastShed := some s.mer.count } }
  else
    let tgt := s.getF CAP_STAT CAP_STAT_TGT
    let gone := shed &&& (255 - tgt)
    let ok : Bool := match rest with | some r => decide (s.getF CAP_SEQ CAP_SEQ_REST_SP * 8000000 ≤ r) | none => true
    if gone ≠ 0 ∧ ok then
      let s := s.setF CAP_STAT CAP_STAT_SHED (shed - lowClass gone)
      { s with cap := { s.cap with sinceRest := some 0 } }
    else s

/-- CAP_PORT.SHED of every port follows, and the fuse unit of a port that is shed now acts (R275, R282, R283). -/
def State.shedPorts (s : State) : State :=
  forEach 128 (fun p s =>
    let now := s.pers p == 1 && s.flag (CAP_PORT p) CAP_PORT_SHEDDABLE
      && (s.getF CAP_STAT CAP_STAT_SHED).testBit (s.getF (CAP_PORT p) CAP_PORT_CLASS)
    let was := s.flag (CAP_PORT p) CAP_PORT_SHED
    if now = was then s
    else
      let s := s.setF (CAP_PORT p) CAP_PORT_SHED (b2n now)
      if now then s.fuseShed p else s) s

/-! ### Shed waves (R284 to R287) -/

/-- The cell of a wave (R285). -/
def State.waveCell (s : State) (v : Wave) : Cell :=
  { s.cellOf 8 0 [BitVec.ofNat 24 (v.op * 2 ^ 22 + v.ent * 2 ^ 18 + v.wid), BitVec.ofNat 24 v.mask, lo24 v.at_, hi24 v.at_] with bcast := true }

/-- The wave of smallest A goes first. -/
def sortWave (v : Wave × Bool) : List (Wave × Bool) → List (Wave × Bool)
  | [] => [v]
  | a :: t => if a.1.at_ ≤ v.1.at_ then a :: sortWave v t else v :: a :: t

/-- The cells of waves take their place in the downstream slots of the tick (R285). -/
def State.waveQueue (s : State) (keep : QCell → Bool) (l : List Wave) : State :=
  let q := l.map fun v => (⟨s.waveCell v, false, s.mer.count, 0, false⟩ : QCell)
  if s.isRing then forList s.downLinks (fun l s => s.modLink l fun x => { x with sheds := x.sheds.filter keep ++ q }) s else s

/-- At S the ringmaster queues every wave it still sends, by A, for the tick's slots (R285). -/
def State.waveTick (s : State) : State :=
  let live := s.cap.sending.filter fun v => inPast s.mer.count v.at_
  let s := { s with cap := { s.cap with sending := live } }
  s.waveQueue (·.fwd) ((live.foldl (fun l v => sortWave (v, false) l) []).map (·.1))

/-- The first count from `a` on that no wave has. -/
def freeCount (l : List Wave) : Nat → Nat → Nat
  | 0, a => a
  | n + 1, a => if l.any fun v => v.at_ == a then freeCount l n ((a + 1) % 2 ^ 48) else a

/-- The ringmaster issues a new wave: the next WID, the apply count, sent from this tick on, applied at home too (R284,
R286). -/
def State.waveOrder (s : State) (op ent mask : Nat) : State :=
  let all := s.cap.sending ++ s.cap.sched.map (·.1)
  let a := freeCount all (all.length + 1) ((s.mer.count + s.getF CAP_WV_LEAD CAP_WV_LEAD_LEAD) % 2 ^ 48)
  let v : Wave := ⟨s.cap.nextWid, op, if op = 2 then 0 else ent, if op = 2 then mask else 0, a⟩
  let s := { s with cap := { s.cap with
    nextWid := (s.cap.nextWid + 1) % 4096, sending := s.cap.sending ++ [v], sched := s.cap.sched ++ [(v, false)] } }
  s.waveQueue (fun _ => true) [v]

/-- A write of CAP_WV_CMD; SEND issues the wave at the ringmaster and is refused at a member (R284). -/
def State.waveWrite (s : State) (w : Word) : State × Bool :=
  let send := CAP_WV_CMD_SEND.on w
  if send ∧ !s.isRing then (s, false)
  else
    let s := s.wr CAP_WV_CMD (w &&& 0xFCFFFF)
    (if send then s.waveOrder (CAP_WV_CMD_OP.get w) (CAP_WV_CMD_ENT.get w) (CAP_WV_CMD_MASK.get w) else s, true)

/-- WAVE_PERIODIC_SET (R284): every 1 s the ringmaster issues a SET wave that carries its own wave mask. -/
def execWavePeriodicSet (s : State) : Host.Outcome State Fault Refusal :=
  .next (if s.isRing then s.waveOrder 2 0 (s.getF CAP_WV_MASK CAP_WV_MASK_MASK) else s)

/-- A wave that a device accepts (R286): scheduled for the S of tick A, or to be applied on arrival. -/
def State.waveIn (s : State) (v : Wave) : State :=
  if s.cap.seen.contains (v.wid, v.at_) then s
  else
    let now := !s.flag TRP_STAT TRP_STAT_ALIGNED || inPast v.at_ s.mer.count
    { s with cap := { s.cap with seen := ((v.wid, v.at_) :: s.cap.seen).take 16, sched := s.cap.sched ++ [(v, now)] } }

/-- A SHED cell of an operation arrives on link `l` (R285, R286): without OPERATE it is discarded and still forwarded. -/
def State.shedCell (s : State) (l cyc op : Nat) (c : Cell) : State :=
  s.cellIn l cyc c fun s =>
    if !(c.rights &&& s.rightsOf (6 + l)).testBit 1 then s.raise CAP_WAVE_RIGHTS l cyc
    else
      let w := c.payload.headD 0
      if w.toNat / 2 ^ 22 ≠ op then s
      else s.waveIn ⟨w.toNat % 4096, op, w.toNat / 2 ^ 18 % 16, (c.payload.getD 1 0).toNat % 2 ^ 16,
        join48 (c.payload.getD 2 0) (c.payload.getD 3 0)⟩

/-- SHED_APPLY (R285, R286): a cell that sets a bit of the wave mask is accepted. -/
def execShedApply (l : Nat) (c : Cell) (cyc : Nat) (s : State) : Host.Outcome State Fault Refusal := .next (s.shedCell l cyc 0 c)

/-- SHED_RELEASE (R285, R286): a cell that clears a bit of the wave mask is accepted. -/
def execShedRelease (l : Nat) (c : Cell) (cyc : Nat) (s : State) : Host.Outcome State Fault Refusal := .next (s.shedCell l cyc 1 c)

/-- SHED_SET (R285, R286): a cell that replaces the wave mask is accepted. -/
def execShedSet (l : Nat) (c : Cell) (cyc : Nat) (s : State) : Host.Outcome State Fault Refusal := .next (s.shedCell l cyc 2 c)

/-- The tick in which a wave comes into force: that of the S at hand, or the running one for a wave applied on arrival (R287). -/
def State.waveTickOf (s : State) (arrived : Bool) : Nat := if arrived || s.mer.phase != .guard then s.mer.count else s.boundary

/-- Apply one wave, at its tick or on arrival (R284, R286, R287): an aligned device that applies it on arrival is late. -/
def State.waveApply (s : State) (v : Wave) (arrived : Bool) (cyc : Nat) : State :=
  let k := s.waveTickOf arrived
  let stamp := if arrived then s.stamp cyc else 0
  let aligned := s.flag TRP_STAT TRP_STAT_ALIGNED
  let isLate := aligned && arrived
  let late := if isLate then (s.mer.count + 2 ^ 48 - v.at_) % 2 ^ 48 else 0
  let m := s.getF CAP_WV_MASK CAP_WV_MASK_MASK
  let m := if v.op = 0 then m ||| 2 ^ v.ent else if v.op = 1 then m &&& (65535 - 2 ^ v.ent) else v.mask
  let s := s.setF CAP_WV_MASK CAP_WV_MASK_MASK m
  let s := s.wr CAP_WV_LAST (BitVec.ofNat 24 (v.op * 2 ^ 14 + b2n isLate * 2 ^ 13 + 2 ^ 12 + v.wid))
  let s := s.wrPair CAP_WV_AT_LO CAP_WV_AT_HI v.at_
  let s := s.recordAt k 0x008 0xFF (v.op * 2 ^ 22 + v.ent * 2 ^ 18 + v.wid) (min late 0xFFFFFF)
  let s := if !isLate then s
    else ((s.wr CAP_WV_LATE (BitVec.ofNat 24 (min late 0xFFFFFF))).bump CAP_WV_LCNT).raiseIn k CAP_WAVE_LATE 0xFF stamp
  let s := if aligned then s else s.raiseIn k CAP_WAVE_UNALIGNED 0xFF stamp
  s.capSettleIn k

/-- WAVE_APPLY (R286, R287): the waves whose tick begins at the S at hand or has begun, and those that apply on arrival, change the wave
mask, in the order of A. -/
def execWaveApply (cyc : Nat) (s : State) : Host.Outcome State Fault Refusal :=
  .next (
    let due (x : Wave × Bool) : Bool := x.2 || inPast x.1.at_ (s.waveTickOf false)
    let go := (s.cap.sched.filter due).foldl (fun l v => sortWave v l) []
    let s := { s with cap := { s.cap with sched := s.cap.sched.filter fun x => !due x } }
    forList go (fun v s => s.waveApply v.1 v.2 cyc) s)

end Sys2Proof.Machine
end

