-- ==== Sys2Proof/Machine/Survey.lean ====
section
/-! DEFINITION. The survey: training, discovery, assignment, measurement, adoption (R264 to R270). -/

namespace Sys2Proof.Machine

/-- A SURVEY cell: operation, address, epoch, UID and path, one pair of link and position a word (R266, R267, log entry
38). -/
def State.surveyCell (s : State) (op addr epoch uid : Nat) (path : List Nat) (dst : Nat) : Cell :=
  s.cellOf 7 dst ([BitVec.ofNat 24 (op * 2 ^ 20), BitVec.ofNat 24 addr, BitVec.ofNat 24 epoch, lo24 uid, hi24 uid]
    ++ (path.take 11).map fun x => BitVec.ofNat 24 x)

def Cell.w (c : Cell) (k : Nat) : Nat := (c.payload.getD k 0).toNat
def Cell.svAddr (c : Cell) : Nat := c.w 1
def Cell.svEpoch (c : Cell) : Nat := c.w 2
def Cell.svUid (c : Cell) : Nat := c.w 3 + c.w 4 * 2 ^ 24
/-- The path of a SURVEY cell: its words from 5 on that name a position. -/
def Cell.svPath (c : Cell) : List Nat := ((c.payload.drop 5).map (·.toNat)).filter (· != 0)

def State.modHead (s : State) (l : Nat) (f : HeadSt → HeadSt) : State := s.modLink l fun x => { x with head := x.head.map f }

/-- The path of the position that the head of link `l` surveys (R267). -/
def State.headPath (s : State) (l : Nat) : List Nat :=
  s.trp.path ++ [l * 256 + ((s.link l).head.getD {}).pos]

def State.sendDiscover (s : State) (l cyc : Nat) : State := s.sendOn l (s.surveyCell 0 0 0 0 (s.headPath l) 0x3FFF) cyc

/-- The head of link `l` starts its string at position 1 (R266). -/
def State.startString (s : State) (l cyc : Nat) : State :=
  let s := (s.modLink l fun x => { x with head := some {} }).wr (TRP_LNK_LEN l) 0
  s.sendDiscover l cyc

/-- The survey of every string that this device heads starts (R265, R266). -/
def State.startStrings (s : State) (cyc : Nat) : State := forList s.headLinks (fun l s => s.startString l cyc) s

/-- The role epoch of an entry's address for a device with a UID and a role: one more, modulo 256, where either differs (R255). -/
def MapEnt.epochFor (m : MapEnt) (uid role : Nat) : Nat := if m.uid = uid ∧ m.role = role then m.epoch else (m.epoch + 1) % 256

/-- The ringmaster's own entry of its map, the epoch that it holds (R255), and its address 0, which it keeps for the stagger as every
addressed device does (R237, R267, log entry 38). -/
def State.ownEntry (s : State) : State :=
  let ep := match s.trp.map.find? fun m => m.path == [] with | some m => m.epochFor s.trp.uid 2 | none => 0
  let s := { s with trp := { s.trp with map := ⟨[], s.trp.uid, 0, ep, 2, false, true⟩ :: s.trp.map.filter fun m => m.path != [] } }
  (s.wr TRP_ADDR (BitVec.ofNat 24 (ep % 256 * 2 ^ 16 + 2 ^ 15))).wr FUS_STG_ADDR 0x4000

/-- The ringmaster starts a survey (R255, R265): a new survey epoch, kept in MRAM. -/
def State.startSurvey (s : State) (cyc : Nat) : State :=
  if !s.isRing then s
  else
    let e := (s.trp.mapEpoch + 1) % 256
    let s := (s.setF TRP_SYS TRP_SYS_SYS_EPOCH e).setF TRP_SYS TRP_SYS_HOPS 0
    let s := ((s.setF TRP_SURVEY TRP_SURVEY_RUN 1).setF TRP_SURVEY TRP_SURVEY_DONE 0).setF TRP_SURVEY TRP_SURVEY_MEMBERS 0
    let s := { s with trp := { s.trp with mapEpoch := e, sentEpoch := e, path := [],
                                          map := s.trp.map.map fun (m : MapEnt) => { m with cur := false, done := false } } }
    s.ownEntry.startStrings cyc

/-- SURVEY_START (R265): the ringmaster starts a survey at the first tick after its reset. -/
def execSurveyStart (cyc : Nat) (s : State) : Host.Outcome State Fault Refusal := .next (s.startSurvey cyc)

/-- The survey is complete when every string of the ringmaster has ended and every member has sent DONE (R270, log entry
39); TRP_SURVEY_TIME takes the time. -/
def State.surveySettle (s : State) (ms : Nat) : State :=
  if s.isRing ∧ s.flag TRP_SURVEY TRP_SURVEY_RUN
      ∧ s.headLinks.all (fun l => match (s.link l).head with | some h => 4 ≤ h.phase | none => true)
      ∧ s.trp.map.all (fun m => !m.cur || m.done) then
    ((s.setF TRP_SURVEY TRP_SURVEY_RUN 0).setF TRP_SURVEY TRP_SURVEY_DONE 1).wr TRP_SURVEY_TIME (BitVec.ofNat 24 (min ms 0xFFFFFF))
  else s

/-- The lowest address that no path of the map has, from 1 on (R267). -/
def freeAddr (m : List MapEnt) : Option Nat := ((List.range (m.length + 1)).map (· + 1)).find? fun a => !m.any fun e => e.addr == a

/-- The ringmaster's assignment of a path (R255, R267): the address it had before, or the lowest free one; the epoch steps
where another device sits at it, or one in another role. None where the troupe is full (R236). -/
def State.assign (s : State) (path : List Nat) (uid : Nat) : State × Option (Nat × Nat) :=
  let put (e : MapEnt) : State :=
    let n := ((s.trp.map.filter fun m => m.cur && m.path != path).length) + 1
    ({ s with trp := { s.trp with map := e :: s.trp.map.filter fun m => m.path != path } }).setF TRP_SURVEY TRP_SURVEY_MEMBERS n
  match s.trp.map.find? fun m => m.path == path with
  | some m =>
    let ep := m.epochFor uid 1
    (put ⟨path, uid, m.addr, ep, 1, true, false⟩, some (m.addr, ep))
  | none =>
    match freeAddr s.trp.map with
    | some a => if a ≤ 16383 then (put ⟨path, uid, a, 0, 1, true, false⟩, some (a, 0)) else (s, none)
    | none => (s, none)

/-- The head of link `l` ends its string at the present position. -/
def State.endString (s : State) (l : Nat) : State := s.modHead l fun h => { h with phase := 4 }

/-- The route table takes the link toward an address (R247, R267). -/
def State.learnRoute (s : State) (addr l : Nat) : State :=
  { s with trp := { s.trp with route := Tab.set none s.trp.route addr (some l) } }

/-- The head sends the assignment it has for its position, and the route toward the address is known (R266, R267). -/
def State.sendAssign (s : State) (l addr epoch cyc : Nat) : State :=
  let h := (s.link l).head.getD {}
  let s := s.modHead l fun h => { h with phase := 2, again := false, addr := addr, epoch := epoch }
  let s := s.learnRoute addr l
  s.sendOn l (s.surveyCell 3 addr epoch h.uid (s.headPath l) 0x3FFF) cyc

/-- A limit of R236 is broken: the string ends there, and TRP_TOPOLOGY is raised. -/
def State.topology (s : State) (l cyc : Nat) : State := (s.endString l).raise TRP_TOPOLOGY l cyc

/-- An answer with a UID from the position of link `l` (R266, R269): to DISCOVER, it asks for the assignment; to ASSIGN,
the device has taken its address. -/
def State.headFound (s : State) (l uid cyc : Nat) : State :=
  match (s.link l).head with
  | none => s
  | some h =>
    if h.phase = 0 ∨ h.phase = 5 then
      if 64 < s.getF TRP_SYS TRP_SYS_HOPS + h.pos ∨ 32 < h.pos then s.topology l cyc
      else
        let s := s.modHead l fun h => { h with uid := uid, phase := 1, again := false }
        if s.isRing then
          let r := s.assign (s.headPath l) uid
          match r.2 with
          | some (a, e) => r.1.sendAssign l a e cyc
          | none => r.1.topology l cyc
        else s.originate (s.surveyCell 5 0 0 uid (s.headPath l) 0) cyc
    else if h.phase = 2 then s.modHead l fun h => { h with phase := 3 }
    else s

/-- The next position of a string after DONE (R266). After position 32 the head still looks for a device beyond the limit, which it
reports and does not address (R236, log entry 101). -/
def State.headNext (s : State) (l cyc : Nat) : State :=
  match (s.link l).head with
  | none => s
  | some h =>
    if h.phase = 2 ∨ h.phase = 3 then
      let s := s.setF (TRP_LNK_LEN l) TRP_LNK_LEN_LEN h.pos
      (s.modHead l fun h => { h with pos := h.pos + 1, phase := 0, again := false }).sendDiscover l cyc
    else s

/-- The links on which a SURVEY cell that arrives on link `l` is passed on (R264, R266): DISCOVER and ASSIGN to the through link,
ASSIGN_ACK by its route, the others up to the head of the string, and DONE and ASSIGN_REQ on to the ringmaster. -/
def State.surveyRoute (s : State) (l : Nat) (c : Cell) : List Nat :=
  let op := c.w 0 / 2 ^ 20
  if op = 6 then
    if s.addressed && c.dst == s.myAddr then [] else match Tab.get none s.trp.route c.dst with | some m => [m] | none => []
  else if op = 0 ∨ op = 3 then
    if s.upLink = some l ∧ 2 ≤ s.sstate ∧ s.linkUp s.thru then [s.thru] else []
  else if op ≤ 2 ∧ s.headLinks.contains l then []
  else s.upLink.toList.filter (· != l)

/-- A SURVEY cell arrives on link `l` for the agent of this device: discards as for any cell (R242, R243, R249). -/
def State.surveyIn (s : State) (l cyc : Nat) (c : Cell) (k : State → State) : State :=
  s.cellLink l cyc c (fun s => s.surveyRoute l c) k

/-- A survey cell is passed on (R264, R266). -/
def State.passOn (s : State) (l cyc : Nat) (c : Cell) : State := s.forward l (s.surveyRoute l c) c false cyc

/-- SURVEY_DISCOVER (R266): a device in WAIT answers FOUND with its UID; an addressed one passes the cell on, or answers END
where it is the last of its string. -/
def execSurveyDiscover (l : Nat) (c : Cell) (cyc : Nat) (s : State) : Host.Outcome State Fault Refusal :=
  .next (s.surveyIn l cyc c fun s =>
    if s.upLink ≠ some l then s
    else if s.sstate = 1 then s.sendOn l (s.surveyCell 1 0 0 s.trp.uid c.svPath 0x3FFF) cyc
    else if s.sstate < 2 ∨ s.sstate = 6 then s
    else if s.linkUp s.thru then s.passOn l cyc c
    else s.sendOn l (s.surveyCell 2 0 0 0 c.svPath 0x3FFF) cyc)

/-- SURVEY_FOUND (R266): a UID reaches the head of the string; a device on the way passes it up. -/
def execSurveyFound (l : Nat) (c : Cell) (cyc : Nat) (s : State) : Host.Outcome State Fault Refusal :=
  .next (s.surveyIn l cyc c fun s => if s.headLinks.contains l then s.headFound l c.svUid cyc else s.passOn l cyc c)

/-- SURVEY_END (R266): the string of link `l` has no further device. -/
def execSurveyEnd (l : Nat) (c : Cell) (ms cyc : Nat) (s : State) : Host.Outcome State Fault Refusal :=
  .next (s.surveyIn l cyc c fun s => if s.headLinks.contains l then (s.endString l).surveySettle ms else s.passOn l cyc c)

/-- SURVEY_ASSIGN (R265 to R267): a device in WAIT takes its address and epoch, answers with its UID, keeps the address for
the stagger, and measures; an addressed device passes the cell on and learns the route. -/
def execSurveyAssign (l : Nat) (c : Cell) (cyc : Nat) (s : State) : Host.Outcome State Fault Refusal :=
  .next (s.surveyIn l cyc c fun s =>
    if s.upLink ≠ some l then s
    else if s.sstate = 1 then
      let s := s.wr TRP_ADDR (BitVec.ofNat 24 (c.svEpoch % 256 * 2 ^ 16 + 2 ^ 15 + c.svAddr % 2 ^ 14))
      let s := (s.setF TRP_STAT TRP_STAT_ROLE 1).wr FUS_STG_ADDR (BitVec.ofNat 24 (2 ^ 14 + c.svAddr % 2 ^ 14))
      let map := s.trp.map.map fun (m : MapEnt) => if m.path = [] then { m with role := 1 } else m
      let s := { s.setSstate 3 with trp := { s.trp with map := map, path := c.svPath, tsum := 0, tnum := 0, measured := false, adopt := none } }
      s.sendOn l (s.surveyCell 1 0 0 s.trp.uid c.svPath 0x3FFF) cyc
    else if s.sstate < 2 then s
    else
      ({ s with trp := { s.trp with route := Tab.set none s.trp.route c.svAddr (some s.thru) } }).passOn l cyc c)

/-- The ringmaster's map notes that a member has sent DONE. -/
def State.mapDone (s : State) (addr : Nat) : State :=
  { s with trp := { s.trp with map := s.trp.map.map fun (m : MapEnt) => if m.addr = addr then { m with done := true } else m } }

/-- SURVEY_DONE (R266, R268, R270): a device reports that it has adopted and locked: the head discovers the next position; the
report goes on up to the ringmaster (log entry 39). -/
def execSurveyDone (l : Nat) (c : Cell) (ms cyc : Nat) (s : State) : Host.Outcome State Fault Refusal :=
  .next (s.surveyIn l cyc c fun s =>
    let mine := s.headLinks.contains l && ((s.link l).head.map fun h => h.addr == c.svAddr).getD false
    let s := if mine then s.headNext l cyc else s
    if s.isRing then (s.mapDone c.svAddr).surveySettle ms else s.passOn l cyc c)

/-- SURVEY_ASSIGN_REQ (R236, R255, R267): the ringmaster assigns an address and epoch for a path, takes the route toward it and answers
the head; a full troupe it answers with address 0 (log entry 101). -/
def execSurveyAssignReq (l : Nat) (c : Cell) (cyc : Nat) (s : State) : Host.Outcome State Fault Refusal :=
  .next (s.surveyIn l cyc c fun s =>
    if s.isRing then
      let r := s.assign c.svPath c.svUid
      match r.2 with
      | some (a, e) => (r.1.learnRoute a l).originate (r.1.surveyCell 6 a e c.svUid c.svPath c.src) cyc
      | none => r.1.originate (r.1.surveyCell 6 0 0 c.svUid c.svPath c.src) cyc
    else s.passOn l cyc c)

/-- SURVEY_ASSIGN_ACK (R236, R266, R267): the ringmaster's assignment reaches the head of the string; a device on the way forwards
it and learns the route toward the address. -/
def execSurveyAssignAck (l : Nat) (c : Cell) (cyc : Nat) (s : State) : Host.Outcome State Fault Refusal :=
  .next (s.surveyIn l cyc c fun s =>
    if s.addressed && c.dst == s.myAddr then
      match s.headLinks.find? fun m => (((s.link m).head).map fun h => h.phase == 1 && h.uid == c.svUid).getD false with
      | some m => if c.svAddr = 0 then s.topology m cyc else s.sendAssign m c.svAddr c.svEpoch cyc
      | none => s
    else match Tab.get none s.trp.route c.dst with
      | some m => (if c.svAddr = 0 then s else s.learnRoute c.svAddr m).passOn l cyc c
      | none => s)

/-- A write of TRP_CTL.RESURVEY at the ringmaster starts a survey (R265). -/
def State.resurvey (s : State) (cyc : Nat) : State := s.startSurvey cyc

/-- SURVEY_TIMEOUT (R269): a DISCOVER or ASSIGN has not been answered for 1.5 ms: it is sent once more; after a second
silence the string ends at that position with TRP_SURVEY_GAP. -/
def execSurveyTimeout (l ms cyc : Nat) (s : State) : Host.Outcome State Fault Refusal :=
  .next (
    match (s.link l).head with
    | none => s
    | some h =>
      if h.phase = 0 ∨ h.phase = 2 then
        if h.again then
          let s := (s.modHead l fun h => { h with phase := 5, again := false }).setF TRP_SURVEY TRP_SURVEY_GAP 1
          (s.raise TRP_SURVEY_GAP_SRC l cyc).surveySettle ms
        else
          let s := s.modHead l fun h => { h with again := true }
          if h.phase = 0 then s.sendDiscover l cyc
          else s.sendOn l (s.surveyCell 3 h.addr h.epoch h.uid (s.headPath l) 0x3FFF) cyc
      else s)

/-- SURVEY_GAP_PROBE (R269): every 1 s the head sends DISCOVER for a position that stayed unanswered. -/
def execSurveyGapProbe (l cyc : Nat) (s : State) : Host.Outcome State Fault Refusal :=
  .next (
    match (s.link l).head with
    | some h => if h.phase = 5 then s.sendDiscover l cyc else s
    | none => s)

/-- A device reports DONE up its string, and starts the strings that it heads (R266, R268). -/
def State.sendDone (s : State) (cyc : Nat) : State :=
  let s := match s.upLink with
    | some m => s.sendOn m (s.surveyCell 4 s.myAddr s.myEpoch s.trp.uid s.trp.path 0x3FFF) cyc
    | none => s
  s.startStrings cyc

/-- The check of R51 before an adoption, where the upstream period differs: does it refuse (R268)? -/
def State.adoptRefused (s : State) : Bool := s.trp.upN != s.runPeriod && (s.linkRefusal s.trp.upN).isSome

/-- MEASURE_COMPLETE (R268): 4 ms of measurement are over: where the upstream period differs, the check of R51 decides; a
refusal leaves the device UNALIGNED on REF; otherwise the next marker schedules the adoption. -/
def execMeasureComplete (cyc : Nat) (s : State) : Host.Outcome State Fault Refusal :=
  .next (
    if s.sstate ≠ 3 then s
    else if s.adoptRefused then (s.linkRefused.setSstate 5).sendDone cyc
    else { s with trp := { s.trp with measured := true, adopt := none } })

/-- COUNT_ADOPT (R47, R268): at the S at which the chosen upstream tick begins the count steps to its count, recorded with
the old one, the phase steps, the period is the upstream one, and with AUTO_LINK the source becomes LINK in ACQUIRE;
without it the device is UNALIGNED. -/
def execCountAdopt (cyc : Nat) (s : State) : Host.Outcome State Fault Refusal :=
  .next (
    match s.trp.adopt with
    | none => s
    | some c =>
      let old := s.mer.count
      let s := { s with trp := { s.trp with measured := false, adopt := none }, mer := { s.mer with count := c, err := 0 } }
      let s := s.wrPair MER_COUNT_LO MER_COUNT_HI c
      let s := s.recordAt c 0x004 0xFF (old % 2 ^ 24) (old / 2 ^ 24)
      let s := if s.trp.upN = s.runPeriod ∨ s.trp.upN = 0 then s
        else if s.inLull then { s with mer := { s.mer with runN := s.trp.upN } }
        else s.setPeriod s.trp.upN c
      if s.flag TRP_CTL TRP_CTL_AUTO_LINK then
        let s := (s.setF MER_CTL MER_CTL_SRC 2).setLock c 0
        { s with mer := { s.mer with srcNow := 2, srcNext := none, good := 0, since := 0, again := 0, fromEdge := none, drift := 0 } }
      else if s.sstate = 3 then (s.setSstate 5).sendDone cyc else s.setSstate 5)

/-- The lock that follows an adoption makes the device ALIGNED, and in the survey it then reports DONE (R268); the adoption after Lull
reports nothing (R260). -/
def State.surveyLocked (s : State) (cyc : Nat) : State :=
  if s.mer.srcNow ≠ 2 ∨ s.lockState ≠ 1 then s
  else if s.sstate = 3 then ((s.setSstate 4).alignedSettle).sendDone cyc
  else if s.sstate = 5 then (s.setSstate 4).alignedSettle
  else s

/-- LOCK_ACHIEVED (R39, R268): an error below 1.25 ns for 16 consecutive ticks ends ACQUIRE; after an adoption the device is
then ALIGNED. -/
def execLockAchieved (cyc : Nat) (s : State) : Host.Outcome State Fault Refusal :=
  .next (if s.lockState = 0 ∧ 16 ≤ s.mer.good then (s.setLock s.mer.count 1).surveyLocked cyc else s)

/-- LINK_TRAINED (R265): a link completes training; the upstream one takes the device to WAIT. -/
def execLinkTrained (l : Nat) (s : State) : Host.Outcome State Fault Refusal :=
  .next (
    if !s.linkEn l then s
    else
      let s := s.setF (TRP_LNK_STAT l) TRP_LNK_STAT_STATE 2
      if s.upLink = some l ∧ (s.sstate = 0 ∨ s.sstate = 6) then s.setSstate 1 else s)

/-- LINK_DOWN (R265, R269, R272): a trained link loses sync: TRP_LINK_DOWN; the upstream one isolates the device. -/
def execLinkDown (l cyc : Nat) (s : State) : Host.Outcome State Fault Refusal :=
  .next (
    if !s.linkUp l then s
    else
      let s := (s.setF (TRP_LNK_STAT l) TRP_LNK_STAT_STATE 4).setF (TRP_LNK_STAT l) TRP_LNK_STAT_PARTNER_ALIGNED 0
      let s := s.raise TRP_LINK_DOWN l cyc
      if s.upLink = some l then
        let s := if s.sstate = 4 ∨ s.sstate = 5 then s.setSstate 6 else if s.sstate = 0 then s else s.setSstate 0
        s.alignedSettle
      else s)

end Sys2Proof.Machine
end

