-- ==== Sys2Proof/Machine/Mgmt.lean ====
section
/-! DEFINITION. The management network: frames, duplicates, path states, probes, sessions, ship time (R293 to R307). -/

namespace Sys2Proof.Machine

/-! ### Paths (R293, R301) -/

/-- The state of path `p` (R301): 0 DOWN, 1 PROVING, 2 UP. -/
def State.pathSt (s : State) (p : Nat) : Nat := s.getF MGT_STAT (if p = 0 then MGT_STAT_STATE_A else MGT_STAT_STATE_B)
def State.setPath (s : State) (p v : Nat) : State := s.setF MGT_STAT (if p = 0 then MGT_STAT_STATE_A else MGT_STAT_STATE_B) v
/-- Is the port of path `p` enabled (R309)? -/
def State.pathOn (s : State) (p : Nat) : Bool := s.flag MGT_CTL (if p = 0 then MGT_CTL_EN_A else MGT_CTL_EN_B)
/-- Does the port of path `p` run: enabled and powered (R293)? -/
def State.pathEn (s : State) (p : Nat) : Bool := s.pathOn p && !s.lullOff
def State.pathLink (s : State) (p : Nat) : Bool := s.flag (MGT_PATH_STAT p) MGT_PATH_STAT_LINK && s.flag (MGT_PATH_STAT p) MGT_PATH_STAT_SYNC
def State.modMgt (s : State) (f : MgtSt → MgtSt) : State := { s with mgt := f s.mgt }

/-- The preferred path if UP, otherwise the other if UP, otherwise none, coded 2 (R302). -/
def State.pathPick (s : State) : Nat :=
  let p := s.getF MGT_CTL MGT_CTL_PREF
  if s.pathSt p = 2 then p else if s.pathSt (1 - p) = 2 then 1 - p else 2

/-! ### Sending (R294, R298) -/

/-- An address of two words (R309). -/
def State.ip4 (s : State) (o : Nat) : Nat := (s.rd (.pkg o)).toNat + (s.rd (.pkg (o + 1))).toNat % 256 * 2 ^ 24

/-- An address of six words (R309). -/
def State.ip6 (s : State) (o : Nat) : Nat := (List.range 6).foldl (fun n k => n + (s.rd (.pkg (o + k))).toNat * 2 ^ (24 * k)) 0 % 2 ^ 128

/-- The next hop toward an address: itself on the own link, otherwise the gateway (R294). -/
def State.hop (s : State) (v6 : Bool) (ip : Nat) : Nat :=
  if v6 then
    let k := 128 - min 64 (s.getF MGT_NET MGT_NET_PFX6)
    if ip / 2 ^ k = s.ip6 0x1C26 / 2 ^ k then ip else s.ip6 0x1C2C
  else
    let k := 32 - min 32 (s.getF MGT_NET MGT_NET_PFX4)
    if ip / 2 ^ k = s.ip4 0x1C22 / 2 ^ k then ip else s.ip4 0x1C24

/-- The peer's address (R309). -/
def State.peerIp (s : State) : Nat := if s.flag MGT_PEER MGT_PEER_V6 then s.ip6 0x1C32 else s.ip4 0x1C32

/-- Is an address one of IPv6? -/
def isV6 (ip : Nat) : Bool := decide (2 ^ 32 ≤ ip)

/-- A frame as it is sent: a datagram with its CRC (R295). -/
def MFrame.sealed : MFrame → MFrame
  | .dgram d => .dgram d.sealed
  | f => f

/-- The ports that run among those that a frame is meant for: one path, or both. -/
def State.portsFor (s : State) (path : Option Nat) : List Nat := (match path with | some p => [p] | none => [0, 1]).filter s.pathEn

/-- Send a frame to a next hop, with the next trailer number or without a trailer: on one path, or once on each path (R298); a port
that is disabled or powered down sends nothing (R293). -/
def State.sendTo (s : State) (path : Option Nat) (trailer : Bool) (hop : Nat) (f : MFrame) : State :=
  let l := s.portsFor path
  if l.isEmpty then s
  else
    (forList l (fun p s => s.countP (6 + p) 0x80 1) s).modMgt fun m =>
      { m with tx := m.tx ++ [⟨if l.length = 1 then l.head? else none, if trailer then some m.rct else none, hop, f.sealed⟩],
               rct := if trailer then (m.rct + 1) % 65536 else m.rct }

/-- Send a frame toward an address once on each path with one trailer number (R298). -/
def State.sendBoth (s : State) (ip : Nat) (f : MFrame) : State := s.sendTo none true (s.hop (isV6 ip) ip) f

/-- Send a frame toward an address on one path. -/
def State.sendPath (s : State) (p ip : Nat) (f : MFrame) : State := s.sendTo (some p) false (s.hop (isV6 ip) ip) f

/-- A datagram of this device with an operation, to a peer and a session (R295). -/
def State.dgramOf (s : State) (op ip sport session : Nat) (words : List Word) : Dgram :=
  { ip := ip, sport := sport, ver := 1, op := op, session := session, seq := 0, ackv := false, ack := 0, target := s.myAddr,
    port := 0xFF, epoch := s.myEpoch, words := words, off := 0, flags := 0, bytes := [], num := 0, crc := 0 }

/-- A datagram to the peer that MGT_PEER names. -/
def State.toPeer (s : State) (op : Nat) (words : List Word) : Dgram :=
  s.dgramOf op s.peerIp (s.getF MGT_PEER MGT_PEER_PORT) 0 words

/-- RESULT of a CMD datagram (R246, R296). -/
def State.dgResult (s : State) (d : Dgram) (status : Nat) (data : List Word) : State :=
  let r := s.dgramOf 2 d.ip d.sport d.session (BitVec.ofNat 24 (d.seq * 4096 + status) :: data)
  s.sendBoth d.ip (.dgram r)

/-! ### Sessions and their paths (R302, R303) -/

/-- The valid save with the higher sequence number (R303). -/
def MgtSt.newest (m : MgtSt) : Option SesSave := m.saves.newest SesSave.words (·.seq)

/-- A bulk download resumes on path `p` from its saved offset: BULK_ACK with RESUME; with no valid save it restarts at 0
(R303). -/
def State.bulkResume (s : State) (p cyc : Nat) : State :=
  match s.mgt.bulk with
  | none => s
  | some b =>
    let sv := s.mgt.newest
    let s := if sv.isNone then s.raise MGT_SES_NVM 0xFF cyc else s
    let off := match sv.bind (·.bulk) with | some x => if x.num = b.num then x.durable else 0 | none => 0
    let s := s.modMgt fun m => { m with bulk := some { b with live := off } }
    if b.up then s
    else s.sendPath p b.ip (.dgram { s.dgramOf 0x11 b.ip b.sport b.num [] with off := off, flags := 1 })

/-- The record stream resumes from its saved offset (R303). -/
def State.recResume (s : State) (cyc : Nat) : State :=
  match s.mgt.recs with
  | none => s
  | some b =>
    let sv := s.mgt.newest
    let s := if sv.isNone then s.raise MGT_SES_NVM 0xFF cyc else s
    let off := match sv.bind (·.recs) with | some x => x.durable | none => 0
    s.modMgt fun m => { m with recs := some { b with live := off } }

/-- After a change of a path's state the active paths follow: bulk and the record stream leave a path that is not UP, and
take one that is where they had none (R302). -/
def State.pathsSettle (s : State) (cyc : Nat) : State :=
  let bp := s.getF MGT_STAT MGT_STAT_BULK
  let rp := s.getF MGT_STAT MGT_STAT_REC
  let pick := s.pathPick
  let s :=
    if s.mgt.bulk.isNone then s.setF MGT_STAT MGT_STAT_BULK 2
    else if bp < 2 ∧ s.pathSt bp = 2 then s
    else
      let s := s.setF MGT_STAT MGT_STAT_BULK pick
      if pick < 2 then s.bulkResume pick cyc else s
  if s.mgt.recs.isNone then s.setF MGT_STAT MGT_STAT_REC 2
  else if rp < 2 ∧ s.pathSt rp = 2 then s
  else
    let s := s.setF MGT_STAT MGT_STAT_REC pick
    if pick < 2 then s.recResume cyc else s

/-- A bulk session or a record stream that starts takes the preferred path if UP, otherwise the other if UP (R302). -/
def State.sessionPath (s : State) (f : Fld) : State := s.setF MGT_STAT f s.pathPick

/-- A path enters DOWN (R301). A fall of a path restarts its revert hold (R302). -/
def State.pathDown (s : State) (p cyc : Nat) : State :=
  if s.pathSt p = 0 then s
  else
    let s := (s.setPath p 0).raise MGT_PATH_DOWN p cyc
    let s := s.modMgt fun m => { m with pass := Tab.set 0 m.pass p 0, fail := Tab.set 0 m.fail p 0, hold := Tab.set 0 m.hold p 0 }
    s.pathsSettle cyc

/-- A write of MGT_CTL: a port that it disables has no link any more (R301, R309). -/
def State.mgtCtlWrite (s : State) (w : Word) (cyc : Nat) : State :=
  forEach 2 (fun p s => if s.pathOn p then s else s.pathDown p cyc) (s.wr MGT_CTL w)

/-- A proving path becomes UP once enough probes in a row were answered and its last window missed few copies (R301). -/
def State.pathUp (s : State) (p cyc : Nat) : State :=
  if s.pathSt p = 1 ∧ s.getF MGT_PROBE MGT_PROBE_PASS ≤ Tab.get 0 s.mgt.pass p
      ∧ s.getF (MGT_PATH_STAT p) MGT_PATH_STAT_MISSW < s.getF MGT_CMP MGT_CMP_MISS then
    (s.setPath p 2).pathsSettle cyc
  else s

/-- A copy is missing on path `p`; MISS of them in a window take the path DOWN (R300, R301). -/
def State.missing (s : State) (p cyc : Nat) : State :=
  let n := Tab.get 0 s.mgt.miss p + 1
  let s := s.modMgt fun m => { m with miss := Tab.set 0 m.miss p n }
  if s.getF MGT_CMP MGT_CMP_MISS ≤ n then s.pathDown p cyc else s

/-! ### Arrival of frames (R293, R298 to R300) -/

/-- Has a source sent frames with a trailer on both paths (R300)? -/
def State.doubly (s : State) (mac : Nat) : Bool :=
  let h := s.mgt.heard ++ s.mgt.heardLast
  h.contains (mac, 0) && h.contains (mac, 1)

/-- An entry of the duplicate table is forgotten: one copy of a doubly attached source leaves the other path's missing
(R299, R300). -/
def State.forget (s : State) (e : DupEnt) (cyc : Nat) : State :=
  let s := s.modMgt fun m => { m with dup := m.dup.filter fun x => !(x.mac == e.mac && x.seq == e.seq) }
  if !e.both && s.doubly e.mac then s.missing (1 - e.path) cyc else s

/-- A mismatch of two copies counts on both paths (R300). -/
def State.mismatch (s : State) (cyc : Nat) : State :=
  ((s.bump (MGT_PATH_MISM 0)).bump (MGT_PATH_MISM 1)).raise MGT_MISMATCH 0xFF cyc

/-- A frame with a trailer meets the duplicate table; `good`: its content passed its checks. True: deliver it (R299, R300). -/
def State.rctIn (s : State) (f : Frame) (seq : Nat) (c : MFrame) (good : Bool) (cyc : Nat) : State × Bool :=
  let s := s.modMgt fun m => { m with heard := if m.heard.contains (f.mac, f.path) then m.heard else (f.mac, f.path) :: m.heard }
  let s := if good then s else s.missing f.path cyc
  match s.mgt.dup.find? fun e => e.mac == f.mac && e.seq == seq with
  | some e =>
    let s := s.modMgt fun m => { m with dup := m.dup.map fun (x : DupEnt) =>
      if x.mac = f.mac ∧ x.seq = seq then { x with both := x.both || x.path != f.path, good := if good then some (x.good.getD c) else x.good } else x }
    match e.good with
    | some c0 => ((if good && c0 != c then s.mismatch cyc else s).countP (6 + f.path) 0x82 1, false)
    | none => (s, good)
  | none =>
    let s := match s.mgt.dup with
      | e :: _ => if s.mgt.dup.length < 1024 then s else s.forget e cyc
      | [] => s
    (s.modMgt fun m => { m with dup := m.dup ++ [⟨f.mac, seq, f.path, false, if good then some c else none⟩] }, good)

/-- A frame reaches the port of path `p`, which is enabled and has its link: it counts as received (R450). -/
def State.pathIn (s : State) (p : Nat) (k : State → State) : State :=
  if s.pathEn p && s.pathLink p then k (s.countP (6 + p) 0x81 1) else s

/-- A frame arrives at a management port and is delivered, or is discarded (R293, R294, R299). -/
def State.frameIn (s : State) (f : Frame) (c : MFrame) (good : Bool) (cyc : Nat) (k : State → State) : State :=
  s.pathIn f.path fun s =>
  if f.bad then s.bump (MGT_PATH_RXERR f.path)
  else if f.frag then s
  else match f.rct with
    | none => if good then k s else s
    | some q => let r := s.rctIn f q c good cyc; if r.2 then k r.1 else r.1

/-- A datagram arrives: another version or a wrong CRC discards it (R295). -/
def State.dgIn (s : State) (f : Frame) (d : Dgram) (cyc : Nat) (k : State → State) : State :=
  s.frameIn f (.dgram d) d.crcOk cyc fun s => if d.ver = 1 then k s else s

/-- The rights that a datagram carries (R296, R341). -/
def State.dgRights (s : State) (f : Frame) : Nat :=
  if f.rct.isSome then s.rightsOf 4 &&& s.rightsOf 5 else s.rightsOf (4 + f.path)

/-- The key of a datagram stream: address, port, session (R296). -/
def Dgram.key (d : Dgram) : Nat := d.ip * 2 ^ 32 + d.sport * 2 ^ 16 + d.session

/-- The sequence check of a datagram (R252, R296): as for cells, for 16 sources; the first datagram of a source opens its
stream (log entry 42). -/
def State.dgStream (s : State) (d : Dgram) : State × Nat :=
  let b := (d.seq + 4095) % 4096
  let t := (s.mgt.streams.find? fun t => t.src == d.key).getD { src := d.key, e := b, marks := 0, full := b }
  let r := t.take d.seq
  (s.modMgt fun m => { m with streams := (r.1 :: m.streams.filter fun u => u.src != d.key).take 16 }, r.2)

/-- A datagram for the steward or an outside reader is kept, and interrupt source 5 becomes pending (R68). -/
def State.keepDgram (s : State) (d : Dgram) : State := (s.modMgt fun m => { m with inbox := m.inbox ++ [d] }).irq 0 5

/-- DGRAM_RESULT (R296): a RESULT datagram is received. -/
def execDgramResult (f : Frame) (d : Dgram) (cyc : Nat) (s : State) : Host.Outcome State Fault Refusal :=
  .next (s.dgIn f d cyc fun s => s.keepDgram d)

/-- DGRAM_ANSWER (R296): an ANSWER datagram is received. -/
def execDgramAnswer (f : Frame) (d : Dgram) (cyc : Nat) (s : State) : Host.Outcome State Fault Refusal :=
  .next (s.dgIn f d cyc fun s => s.keepDgram d)

/-- DGRAM_TLM (R297): a TLM datagram is received. -/
def execDgramTlm (f : Frame) (d : Dgram) (cyc : Nat) (s : State) : Host.Outcome State Fault Refusal :=
  .next (s.dgIn f d cyc fun s => s.keepDgram d)

/-- DGRAM_HEALTH (R305): a HEALTH datagram is received. -/
def execDgramHealth (f : Frame) (d : Dgram) (cyc : Nat) (s : State) : Host.Outcome State Fault Refusal :=
  .next (s.dgIn f d cyc fun s => s.keepDgram d)

/-- DGRAM_REC (R296, R377): a datagram of records is received, by the sequence rules. -/
def execDgramRec (f : Frame) (d : Dgram) (cyc : Nat) (s : State) : Host.Outcome State Fault Refusal :=
  .next (s.dgIn f d cyc fun s => let r := s.dgStream d; if r.2 = 0 then r.1.keepDgram d else r.1)

/-- DGRAM_BULK_ACK (R296, R303): the peer acknowledges an offset of an upload. -/
def execDgramBulkAck (f : Frame) (d : Dgram) (cyc : Nat) (s : State) : Host.Outcome State Fault Refusal :=
  .next (s.dgIn f d cyc fun s =>
    match s.mgt.bulk with
    | some b =>
      if b.up ∧ b.num = d.session then
        s.modMgt fun m => { m with bulk := some (if d.flags % 2 = 1 then { b with live := d.off } else { b with durable := max b.durable d.off }) }
      else s
    | none => s)

/-- DGRAM_SHED (R284, R296): a shed order goes to the ringmaster's waves; it needs OPERATE; a member answers NOT_RINGMASTER. -/
def execDgramShed (f : Frame) (d : Dgram) (cyc : Nat) (s : State) : Host.Outcome State Fault Refusal :=
  .next (s.dgIn f d cyc fun s =>
    if !s.isRing then s.dgResult d 8 []
    else if !(s.dgRights f).testBit 1 then s
    else
      let w := (d.words.headD 0).toNat
      if w / 2 ^ 22 = 3 then s else s.waveOrder (w / 2 ^ 22) (w / 2 ^ 18 % 16) ((d.words.getD 1 0).toNat % 65536))

/-! ### Results that return from the troupe (R246, R296) -/

/-- The RESULT of a CMD datagram (R296). -/
def State.dgramResult (s : State) (d : Dgram) (status : Nat) (ws : List Word) : State :=
  (s.modMgt fun m => { m with streams := keepResult m.streams d.key d.seq (BitVec.ofNat 24 status :: ws) }).dgResult d status ws

/-- The result of a relayed command returns as a datagram; another one is kept. -/
def State.resultHome (s : State) (c : Cell) : State :=
  let q := (c.payload.headD 0).toNat / 4096
  match s.mgt.relay.find? fun x => x.1 == c.src && x.2.1 == q with
  | some x =>
    let s := s.modMgt fun m => { m with relay := m.relay.filter fun y => y != x }
    s.dgramResult x.2.2 ((c.payload.headD 0).toNat % 16) (c.payload.drop 1)
  | none => s.keepCell c

/-- RESULT_CELL (R246, R296): the result of a command reaches the command's source. -/
def execResultCell (l : Nat) (c : Cell) (cyc : Nat) (s : State) : Host.Outcome State Fault Refusal :=
  .next (s.cellIn l cyc c fun s => s.streamCell c fun s => s.resultHome c)

/-- TLM_CELL (R297): telemetry is received; the ringmaster sends it on to the peer as a datagram. -/
def execTlmCell (l : Nat) (c : Cell) (cyc : Nat) (s : State) : Host.Outcome State Fault Refusal :=
  .next (s.cellIn l cyc c fun s => s.streamCell c fun s =>
    if s.isRing then s.sendBoth s.peerIp (.dgram { s.toPeer 6 c.payload with target := c.src }) else s.keepCell c)

/-! ### Other protocols (R294, R298) -/

/-- ARP_REQUEST (R294): a request for the device's address is answered to the asker. -/
def execArpRequest (f : Frame) (ip cyc : Nat) (s : State) : Host.Outcome State Fault Refusal :=
  .next (s.frameIn f (.arp ip) true cyc fun s => if ip = s.ip4 0x1C22 then s.sendTo none true f.mac (.arp ip) else s)

/-- The link-local address: modified EUI-64 of the MAC (R294). -/
def State.linkLocal (s : State) : Nat :=
  let m := s.rdPair MGT_MAC_LO MGT_MAC_HI
  0xFE80 * 2 ^ 112 + ((m / 2 ^ 24) ^^^ 0x020000) * 2 ^ 40 + 0xFFFE * 2 ^ 24 + m % 2 ^ 24

/-- NEIGHBOUR_SOLICITATION (R294): a solicitation for one of the device's addresses is answered to the asker. -/
def execNeighbourSolicitation (f : Frame) (ip cyc : Nat) (s : State) : Host.Outcome State Fault Refusal :=
  .next (s.frameIn f (.neighbour ip) true cyc fun s =>
    if ip = s.ip6 0x1C26 ∨ ip = s.linkLocal then s.sendTo none true f.mac (.neighbour ip) else s)

/-- ICMP_ECHO_REQUEST (R294): an echo request from `ip` to the device is answered. -/
def execIcmpEchoRequest (f : Frame) (ip dst id cyc : Nat) (s : State) : Host.Outcome State Fault Refusal :=
  .next (s.frameIn f (.icmp ip id) true cyc fun s =>
    if dst = s.ip4 0x1C22 ∨ dst = s.ip6 0x1C26 ∨ dst = s.linkLocal then
      if f.rct.isSome then s.sendBoth ip (.icmp ip id) else s.sendPath f.path ip (.icmp ip id)
    else s)

/-- PRP_SUPERVISION_FRAME (R298): a received supervision frame is counted and otherwise ignored. -/
def execPrpSupervisionFrame (f : Frame) (s : State) : Host.Outcome State Fault Refusal :=
  .next (s.pathIn f.path fun s => if f.bad then s.bump (MGT_PATH_RXERR f.path) else s.bump (MGT_PATH_SUPV f.path))

/-- PRP_SUPERVISION_SEND (R298): every 2 s a supervision frame is sent on both paths. -/
def execPrpSupervisionSend (s : State) : Host.Outcome State Fault Refusal := .next (s.sendTo none true 0 .supervision)

/-- DUP_ENTRY_EXPIRE (R299, R300): an entry of the duplicate table is 400 ms old. -/
def execDupEntryExpire (mac seq cyc : Nat) (s : State) : Host.Outcome State Fault Refusal :=
  .next (
    match s.mgt.dup.find? fun e => e.mac == mac && e.seq == seq with
    | some e => s.forget e cyc
    | none => s)

/-- COMPARE_WINDOW_END (R300, R301): the counts of the window are shown and a new window starts. -/
def execCompareWindowEnd (cyc : Nat) (s : State) : Host.Outcome State Fault Refusal :=
  .next (
    let n (p : Nat) := min 255 (Tab.get 0 s.mgt.miss p)
    let s := (s.setF (MGT_PATH_STAT 0) MGT_PATH_STAT_MISSW (n 0)).setF (MGT_PATH_STAT 1) MGT_PATH_STAT_MISSW (n 1)
    let s := s.modMgt fun m => { m with miss := [], heardLast := m.heard, heard := [] }
    (s.pathUp 0 cyc).pathUp 1 cyc)

/-! ### Links and probes (R301, R304, R305) -/

/-- SGMII_LINK_CHANGE (R293, R301): the port of path `p` has sync or not, and the PHY's link word shows a link, of 1,000
Mbit/s full duplex or not. -/
def execSgmiiLinkChange (p : Nat) (sync link speedOk : Bool) (cyc : Nat) (s : State) : Host.Outcome State Fault Refusal :=
  .next (
    let s := if link && !speedOk then s.raise MGT_LINK_SPEED p cyc else s
    let up := sync && link && speedOk && s.pathOn p
    let s := (s.setF (MGT_PATH_STAT p) MGT_PATH_STAT_SYNC (b2n sync)).setF (MGT_PATH_STAT p) MGT_PATH_STAT_LINK (b2n (link && speedOk))
    if !up then s.pathDown p cyc else if s.pathSt p = 0 then s.setPath p 1 else s)

/-- PROBE_SEND (R304): every 100 ms a probe goes out on each path whose link is up, with a trailer for the path's LanId (log entry 41). -/
def execProbeSend (s : State) : Host.Outcome State Fault Refusal :=
  .next (forEach 2 (fun p s =>
    if s.pathEn p && s.pathLink p then
      let n := s.mgt.nextProbe
      let s := s.modMgt fun m => { m with probes := m.probes ++ [(p, n)], nextProbe := (n + 1) % 2 ^ 32 }
      s.sendTo (some p) true (s.hop (isV6 s.peerIp) s.peerIp) (.dgram { s.toPeer 0x20 [] with num := n })
    else s) s)

/-- PROBE (R304): a probe of the peer is echoed on the path on which it came. -/
def execProbe (f : Frame) (d : Dgram) (cyc : Nat) (s : State) : Host.Outcome State Fault Refusal :=
  .next (s.dgIn f d cyc fun s => s.sendPath f.path d.ip (.dgram { s.dgramOf 0x21 d.ip d.sport d.session [] with num := d.num }))

/-- PROBE_ECHO (R301, R304): the echo of a probe that waits on this path, `rtt` µs after it left. A path that is DOWN with
its link up starts proving (log entry 41). -/
def execProbeEcho (f : Frame) (d : Dgram) (rtt cyc : Nat) (s : State) : Host.Outcome State Fault Refusal :=
  .next (s.dgIn f d cyc fun s =>
    if !s.mgt.probes.contains (f.path, d.num) then s
    else
      let p := f.path
      let r := BitVec.ofNat 24 (min rtt 0xFFFFFF)
      let s := s.wr (MGT_PATH_RTT p) r
      let s := if (s.rd (MGT_PATH_RTTMAX p)).toNat < r.toNat then s.wr (MGT_PATH_RTTMAX p) r else s
      let s := s.modMgt fun m => { m with probes := m.probes.filter fun x => x != (p, d.num), fail := Tab.set 0 m.fail p 0,
                                          pass := Tab.set 0 m.pass p (Tab.get 0 m.pass p + 1) }
      let s := if s.pathSt p = 0 then s.setPath p 1 else s
      s.pathUp p cyc)

/-- PROBE_LOST (R301, R304): the echo of a probe has not come in TMO; FAIL in a row take the path DOWN. -/
def execProbeLost (p n cyc : Nat) (s : State) : Host.Outcome State Fault Refusal :=
  .next (
    if !s.mgt.probes.contains (p, n) then s
    else
      let s := (s.bump (MGT_PATH_LOST p)).modMgt fun m =>
        { m with probes := m.probes.filter fun x => x != (p, n), pass := Tab.set 0 m.pass p 0,
                 fail := Tab.set 0 m.fail p (Tab.get 0 m.fail p + 1) }
      if s.getF MGT_PROBE MGT_PROBE_FAIL ≤ Tab.get 0 s.mgt.fail p then s.pathDown p cyc else s)

/-- BOTH_DOWN_REPEAT (R301): every 1 s with both paths DOWN. -/
def execBothDownRepeat (cyc : Nat) (s : State) : Host.Outcome State Fault Refusal :=
  .next (if s.pathSt 0 = 0 ∧ s.pathSt 1 = 0 then s.raise MGT_BOTH_DOWN 0xFF cyc else s)

/-- HEALTH_SEND (R305): every 1 s the blocks of both paths are sent to the peer. -/
def execHealthSend (s : State) : Host.Outcome State Fault Refusal :=
  .next (s.sendBoth s.peerIp (.dgram (s.toPeer 7 ((List.range 16).map fun k => s.rd (.path (k / 8) (k % 8))))))

/-! ### Session saves (R302, R303) -/

/-- Save the open sessions over the older copy. -/
def State.sesSave (s : State) (ok : Bool) : State :=
  let m := s.mgt
  let r : SesSave := ⟨m.saves.nextSeq SesSave.words (·.seq), m.bulk, m.recs, s.getF MGT_STAT MGT_STAT_BULK, s.getF MGT_STAT MGT_STAT_REC⟩
  s.modMgt fun m => { m with saves := m.saves.put SesSave.words (·.seq) (if ok then some r else none) }

/-- Is there something to save: an open session, or one in the newest save that has closed since (R303, log entry 42)? -/
def MgtSt.toSave (m : MgtSt) : Bool :=
  m.bulk.isSome || m.recs.isSome || (match m.newest with | some v => v.bulk.isSome || v.recs.isSome | none => false)

/-- The saves in a row, with the one at hand, at which path `p` was UP (R302). -/
def State.pathHold (s : State) (p : Nat) : Nat := if s.pathSt p = 2 then Tab.get 0 s.mgt.hold p + 1 else 0

/-- SESSION_SAVE (R302, R303): every 1 s the open sessions are saved; bulk returns to the preferred path once that has stayed
UP for REVERT seconds. -/
def execSessionSave (ok : Bool) (s : State) : Host.Outcome State Fault Refusal :=
  .next (
    let pref := s.getF MGT_CTL MGT_CTL_PREF
    let s := s.modMgt fun m => { m with hold := [(0, s.pathHold 0), (1, s.pathHold 1)].foldl (fun t e => Tab.set 0 t e.1 e.2) [] }
    let s := if s.mgt.toSave then s.sesSave ok else s
    if s.mgt.bulk.isSome ∧ s.getF MGT_CTL MGT_CTL_REVERT < Tab.get 0 s.mgt.hold pref ∧ s.getF MGT_STAT MGT_STAT_BULK = 1 - pref then
      s.setF MGT_STAT MGT_STAT_BULK pref
    else s)

/-! ### Ship time (R306, R307) -/

/-- The path that PTP uses (R306): 2 none. -/
def State.ptpPath (s : State) : Nat :=
  match s.getF MGT_PTP MGT_PTP_PATH with
  | 0 => if s.mgt.bulk.isSome then s.getF MGT_STAT MGT_STAT_BULK else s.pathPick
  | 1 => 0
  | _ => 1

/-- A PTP message arrives on a path, of a domain and an IP version: taken only where the clock listens (R306). -/
def State.ptpIn (s : State) (p domain : Nat) (v6 : Bool) (k : State → State) : State :=
  s.pathIn p fun s =>
    if s.flag MGT_CTL MGT_CTL_PTP_EN && s.ptpPath == p && s.getF MGT_PTP MGT_PTP_DOMAIN == domain
        && s.flag MGT_PTP MGT_PTP_V6 == v6 then k s else s

/-- Does one dataset precede another (R306)? -/
def PtpSet.better (a b : PtpSet) : Bool :=
  let l := [(a.prio1, b.prio1), (a.cls, b.cls), (a.acc, b.acc), (a.var, b.var), (a.prio2, b.prio2), (a.ident, b.ident), (a.steps, b.steps)]
  match l.find? fun x => x.1 != x.2 with | some x => decide (x.1 < x.2) | none => false

/-- PTP_ANNOUNCE (R306): an Announce message is compared for the best master. -/
def execPtpAnnounce (p domain : Nat) (v6 : Bool) (d : PtpSet) (s : State) : Host.Outcome State Fault Refusal :=
  .next (s.ptpIn p domain v6 fun s =>
    match s.mgt.master with
    | none => s.modMgt fun m => { m with master := some d }
    | some b => if d.ident = b.ident ∨ d.better b then s.modMgt fun m => { m with master := some d } else s)

/-- Is a message from the master that the clock follows (R306)? -/
def State.fromMaster (s : State) (ident : Nat) : Bool := match s.mgt.master with | some b => b.ident == ident | none => false

/-- The mapping that an exchange with the master measured takes effect at the next S (R307). -/
def State.ptpMap (s : State) (ident : Nat) (map : Nat × Nat × Nat × Int) (ofs : Int) : State :=
  if s.fromMaster ident then
    (s.modMgt fun m => { m with map := some map }).setF MGT_PTP_STAT MGT_PTP_STAT_OFS (BitVec.ofInt 23 ofs).toNat
  else s

/-- PTP_SYNC (R306, R307): a Sync exchange with master `ident` completes; it measured the ship time at the S of count `c`,
the rate of the tick, and the offset in ns. -/
def execPtpSync (p domain : Nat) (v6 : Bool) (ident c sec ns : Nat) (rate ofs : Int) (s : State) : Host.Outcome State Fault Refusal :=
  .next (s.ptpIn p domain v6 fun s => s.ptpMap ident (c, sec, ns, rate) ofs)

/-- PTP_FOLLOW_UP (R306): the Follow_Up of a two-step master completes its Sync. -/
def execPtpFollowUp (p domain : Nat) (v6 : Bool) (ident c sec ns : Nat) (rate ofs : Int) (s : State) : Host.Outcome State Fault Refusal :=
  .next (s.ptpIn p domain v6 fun s => s.ptpMap ident (c, sec, ns, rate) ofs)

/-- PTP_DELAY_RESP (R306): a Delay_Resp completes the request-response exchange and corrects the mapping. -/
def execPtpDelayResp (p domain : Nat) (v6 : Bool) (ident c sec ns : Nat) (rate ofs : Int) (s : State) : Host.Outcome State Fault Refusal :=
  .next (s.ptpIn p domain v6 fun s => s.ptpMap ident (c, sec, ns, rate) ofs)

/-- The mapping from count to ship time that the device uses, as count, seconds and nanoseconds: its own at the ringmaster, and at a
member with PTP enabled and locked; the marker's otherwise (R307). -/
def State.shipTime (s : State) : Option (Nat × Nat × Nat) :=
  if s.isRing || (s.flag MGT_CTL MGT_CTL_PTP_EN && s.flag MGT_PTP_STAT MGT_PTP_STAT_LOCK) then
    some (s.rdPair MGT_TIME_COUNT_LO MGT_TIME_COUNT_HI, s.rdPair MGT_TIME_SEC_LO MGT_TIME_SEC_HI, s.rdPair MGT_TIME_NS_LO MGT_TIME_NS_HI)
  else s.trp.time

/-- PTP_LOST (R307): no Sync for 8 s: MGT_PTP_LOST, and LOCK reads 0; the mapping holds. -/
def execPtpLost (cyc : Nat) (s : State) : Host.Outcome State Fault Refusal :=
  .next (
    if s.flag MGT_CTL MGT_CTL_PTP_EN then
      ((s.setF MGT_PTP_STAT MGT_PTP_STAT_LOCK 0).raise MGT_PTP_LOST 0xFF cyc).modMgt fun m => { m with map := none }
    else s)

/-- At S a new mapping takes effect; the ringmaster's markers carry it (R307). -/
def State.ptpBoundary (s : State) : State :=
  match s.mgt.map with
  | none => s
  | some (c, sec, ns, rate) =>
    let s := (s.wrPair MGT_TIME_COUNT_LO MGT_TIME_COUNT_HI c).wrPair MGT_TIME_SEC_LO MGT_TIME_SEC_HI sec
    let s := (s.wrPair MGT_TIME_NS_LO MGT_TIME_NS_HI ns).wrPair MGT_TIME_RATE_LO MGT_TIME_RATE_HI (BitVec.ofInt 48 rate).toNat
    let s := (s.setF MGT_PTP_STAT MGT_PTP_STAT_LOCK 1).modMgt fun m => { m with map := none }
    if s.isRing then { s with trp := { s.trp with time := some (c, sec, ns) } } else s

end Sys2Proof.Machine
end

