-- ==== Sys2Proof/Machine/Otp.lean ====
section
/-! DEFINITION. The OTP envelope block: programming, sealing, the lock fuse, loading (R229 to R231, R497). -/

namespace Sys2Proof.Machine

/-! ### The envelope block (R229) -/

/-- A word of an envelope generation. -/
def State.envWord (s : State) (g w : Nat) : Word := Tab.get 0 s.otp.env (g * 1026 + w)

/-- Does the CRC of a generation match? -/
def State.envCrcOk (s : State) (g : Nat) : Bool :=
  let c := crcWords ((List.range 1024).map (s.envWord g))
  s.envWord g 1024 == BitVec.ofNat 24 c && s.envWord g 1025 == BitVec.ofNat 24 (c / 2 ^ 24)

/-- Has some port a field that no sealed generation may hold (R229)? -/
def State.envInvalid (s : State) (g : Nat) : Bool :=
  (List.range 128).any fun p =>
    let f (k : Nat) : Word := s.envWord g (8 * p + k)
    decide ((f 4).toInt < (f 5).toInt) || decide (20 < ENV_PERS_SLOW_A.get (f 7))
      || [0, 2, 3, 6].any fun k => (f k).msb

/-- Is some field of generation `g` looser than in generation `h` (R229, R221)? -/
def State.envLooser (s : State) (g h : Nat) : Bool :=
  (List.range 1024).any fun w => !(tighten (0x80 + w % 8) (s.envWord h w) (s.envWord g w)).2

/-- ENV_OTP_STAT follows the block: GEN, SEALED, LOCK. -/
def State.envStat (s : State) : State :=
  let s := s.setF ENV_OTP_STAT ENV_OTP_STAT_GEN (s.otp.sealed - 1)
  let s := s.setF ENV_OTP_STAT ENV_OTP_STAT_SEALED (b2n (decide (0 < s.otp.sealed)))
  s.setF ENV_OTP_STAT ENV_OTP_STAT_LOCK (b2n s.otp.lock)

/-- A write of ENV_OTP_DATA programs the word at ADDR of the next unsealed generation, and ADDR advances (R229). With four
generations sealed there is none to program. After word 1,025 ADDR has no stated value (log entry 35). -/
def State.envProgram (s : State) (w : Word) : State :=
  let a := s.getF ENV_OTP_ADDR ENV_OTP_ADDR_ADDR
  let k := s.otp.sealed * 1026 + a
  let s := if 4 ≤ s.otp.sealed then s
    else { s with otp := { s.otp with env := Tab.set 0 s.otp.env k (Tab.get 0 s.otp.env k ||| w) } }
  if a < 1025 then s.setF ENV_OTP_ADDR ENV_OTP_ADDR_ADDR (a + 1)
  else let f := s.takeWord; f.2.setF ENV_OTP_ADDR ENV_OTP_ADDR_ADDR (f.1.toNat % 1026)

/-- What a read of ENV_OTP_DATA returns. -/
def State.envData (s : State) : Word := s.envWord (min 3 s.otp.sealed) (s.getF ENV_OTP_ADDR ENV_OTP_ADDR_ADDR)

/-- A write of ENV_OTP_CMD (R229, R230): SEAL starts sealing the next generation; LOCK with CONFIRM 0xA5 blows the lock
fuse where a generation is sealed. -/
def State.envCmd (s : State) (w : Word) : State :=
  let s := if ENV_OTP_CMD_SEAL.on w ∧ s.otp.sealed < 4 then s.setF ENV_OTP_CMD ENV_OTP_CMD_SEAL 1 else s
  if ENV_OTP_CMD_LOCK.on w ∧ ENV_OTP_CMD_CONFIRM.get w = 0xA5 ∧ 0 < s.otp.sealed then
    { s with otp := { s.otp with lock := true } }.envStat
  else s

/-- ENV_SEAL_COMPLETE (R229): the seal of the next generation completes, or is refused with its first cause in ERR. -/
def execEnvSealComplete (s : State) : Host.Outcome State Fault Refusal :=
  .next (
    if !s.flag ENV_OTP_CMD ENV_OTP_CMD_SEAL then s
    else
      let g := s.otp.sealed
      let err := if !s.envCrcOk g then 1 else if s.envInvalid g then 2
        else if s.otp.lock && s.envLooser g (g - 1) then 3 else 0
      let s := (s.setF ENV_OTP_CMD ENV_OTP_CMD_SEAL 0).setF ENV_OTP_STAT ENV_OTP_STAT_ERR err
      if err = 0 then { s with otp := { s.otp with sealed := g + 1 } }.envStat else s)

/-- Load the ENV_ registers of one port from a generation, or the blank envelope (R231). -/
def State.envLoadPort (s : State) (blank : Bool) (p : Nat) : State :=
  let v (k : Nat) : Word := if blank then (if k = 7 then 0x20 else 0) else s.envWord (s.otp.sealed - 1) (8 * p + k)
  let s := forEach 8 (fun k s => s.wr (.port p (0x80 + k))
    (if k = 1 then v k &&& 0x03FFFF else if k = 7 then v k &&& 0xFBF else v k)) s
  (s.setF (ENV_STAT p) ENV_STAT_TIGHT 0).modPort p fun x => { x with envPend := [], cmpOld := [], slowLd := v 3 }

/-- Load the envelopes of the ports of a list (R231): the blank envelope where no generation is sealed or the highest one
fails its CRC, which raises ENV_OTP_ERR. -/
def State.envLoad (s : State) (ports : List Nat) : State :=
  let bad := decide (0 < s.otp.sealed) && !s.envCrcOk (s.otp.sealed - 1)
  let blank := bad || s.otp.sealed == 0
  let s := forList ports (fun p s => s.envLoadPort blank p) s.envStat
  let s := s.setF ENV_OTP_STAT ENV_OTP_STAT_BLANK (b2n blank)
  if bad then s.raise ENV_OTP_ERR 0xFF 0 else s

end Sys2Proof.Machine
end

