-- ==== Sys2Proof/Machine/Twb.lean ====
section
/-! DEFINITION. The two-wire buses: timing, rise times, status latches, PMBus values, alert event, whistle, controller
transfers (R310 to R331). The PMBus commands are in PmBus. -/

namespace Sys2Proof.Machine

def State.bus (s : State) (b : Nat) : TwbSt := Tab.get {} s.buses b
def State.modBus (s : State) (b : Nat) (f : TwbSt → TwbSt) : State := { s with buses := Tab.set {} s.buses b (f (s.bus b)) }

/-- The tile of a bus (R310). -/
def busTile (b : Nat) : Nat := match b with | 0 => 0 | 1 => 1 | 2 => 3 | _ => 5

/-- Is the bus enabled, its tile up and powered (R397), and does it take part as a target or as a controller (R310, R316)? -/
def State.busOn (s : State) (b : Nat) : Bool := s.flag (TWB_CTL b) TWB_CTL_EN && !s.tileDown (busTile b) && (b == 0 || !s.lullOff)
def State.busTarget (s : State) (b : Nat) : Bool := s.busOn b && s.getF (TWB_CTL b) TWB_CTL_ROLE != 1
def State.busController (s : State) (b : Nat) : Bool := s.busOn b && b != 0 && s.getF (TWB_CTL b) TWB_CTL_ROLE != 0

/-! ### Bus timing (R312, R313) -/

/-- Defaults of TWB_TMG0 to TWB_TMG3 in a mode, in 10 ns units (R312). -/
def twbDefaults (mode : Nat) : List Nat :=
  let f (hi lo : Nat) : Nat := hi * 4096 + lo
  match mode with
  | 0 => [f 500 500, f 400 470, f 470 400, 30 * 256 + 25]
  | 1 => [f 100 150, f 60 60, f 130 60, 30 * 256 + 10]
  | _ => [f 40 60, f 26 26, f 50 26, 10 * 256 + 5]

/-- Is a timing word at least the minimum of every one of its fields, and LOW + HIGH of the period (R312)? -/
def twbTimingOk (mode k : Nat) (w : Word) : Bool :=
  let hi := TWB_TMG0_A.get w
  let lo := TWB_TMG0_B.get w
  let pick (a b c : Nat) : Nat := match mode with | 0 => a | 1 => b | _ => c
  match k with
  | 0 => decide (pick 470 130 50 ≤ lo) && decide (pick 400 60 26 ≤ hi) && decide (pick 1000 250 100 ≤ lo + hi)
  | 1 => decide (pick 470 60 26 ≤ lo) && decide (pick 400 60 26 ≤ hi)
  | 2 => decide (pick 400 60 26 ≤ lo) && decide (pick 470 130 50 ≤ hi)
  | _ => decide (pick 25 10 5 ≤ TWB_TMG3_SUDAT.get w)

/-- The rise times of a transaction are compared with their limits; a misfit is raised once for it (R313). -/
def State.riseCheck (s : State) (b : Nat) (controller : Bool) (scl sda cyc : Nat) : State :=
  let l := TWB_RISE b
  let s := s.setF l TWB_RISE_SCL (max (s.getF l TWB_RISE_SCL) (min 4095 scl))
  let s := s.setF l TWB_RISE_SDA (max (s.getF l TWB_RISE_SDA) (min 4095 sda))
  let lim := match s.getF (TWB_CTL b) TWB_CTL_MODE with | 0 => 1000 | 1 => 300 | _ => 120
  let slack := 10 * ((s.getF (TWB_TMG0 b) TWB_TMG0_B : Int) - s.getF (TWB_TMG3 b) TWB_TMG3_HDDAT - s.getF (TWB_TMG3 b) TWB_TMG3_SUDAT)
  if lim < scl ∨ lim < sda ∨ (controller ∧ slack < sda) then
    ((s.setF (TWB_STAT b) TWB_STAT_MISFIT 1).countP (8 + b) 0x92 1).raise TWB_MISFIT b cyc else s

/-! ### Alert event and whistle (R323, R324) -/

/-- The alert event of a bus is set (R323); one that becomes set calls for a whistle (R324). -/
def State.alertSet (s : State) (b : Nat) : State :=
  if s.flag (TWB_STAT b) TWB_STAT_ALERT then s
  else (s.setF (TWB_STAT b) TWB_STAT_ALERT 1).modBus b fun x => { x with whistle := true }

/-- An event handled at a tier sets the alert events that it reaches (R323, log entry 43). -/
def State.alertTier (s : State) (tier : Nat) : State :=
  forEach 4 (fun b s => if s.getF (TWB_ALERT b) TWB_ALERT_TIER ≤ tier then s.alertSet b else s) s

/-- The alert event clears. -/
def State.alertClear (s : State) (b : Nat) : State :=
  (s.setF (TWB_STAT b) TWB_STAT_ALERT 0).modBus b fun x => { x with whistle := false }

/-- A bit of STATUS_CML is set, and with it the alert event (R320, R323). -/
def State.cmlSet (s : State) (b bit : Nat) : State :=
  (s.wr (TWB_CML b) (s.rd (TWB_CML b) ||| BitVec.ofNat 24 (2 ^ bit))).alertSet b

/-- ALERT_N is low (R323). -/
def State.alertN (s : State) : Bool := s.flag (TWB_STAT 0) TWB_STAT_ALERT && s.flag (TWB_ALERT 0) TWB_ALERT_PIN

/-- May the bus drive a whistle: enabled for it, a target, its alert event set, none in progress (R324)? -/
def State.mayWhistle (s : State) (b : Nat) : Bool :=
  s.busTarget b && s.flag (TWB_CTL b) TWB_CTL_WHISTLE && s.flag (TWB_STAT b) TWB_STAT_ALERT && !s.flag (TWB_STAT b) TWB_STAT_WHS_ACT

/-- WHISTLE (R324): on the idle bus the device drives SDA low, once its alert event has become set or after an abort. -/
def execWhistle (b : Nat) (s : State) : Host.Outcome State Fault Refusal :=
  .next (if s.mayWhistle b ∧ (s.bus b).whistle then
      (s.setF (TWB_STAT b) TWB_STAT_WHS_ACT 1).modBus b fun x => { x with whistle := false } else s)

/-- WHISTLE_RELEASE (R324): after 5 µs SDA is released. -/
def execWhistleRelease (b : Nat) (s : State) : Host.Outcome State Fault Refusal := .next (s.setF (TWB_STAT b) TWB_STAT_WHS_ACT 0)

/-- WHISTLE_ABORT (R324): SCL falls during a whistle: SDA is released, the abort counts, and the whistle is due again while the
alert event is set. -/
def execWhistleAbort (b : Nat) (s : State) : Host.Outcome State Fault Refusal :=
  .next (if s.flag (TWB_STAT b) TWB_STAT_WHS_ACT then
      ((s.setF (TWB_STAT b) TWB_STAT_WHS_ACT 0).bump (TWB_WHS_CNT b)).modBus b fun x =>
        { x with whistle := s.flag (TWB_STAT b) TWB_STAT_ALERT } else s)

/-- WHISTLE_REPEAT (R324): every REP × 100 ms while the alert event stays set. -/
def execWhistleRepeat (b : Nat) (s : State) : Host.Outcome State Fault Refusal :=
  .next (if s.mayWhistle b ∧ s.getF (TWB_ALERT b) TWB_ALERT_REP ≠ 0 then
      (s.setF (TWB_STAT b) TWB_STAT_WHS_ACT 1).modBus b fun x => { x with whistle := false } else s)

/-- WHISTLE_SEEN (R324): a bus in the controller role recognises a whistle and interrupts its steward. -/
def execWhistleSeen (b : Nat) (s : State) : Host.Outcome State Fault Refusal :=
  .next (if s.busController b then (s.setF (TWB_STAT b) TWB_STAT_WHS_SEEN 1).irq (busTile b) 6 else s)

/-- ALERT_RESPONSE_READ (R323): the bus answers the Alert Response Address with its own; it clears its event where it wins the
arbitration. A bus without the event does not answer. -/
def execAlertResponseRead (b : Nat) (won : Bool) (s : State) : Host.Outcome State Fault Refusal :=
  .next (if s.busTarget b then
      if s.flag (TWB_STAT b) TWB_STAT_ALERT then
        let s := s.modBus b fun x => { x with nack := none, sent := [2 * s.getF (TWB_ADDR b) TWB_ADDR_ADDR] }
        if won then s.alertClear b else s
      else s.modBus b fun x => { x with nack := some 0, sent := [] }
    else s)

/-- TWB_TIMEOUT (R326): SCL low for 25 ms resets the interface of a target bus. -/
def execTwbTimeout (b cyc : Nat) (s : State) : Host.Outcome State Fault Refusal :=
  .next (if s.busTarget b then (s.cmlSet b 1).raise TWB_TIMEOUT_SRC b cyc else s)

/-! ### Controller transfers (R327 to R329) -/

def State.modAge (s : State) (f : AgeSt → AgeSt) : State := { s with age := f s.age }

/-- Byte `k` of the buffer of a bus (R327, R331). -/
def State.bufByte (s : State) (b k : Nat) : Nat := (s.rd (TWB_BUF b (k / 3))).toNat / 2 ^ (8 * (2 - k % 3)) % 256

/-- The bytes that the write part of a transfer drives after its START: the address, the data, and the PEC byte (R327). -/
def writePart (taddr : Nat) (data : List Nat) (pec : Bool) : List Nat :=
  let l := 2 * taddr :: data
  if pec then l ++ [crc8 l] else l

/-- The regulator write starts where it is due, its bus is a controller and no transfer runs there (R383). Its data are the
newest request in Linear16. -/
def State.avsStart (s : State) : State :=
  let b := s.getF AGE_AVS_BUS AGE_AVS_BUS_BUS
  if s.age.avs = 1 ∧ s.getF AGE_AVS AGE_AVS_TADDR ≠ 0 ∧ s.busController b ∧ !s.flag (TWB_STAT b) TWB_STAT_BUSY then
    let e := s.getF AGE_AVS AGE_AVS_VEXP
    let mv := s.getF AGE_VREQ AGE_VREQ_MV
    let y := (clampI 0 65535 (if e < 16 then roundq mv (1000 * 2 ^ e) else roundq (mv * 2 ^ (32 - e)) 1000)).toNat
    let s := s.modAge fun a => { a with avs := 0, sent := some y }
    let w := writePart (s.getF AGE_AVS AGE_AVS_TADDR) [0x21, y % 256, y / 256] true
    (s.setF (TWB_STAT b) TWB_STAT_BUSY 1).modBus b fun x =>
      { x with xfer := some (s.getF (TWB_CTL b) TWB_CTL_RETRY), avs := true, wrote := w }
  else s

/-- The regulator write has ended: a failure is tried again at the next step, three in a row raise AGE_AVS_FAIL (R383). -/
def State.avsEnd (s : State) (b err cyc : Nat) : State :=
  if !(s.bus b).avs then s
  else
    let s := s.modBus b fun x => { x with avs := false }
    if err = 0 then s.modAge fun a => { a with fails := 0 }
    else if s.age.fails = 2 then (s.raise AGE_AVS_FAIL 0xFF cyc).modAge fun a => { a with fails := 0, avs := if a.avs = 0 then 2 else a.avs }
    else s.modAge fun a => { a with fails := a.fails + 1, avs := if a.avs = 0 then 2 else a.avs }

/-- A transfer ends with a result (R327, R329). -/
def State.xferEnd (s : State) (b err nb cyc : Nat) : State :=
  let s := (s.setF (TWB_STAT b) TWB_STAT_BUSY 0).modBus b fun x => { x with xfer := none }
  let s := s.wr (TWB_RES b) (TWB_RES_ERR.put (TWB_RES_NB.put 0 nb) err)
  let s := s.countP (8 + b) 0x90 1
  let s := if err = 1 ∨ err = 2 then s.countP (8 + b) 0x91 1 else s
  let s := if err = 0 then s else s.bump (TWB_ERR_CNT b)
  let s := if err = 4 then s.raise TWB_ARB_SS b cyc else if err = 7 then s.raise TWB_BUS_STUCK b cyc else s
  ((s.irq (busTile b) 6).avsEnd b err cyc).avsStart

/-- A running transfer is aborted (R329); the model does not follow its bytes, so their number is free (log entry 4). -/
def State.xferAbort (s : State) (b cyc : Nat) : State :=
  if s.flag (TWB_STAT b) TWB_STAT_BUSY then let f := s.takeWord; f.2.xferEnd b 8 (f.1.toNat % 64) cyc else s

/-- A write of TWB_XFER (R327): GO starts a transfer, and is refused while one runs. Where the bus is no enabled controller no
transfer starts (log entry 44). False: refused. -/
def State.twbXferWrite (s : State) (b : Nat) (w : Word) : State × Bool :=
  if TWB_XFER_GO.on w then
    if s.flag (TWB_STAT b) TWB_STAT_BUSY then (s, false)
    else
      let s := s.wr (TWB_XFER b) (w &&& 0x7FFFFF)
      if s.busController b then
        let n := TWB_XFER_WCNT.get w
        let l := if n = 0 then [] else writePart (TWB_XFER_TADDR.get w) ((List.range n).map (s.bufByte b)) (TWB_XFER_PEC.on w)
        ((s.setF (TWB_STAT b) TWB_STAT_BUSY 1).modBus b fun x => { x with xfer := some (s.getF (TWB_CTL b) TWB_CTL_RETRY), wrote := l }, true)
      else (s, true)
  else (s.wr (TWB_XFER b) w, true)

/-- A write of TWB_CTL (R312, R329): a change of MODE loads the defaults of the new mode, EN 0 ends a transfer. -/
def State.twbCtlWrite (s : State) (b : Nat) (w : Word) (cyc : Nat) : State :=
  let mode := TWB_CTL_MODE.get w
  let s := if mode = s.getF (TWB_CTL b) TWB_CTL_MODE then s
    else (twbDefaults mode).zipIdx.foldl (fun s e => s.wr (.bus b (2 + e.2)) (BitVec.ofNat 24 e.1)) s
  let s := s.wr (TWB_CTL b) w
  if TWB_CTL_EN.on w then s else s.xferAbort b cyc

/-- The bytes that a transfer read replace the buffer from byte 0 (R327). -/
def State.bufLoad (s : State) (b : Nat) (l : List Nat) : State :=
  (l.take 63).zipIdx.foldl (fun s e =>
    let f : Fld := ⟨8 * (2 - e.2 % 3) + 7, 8 * (2 - e.2 % 3)⟩
    s.setF (TWB_BUF b (e.2 / 3)) f e.1) s

/-- TWB_XFER_DONE (R327 to R329): a transfer ends; a lost arbitration ends it only once the retries are spent. -/
def execTwbXferDone (b err nb : Nat) (bytes : List Nat) (scl sda cyc : Nat) (s : State) : Host.Outcome State Fault Refusal :=
  .next (
    match (s.bus b).xfer with
    | none => s
    | some r =>
      if err = 3 ∧ r ≠ 0 then s
      else (((s.bufLoad b bytes).riseCheck b true scl sda cyc).xferEnd b err nb cyc))

/-- TWB_ARB_RETRY (R328): after a loss of arbitration, STOP and BUF, the transfer starts again. -/
def execTwbArbRetry (b : Nat) (s : State) : Host.Outcome State Fault Refusal :=
  .next (
    match (s.bus b).xfer with
    | none => s
    | some r => s.modBus b fun x => { x with xfer := some (r - 1) })

/-! ### The telemetry mirror (R314, R319, R320) -/

/-- Does the telemetry mirror serve a register (R314)? -/
def mirrored (l : Loc) : Bool :=
  match l with
  | .pkg _ => [MER_STAT, MER_COUNT_LO, MER_COUNT_HI, HLD_STAT, HLD_VBUS, HLD_PLOAD, HLD_PBAT, HLD_ECAP, HLD_EBAT_LO, HLD_EBAT_HI,
      HLD_TRIDE_LO, HLD_TRIDE_HI, CAP_STAT].contains l
  | .port p _ => [STG_STAT p, STG_SMP_I p, STG_SMP_V p, STG_SMP_T p, FAN_SPD p, FUS_STAT p, ORG_STAT p, ENV_STAT p, PHS_IAVG p,
      PHS_DLY_LAST p].contains l
  | .rail r _ => [PHS_RAIL_STAT r, PHS_TLM_V r, PHS_TLM_I r, PHS_TLM_P r, PHS_TLM_T r, PHS_PK_VMAX r, PHS_PK_VMIN r, PHS_PK_IMAX r,
      PHS_PK_PMAX r, PHS_PK_TMAX r].contains l
  | .string u _ => [BAT_STAT u, BAT_SOC u].contains l
  | _ => false

/-- Does a half of the mirror hold what a register says: one that it serves, or one that scales a PMBus value (R319)? -/
def mirrorKeeps (l : Loc) : Bool :=
  mirrored l || (match l with
    | .port p _ => [TWB_PFS_V p, TWB_PFS_I p, TWB_PT_SPAN p, TWB_PT_OFS p].contains l
    | .bus b _ => l == TWB_CTL b
    | _ => false)

/-- A register as the half in force holds it. -/
def State.mirRd (s : State) (l : Loc) : Word := Tab.get (resetWord l.addr) s.mir.half l.addr

/-- The status bits of the events of a port, by the offsets of their sources (R320). -/
def eventLatch (seen : Nat → Bool) : Latch :=
  let bit (o k : Nat) : Nat := if seen o then 2 ^ k else 0
  { vout := 0, input := 0, iout := BitVec.ofNat 24 (bit STG_OC_TRIP 7),
    mfr := BitVec.ofNat 24 (bit STG_DRV_FLT 6 + bit STG_RC_TRIP 5 + bit FAN_STALL 1) }

/-- The status bits of port `p` whose conditions hold (R320). -/
def State.statusNow (s : State) (p : Nat) : Latch :=
  let v := (s.rd (STG_SMP_V p)).toInt
  let fe := s.getF (STG_STAT p) STG_STAT_FE
  let bit (b : Bool) (k : Nat) : Nat := if b then 2 ^ k else 0
  { vout := BitVec.ofNat 24 (bit (decide ((s.rd (ENV_VHI p)).toInt < v)) 7 + bit (decide (v < (s.rd (ENV_VLO p)).toInt)) 4),
    iout := BitVec.ofNat 24 (bit (fe.testBit 6) 7 + bit (s.flag (ENV_STAT p) ENV_STAT_SLOW) 5),
    input := BitVec.ofNat 24 (bit (s.flag HLD_STAT HLD_STAT_BUSLOW) 4),
    mfr := BitVec.ofNat 24 (bit (s.pstate p == 2) 7 + bit (s.flag (STG_STAT p) STG_STAT_DRV_FLT) 6
      + bit (fe.testBit 7) 5 + bit (fe.testBit 0 || fe.testBit 1) 4 + bit (fe.testBit 2 || fe.testBit 3) 3
      + bit (fe.testBit 4 || fe.testBit 5) 2) }

/-- Bits are latched. -/
def Latch.or (a b : Latch) : Latch := ⟨a.vout ||| b.vout, a.iout ||| b.iout, a.input ||| b.input, a.mfr ||| b.mfr⟩

/-- The events of a list set their bits. -/
def latchEvents (l : List FaultEv) (t : Tab Latch) : Tab Latch :=
  l.foldl (fun t e => match srcPort e.src with
    | some p => Tab.set {} t p ((Tab.get {} t p).or (eventLatch fun o => e.src == portSrc p o))
    | none => t) t

/-- The events that came since the last refresh, or the last S, set their bits, and are news to the trace triggers (R320, R455). -/
def State.latchTake (s : State) : State :=
  let l := s.flt.queue.drop s.mir.taken
  { s with mir := { s.mir with latch := latchEvents l s.mir.latch, taken := s.flt.queue.length, news := s.mir.news ++ l.map (·.src) } }

/-- The refresh of the mirror: latches, the half written, and its turn to be in force (R314, R320). -/
def State.mirrorRefresh (s : State) : State :=
  let s := s.latchTake
  let latch := forEach 128 (fun p t => Tab.set {} t p ((Tab.get {} t p).or (s.statusNow p))) s.mir.latch
  let half := s.regs.filter fun e => match locate e.1 with | some l => mirrorKeeps l | none => false
  { s with mir := { s.mir with half := half, shown := latch, latch := latch, fans := (List.range 128).filter fun p => s.pers p == 4 } }

/-- Linear11 of the quotient n/d (R319). -/
def lin11 (n : Int) (d : Nat) : Nat :=
  let y (k : Nat) : Int := roundq (n * 2 ^ 16) (d * 2 ^ k)
  match (List.range 32).find? fun k => decide (-1024 ≤ y k ∧ y k ≤ 1023) with
  | some k => ((k + 16) % 32) * 2048 + (BitVec.ofInt 11 (y k)).toNat
  | none => 15 * 2048 + (if 0 < n then 1023 else 1024)

/-- Linear16 of the quotient n/d with exponent e, given as five bits in two's complement (R319). -/
def lin16 (n : Int) (d e : Nat) : Nat :=
  (clampI 0 65535 (if e < 16 then roundq n (d * 2 ^ e) else roundq (n * 2 ^ (32 - e)) d)).toNat

/-- The output voltage of port `p` in mV times 2^23, and its current in mA times 2^23 (R319). -/
def State.pmV (s : State) (p : Nat) : Int := (s.mirRd (STG_SMP_V p)).toInt * (s.mirRd (TWB_PFS_V p)).toNat
def State.pmI (s : State) (p : Nat) : Int := (s.mirRd (STG_SMP_I p)).toInt * (s.mirRd (TWB_PFS_I p)).toNat

/-- STATUS_WORD of port `p` as bus `b` serves it (R320). -/
def State.statusWord (s : State) (b p : Nat) : Nat :=
  let t := Tab.get {} s.mir.shown p
  let st := STG_STAT_STATE.get (s.mirRd (STG_STAT p))
  let bit (c : Bool) (k : Nat) : Nat := if c then 2 ^ k else 0
  bit (t.vout != 0) 15 + bit (t.iout != 0) 14 + bit (t.input != 0) 13 + bit (t.mfr != 0) 12 + bit (st != 1) 11
    + bit (t.mfr.getLsbD 1) 10 + bit (st != 1) 6 + bit (t.vout.getLsbD 7) 5 + bit (t.iout.getLsbD 7) 4
    + bit (s.rd (TWB_CML b) != 0) 1 + bit (t.mfr != 0) 0

/-- CLEAR_FAULTS of a port: its latches clear, but a condition that holds sets its bit again in the next tick (R320). -/
def State.latchClear (s : State) (p : Nat) : State := { s with mir := { s.mir with latch := Tab.set {} s.mir.latch p {} } }

end Sys2Proof.Machine
end

