-- ==== Sys2Proof/Machine/Collector.lean ====
section
/-! DEFINITION. The fault collectors: counting, classification, tier actions, forcing, ALIVE (R348 to R355). -/

namespace Sys2Proof.Machine

/-- The classification of a source that is in force (R350). -/
def State.classOf (s : State) (x : Nat) : Cls := (Tab.get none s.flt.cls x).getD (defaultCls 0 x)

/-- A source's classification comes into force, and its window closes (R350). -/
def State.classSet (s : State) (x : Nat) (c : Cls) : State :=
  let s := s.setF (FLT_SRC x) FLT_SRC_COUNT 0
  { s with flt := { s.flt with cls := Tab.set none s.flt.cls x (if c = defaultCls 0 x then none else some c),
                               wend := Tab.set none s.flt.wend x none } }

/-- The own argument of a source (R353): its port, tile, rail or string unit, and 0xFF where it has none. -/
def ownArg (x : Nat) : Nat :=
  match srcPort x with
  | some p => p
  | none =>
    if 512 ≤ x then (x - 512) / 384
    else if 64 ≤ x ∧ x < 192 then (x - 64) / 8
    else if 192 ≤ x ∧ x < 448 then (x - 192) / 8
    else 0xFF

/-- Is a number taken by a source (R346, R347)? A reserved number is never raised. -/
def isSource (x : Nat) : Bool :=
  if x < 512 then
    !(decide (10 ≤ x ∧ x ≤ 15) || x == 23 || (decide (38 ≤ x ∧ x ≤ 39)) || decide (45 ≤ x ∧ x ≤ 47) || decide (51 ≤ x ∧ x ≤ 63)
      || (decide (64 ≤ x ∧ x < 192) && x % 8 == 7) || (decide (192 ≤ x ∧ x < 448) && x % 8 == 7)
      || (decide (448 ≤ x ∧ x < 496) && !([448, 449, 450, 456, 457, 458, 459, 464, 465, 466, 472, 473, 474, 475, 480, 481, 482, 483,
          488, 489].contains x)) || decide (496 ≤ x))
  else decide (x < 3584) && decide ((x - 512) % 384 ≤ 365)

/-- One forced event of a source (R353). -/
def State.force (s : State) (x cyc : Nat) : State :=
  if isSource x then
    let e : FaultEv := ⟨x, ownArg x, s.mer.count, s.stamp cyc, true⟩
    let s := s.countFault x 0x60
    { s.setF (FLT_SRC x) FLT_SRC_SEEN 1 with flt := { s.flt with queue := s.flt.queue ++ [e] } }
  else s

/-! ### ALIVE (R354, R355) -/

/-- ALIVE stops with a cause: 1 an ASTOP action, 2 the watchdog; the first cause stays (R355). -/
def State.aliveStop (s : State) (cause : Nat) : State :=
  if s.flt.aliveStopped then s
  else { s.setF FLT_ALIVE FLT_ALIVE_CAUSE cause with flt := { s.flt with aliveStopped := true } }

/-! ### Classification (R348, R351, R352) -/

/-- The actions of a tier on an event of source `x` with count `c` (R351); `cls`: it is a classified event. -/
def State.tierAct (s : State) (e : FaultEv) (t c : Nat) (cls : Bool) : State :=
  let act (k : Nat) : Bool := (s.getF (FLT_TIER_ACT t) FLT_TIER_ACT_ACT).testBit k
  let x := e.src
  let s := if act 0 then s.buffer ⟨1, t, e.forced, x, e.arg, e.stamp, e.count, 0, 0, c, 0, 0⟩ else s
  let s := if act 1 then s.alarmOwn t x else s
  let s := match srcPort x with
    | some p => if act 2 then s.enterSafe p 1 else s
    | none => s
  let s := if act 3 ∧ 512 ≤ x then s.tileSafe (srcTile x) 1 else s
  let s := if act 4 then s.allSafe 1 else s
  let s := if act 5 then s.aliveStop 1 else s
  let s := (s.irq (srcTile x) (if 2 ≤ t then 1 else 13)).alertTier t
  if cls ∧ 2 ≤ t then s.flushStart else s

/-- Is count `a` later than count `b` (R46)? -/
def later (a b : Nat) : Bool := a != b && inPast b a

/-- One event is counted in its source's window and handled (R348). -/
def State.handle (s : State) (e : FaultEv) : State :=
  let x := e.src
  let k := s.classOf x
  let isOpen := match Tab.get none s.flt.wend x with | some w => !later e.count w | none => false
  let span := if k.ms then (k.w * 800000 + s.period - 1) / s.period else k.w
  let c := if isOpen then s.getF (FLT_SRC x) FLT_SRC_COUNT + 1 else 1
  let setWin (s : State) (w : Option Nat) : State := { s with flt := { s.flt with wend := Tab.set none s.flt.wend x w } }
  let s := if isOpen then s else setWin s (some ((e.count + span + 2 ^ 48 - 1) % 2 ^ 48))
  if c = k.n then
    let s := (setWin s none).setF (FLT_SRC x) FLT_SRC_COUNT 0
    let s := s.wr FLT_LAST (BitVec.ofNat 24 (2 ^ 23 + b2n e.forced * 2 ^ 22 + k.tier * 2 ^ 20 + e.arg % 256 * 2 ^ 12 + x))
    let s := (s.wrPair FLT_LAST_CNT_LO FLT_LAST_CNT_HI e.count).wr FLT_LAST_SUB (BitVec.ofNat 24 e.stamp)
    let s := if 1 ≤ k.tier then s.countFault x 0x61 else s
    let s := (s.bump (FLT_TIER_CNT k.tier)).tierAct e k.tier c true
    { s with flt := { s.flt with top := max s.flt.top (k.tier + 1) } }
  else (s.setF (FLT_SRC x) FLT_SRC_COUNT c).tierAct e 0 c false

/-- Some events are handled now, in order; those that are concurrent are flagged (R31, R32, R348, R368). -/
def State.handleThese (s : State) (l : List Due) : State :=
  let l := l.foldl (fun a e => dueInsert s.mer.count e a) []
  let s := { s with flt := { s.flt with conc := concurrentPairs (l.map Due.key) } }
  forList l (fun e s => match e with | .fault e => s.handle e | .change r => s.buffer r) s

/-- At S, the events and the changes of state of earlier ticks are handled in order; then windows that have run out close, and the classifications
written in the tick that ends come into force (R348, R350). -/
def State.classify (s : State) : State :=
  let s := s.latchTake
  let now := s.mer.count
  let due := s.flt.queue.filter fun e => e.count != now
  let wait := s.rcd.wait
  let s : State := { s with flt := { s.flt with queue := s.flt.queue.filter fun e => e.count == now, top := 0 },
                            rcd := { s.rcd with wait := wait.filter fun r => r.count == now } }
  let s := { s with mir := { s.mir with taken := s.flt.queue.length } }
  let s := s.handleThese (due.map .fault ++ (wait.filter fun r => r.count != now).map .change)
  let ended := s.flt.wend.filterMap fun e => match e.2 with | some w => if later now w then some e.1 else none | none => none
  let s := forList ended (fun x s => { s.setF (FLT_SRC x) FLT_SRC_COUNT 0 with flt := { s.flt with wend := Tab.set none s.flt.wend x none } }) s
  let l := s.flt.chg
  let s := forList l (fun x s => s.classSet x (Cls.ofWords (s.rd (FLT_CLS x)) (s.rd (FLT_SRC x)))) s
  { s with flt := { s.flt with chg := [] } }

/-- The collector of tile `n` is reset: its events are classified first where it still works, and its sources return to their
defaults (R350). -/
def State.collectorReset (s : State) (n : Nat) (works : Bool) : State :=
  let mine (e : FaultEv) : Bool := decide (512 ≤ e.src) && srcTile e.src == n
  let l := s.flt.queue.filter mine
  let s := s.latchTake
  let s := { s with flt := { s.flt with queue := s.flt.queue.filter fun e => !mine e } }
  let s := { s with mir := { s.mir with taken := s.flt.queue.length } }
  let s := if works then s.handleThese (l.map .fault) else s
  forEach 366 (fun y s =>
    let x := tileSrc n y
    let s := ((s.rst (FLT_CLS x)).rst (FLT_SRC x)).classSet x (defaultCls 0 x)
    { s with flt := { s.flt with chg := s.flt.chg.filter fun z => z != x } }) s

/-! ### Writes (R350, R353) -/

/-- A source's classification was written: it changes at the next S. -/
def State.classWritten (s : State) (x : Nat) : State :=
  { s with flt := { s.flt with chg := if s.flt.chg.contains x then s.flt.chg else s.flt.chg ++ [x] } }

/-- A write of FLT_CLS (R350). -/
def State.fltClsWrite (s : State) (x : Nat) (w : Word) : State :=
  if s.rd (FLT_CLS x) = w then s else (s.wr (FLT_CLS x) w).classWritten x

/-- A write of FLT_SRC (R350, R353): TIER, clearing SEEN, forcing. -/
def State.fltSrcWrite (s : State) (x : Nat) (w : Word) (cyc : Nat) : State :=
  let t := FLT_SRC_TIER.get w
  let s := if s.getF (FLT_SRC x) FLT_SRC_TIER = t then s else (s.setF (FLT_SRC x) FLT_SRC_TIER t).classWritten x
  let s := if FLT_SRC_SEEN.on w then s.setF (FLT_SRC x) FLT_SRC_SEEN 0 else s
  if FLT_SRC_FORCE.on w then s.force x cyc else s

end Sys2Proof.Machine
end

