-- ==== Sys2Proof/Machine/Watchdog.lean ====
section
/-! DEFINITION. The window watchdog and the change instants of ALIVE (R354 to R361). The oscillator's time reaches the model
with the commands: the cycles since the service (log entry 46). -/

namespace Sys2Proof.Machine

def State.modWdg (s : State) (f : WdgSt → WdgSt) : State := { s with wdg := f s.wdg }

/-- Does elapsed time `e` lie in the closed window (R356)? -/
def WdgSt.closed (w : WdgSt) (e : Nat) : Bool := decide (e * 8 < w.period * 100 * w.win)

/-- Has the period run out at elapsed time `e` (R356)? -/
def WdgSt.lapsed (w : WdgSt) (e : Nat) : Bool := decide (w.period * 100 ≤ e)

/-- The oscillator has counted `e` cycles since the service; time does not run back, and it stops at the expiry (R361). -/
def State.wdgTime (s : State) (e : Nat) : State :=
  if s.wdg.running then
    let e := min (max e s.wdg.elapsed) (s.wdg.period * 100)
    let s := (s.modWdg fun w => { w with elapsed := e }).setF WDG_TIMER WDG_TIMER_ELAPSED (min (e / 100) 0x1FFFF)
    s.setF WDG_STAT WDG_STAT_OPEN (b2n (!s.wdg.closed e && !s.wdg.lapsed e))
  else s

/-- The watchdog is served, or starts as if served (R356 to R358): a new period and window take effect. -/
def State.wdgServe (s : State) : State :=
  let s := s.modWdg fun w => { w with running := true, elapsed := 0, period := s.getF WDG_PERIOD WDG_PERIOD_P, win := s.getF WDG_CTL WDG_CTL_WIN }
  let s := (s.setF WDG_STAT WDG_STAT_RUN 1).setF WDG_STAT WDG_STAT_KEY1 0
  (s.setF WDG_TIMER WDG_TIMER_ELAPSED 0).setF WDG_STAT WDG_STAT_OPEN (b2n (!s.wdg.closed 0))

/-- The watchdog expires (R358, R359): WDO_N goes low, ALIVE stops, the action is taken. With CLK_LOST every port takes its safe
action whatever ACT is, and the source is raised at the first tick after reset (R360). -/
def State.wdgExpire (s : State) (cause cyc : Nat) : State :=
  if !s.wdg.running then s
  else
    let s := s.modWdg fun w => { w with running := false, pulse := some (s.getF WDG_PULSE WDG_PULSE_WIDTH), owed := w.owed || cause == 5 }
    let s := ((s.setF WDG_STAT WDG_STAT_EXPIRED 1).setF WDG_STAT WDG_STAT_CAUSE cause).setF WDG_STAT WDG_STAT_RUN 0
    let s := (s.setF WDG_STAT WDG_STAT_OPEN 0).aliveStop 2
    let s := if cause = 5 then s else s.raise WDG_EXPIRED 0xFF cyc
    if cause = 5 ∨ s.getF WDG_CTL WDG_CTL_ACT ≠ 0 then s.allSafe 1 else s

/-- A write of WDG_KEY arrives at elapsed time `e` (R356, R357); KEY1 shows the last key written (R361). -/
def State.wdgKey (s : State) (w : Word) (e cyc : Nat) : State :=
  let s := s.wdgTime e
  if !s.wdg.running then s
  else if s.wdg.lapsed s.wdg.elapsed then s.wdgExpire 1 cyc
  else
    let first := s.flag WDG_STAT WDG_STAT_KEY1
    let s := s.setF WDG_STAT WDG_STAT_KEY1 (b2n (w == 0x5A3C96))
    if s.wdg.closed s.wdg.elapsed then s.wdgExpire 2 cyc
    else if w = 0x5A3C96 then s
    else if w = 0xA5C369 ∧ first then s.wdgServe
    else s.wdgExpire 3 cyc

/-- A write of WDG_CTL, WDG_PERIOD or WDG_PULSE (R358): refused in the closed window, and after an expiry. False: refused. -/
def State.wdgConfig (s : State) (l : Loc) (w : Word) (e cyc : Nat) : State × Bool :=
  let s := s.wdgTime e
  if s.wdg.running then
    if s.wdg.lapsed s.wdg.elapsed then (s.wdgExpire 1 cyc, false)
    else if s.wdg.closed s.wdg.elapsed then (s.raise WDG_CFG_REFUSED 0xFF cyc, false) else (s.wr l w, true)
  else if s.flag WDG_STAT WDG_STAT_EXPIRED then (s, false)
  else (s.wr l w, true)

/-- WDG_EXPIRY (R356, R358): no service within the period. -/
def execWdgExpiry (e cyc : Nat) (s : State) : Host.Outcome State Fault Refusal :=
  .next (let s := s.wdgTime e
         if s.wdg.lapsed s.wdg.elapsed then s.wdgExpire 1 cyc else s)

/-- OSC_LOST (R359): the main clock has seen no edge of the watchdog oscillator for 4 µs. -/
def execOscLost (cyc : Nat) (s : State) : Host.Outcome State Fault Refusal := .next (s.wdgExpire 4 cyc)

/-- CLK_LOST (R359): the watchdog domain has seen no main clock for 4 of its cycles. -/
def execClkLost (e : Nat) (s : State) : Host.Outcome State Fault Refusal := .next ((s.wdgTime e).wdgExpire 5 0)

/-- ALIVE_CHANGE_INSTANT (R354): the level of ALIVE changes where an S has come since the last change instant and ALIVE has not
stopped; without an S it is held. -/
def execAliveChangeInstant (e : Nat) (s : State) : Host.Outcome State Fault Refusal :=
  .next (
    let s := s.wdgTime e
    if !s.flt.aliveOn then s
    else
      let seen := s.flt.sSeen
      let s := { s with flt := { s.flt with sSeen := false } }
      if s.flt.aliveStopped then s
      else if seen then (s.setF FLT_ALIVE FLT_ALIVE_LEVEL (1 - s.getF FLT_ALIVE FLT_ALIVE_LEVEL)).setF FLT_ALIVE FLT_ALIVE_CAUSE 0
      else s.setF FLT_ALIVE FLT_ALIVE_CAUSE 3)

end Sys2Proof.Machine
end

