-- ==== Sys2Proof/Machine/Recorder.lean ====
section
/-! DEFINITION. The event recorder: flushes, clears, histograms, fetches, streaming (R362 to R379). -/

namespace Sys2Proof.Machine

def State.modRec (s : State) (f : RecSt → RecSt) : State := { s with rcd := f s.rcd }

/-- The words of a record (R362). -/
def Rec.words (r : Rec) : List Word :=
  let perm := if r.rnum < 4096 then 2 ^ 16 else 0
  let w (n : Nat) : Word := BitVec.ofNat 24 n
  let body := [w (r.type * 2 ^ 20 + r.tier * 2 ^ 18 + b2n r.forced * 2 ^ 17 + perm + r.code), w (r.arg % 256 * 2 ^ 16 + r.stamp % 4096),
    lo24 r.count, hi24 r.count, lo24 r.hours, w (r.rnum / 2 ^ 24 % 65536 * 256 + r.hours / 2 ^ 24), w r.cycles, lo24 r.rnum, w r.d0, w r.d1]
  let c := crcWords body
  body ++ [lo24 c, w (c / 2 ^ 24)]

/-! ### Areas (R373) -/

/-- A record is written to MRAM (R373); a write that fails leaves a slot whose CRC fails (R374). -/
def State.recWrite (s : State) (r : Rec) (failed : List Nat) (cyc : Nat) : State :=
  let k := r.rnum % 16384
  let ok := !failed.contains r.rnum
  let v := if ok then some r else none
  let s := s.modRec fun x => { x with rolling := Tab.set none x.rolling k v, bad := x.bad.filter fun n => n % 16384 != k }
  let s := if r.rnum < 4096 then s.modRec fun x => { x with perm := Tab.set none x.perm r.rnum v } else s
  let s := if ok then s else (s.modRec fun x => { x with bad := r.rnum :: x.bad }).raise REC_NVM_ERR 0xFF cyc
  if r.rnum = 4095 then (s.setF REC_STAT2 REC_STAT2_PERM_FULL 1).raise REC_PERM_FULL 0xFF cyc else s

/-- The head: the next number that no flush has written (R374). -/
def RecSt.head (x : RecSt) : Nat := ((x.buf ++ x.supOut).head?.map (·.rnum)).getD x.next

/-- The saves at the end of a flush (R369, R370, R374), over the older copy. -/
def State.recSave (s : State) (ok : Bool) : State :=
  let x := s.rcd
  let v : RecSave := ⟨x.copies.nextSeq RecSave.words (·.seq), x.bins, x.ext, x.head, x.base, x.hours, x.cycles, x.clears⟩
  s.modRec fun x => { x with copies := x.copies.put RecSave.words (·.seq) (if ok then some v else none) }

/-! ### Clears (R376) -/

/-- What a clear does before its flush (R376): a CLEAR record, CLEAR_BASE, histograms and extremes zeroed. -/
def State.clearNow (s : State) (port : Nat) : State :=
  let n := min 0xFFFFFF (s.rcd.clears + 1)
  let s := s.enterRecords
  let base := s.rcd.next
  (s.recordNow 9 port n 0).modRec fun x => { x with clears := n, base := base, bins := [], ext := [] }

/-- A clear, with the flush that it starts (R376). -/
def State.recClear (s : State) (port : Nat) : State := (s.clearNow port).flushStart

/-- A write of REC_CMD (R370, R376). -/
def State.recCmd (s : State) (port : Nat) (w : Word) : State :=
  let s := if REC_CMD_FLUSH.on w then s.flushStart else s
  if REC_CMD_CLEAR.on w then
    if s.rcd.flushing then s.modRec fun x => { x with clearWait := x.clearWait ++ [port] } else s.recClear port
  else s

/-! ### Flushes (R370, R371) -/

/-- RECORDER_FLUSH (R370): a trigger starts a flush, or merges into one further flush. -/
def execRecorderFlush (s : State) : Host.Outcome State Fault Refusal := .next s.flushStart

/-- FLUSH_PERIODIC (R370): 60 s of operation since the start of the last flush. -/
def execFlushPeriodic (s : State) : Host.Outcome State Fault Refusal := .next s.flushStart

/-- FLUSH_COMPLETE (R370, R373, R374): the flush has written its records, but for those whose write failed, and its saves; clears
that waited take place, and one further flush starts for all the triggers that came. -/
def execFlushComplete (failed : List Nat) (ok : Bool) (cyc : Nat) (s : State) : Host.Outcome State Fault Refusal :=
  .next (
    if !s.rcd.flushing then s
    else
      let l := s.rcd.buf.take s.rcd.flushN ++ s.rcd.supOut
      let s := forList l (fun r s => s.recWrite r failed cyc) s
      let s := s.modRec fun x => { x with buf := x.buf.drop x.flushN, supOut := [], flushN := 0, flushing := false }
      let s := ((s.recSave ok).setF REC_STAT REC_STAT_FILL s.rcd.buf.length).setF REC_STAT2 REC_STAT2_FLUSHING 0
      let s := if ok then s else s.raise REC_NVM_ERR 0xFF cyc
      let s := s.irq 0 12
      let waits := s.rcd.clearWait
      let again := s.rcd.again
      let s := s.modRec fun x => { x with clearWait := [], again := false }
      let s := forList waits (fun p s => s.clearNow p) s
      if again ∨ waits ≠ [] then s.flushStart else s)

/-- PFAIL_ASSERT (R215, R371, R422, R444): a recognised assertion of PFAIL_N: the PFAIL record is written, and a flush that runs
absorbs every record up to it, or one starts; an activation before its switch is abandoned. During a boot it stops the boot ROM. -/
def execPfailAssert (s : State) : Host.Outcome State Fault Refusal :=
  .next (
    if s.hld.pinLow then s
    else if !s.boot.running then
      { s with hld := { s.hld with pinLow := true }, boot := { s.boot with halted := s.boot.halted || !s.recovering } }
    else
      let s := if s.getF UPD_STAT UPD_STAT_STATE = 5 then
          let s := match s.switch with
            | some r => if r.kind = 1 then { s.setF LAN_SW_STAT LAN_SW_STAT_PEND 0 with switch := none } else s
            | none => s
          s.activationEnds (s.getF UPD_STAT UPD_STAT_ERR)
        else s
      let s := { s.setF HLD_STAT HLD_STAT_PFAIL 1 with hld := { s.hld with asserted := true, pinLow := true, rel := none } }
      let s := s.recordNow 0xA 0xFF (s.rd HLD_VBUS).toNat 0
      if s.rcd.flushing then s.modRec fun x => { x with flushN := x.buf.length } else s.flushStart)

/-! ### Rate limit (R366) -/

/-- The buckets after every one lacks what `f` makes of its present lack (R366): those that lack no other than the rest are not
listed. -/
def RecSt.relack (x : RecSt) (f : Nat → Nat) : RecSt :=
  let l : Tab (Option Nat) := x.spent.map fun e => (e.1, e.2.map f)
  { x with lack := f x.lack, spent := l.filter fun e => e.2 != some (f x.lack) }

/-- TOKEN_REFILL (R366): every PER ms each bucket gains one token, up to BURST. -/
def execTokenRefill (s : State) : Host.Outcome State Fault Refusal := .next (s.modRec fun x => x.relack fun n => n - 1)

/-- A new bucket size: a bucket keeps its tokens, as far as it can hold them (R366). -/
def State.recRlWrite (s : State) (w : Word) : State :=
  let b := s.getF REC_RL REC_RL_BURST
  (s.wr REC_RL w).modRec fun x => x.relack fun k => k + REC_RL_BURST.get w - b

/-! ### Histograms (R369) -/

/-- The address that REC_HQ names is one that the telemetry mirror serves. -/
def hqOk (w : Word) : Bool := match locate (REC_HQ0_ADDR.get w) with | some l => mirrored l && l.desc.isSome | none => false

/-- The bins and extremes of quantity `q` are zeroed. -/
def State.hqZero (s : State) (q : Nat) : State :=
  s.modRec fun x => { x with bins := x.bins.filter (fun e => e.1 / 32 != q), ext := x.ext.filter fun e => e.1 != q }

/-- A write of REC_HQ or REC_HSH of quantity `q` (R369, log entry 48). False: refused. -/
def State.hqWrite (s : State) (l : Loc) (q : Nat) (w : Word) : State × Bool :=
  if l = REC_HQ0 q ∧ !hqOk w then (s, false) else ((s.wr l w).hqZero q, true)

/-- One quantity is sampled (R369). -/
def State.hqSample (s : State) (q : Nat) : State :=
  if s.flag (REC_HQ0 q) REC_HQ0_EN then
    match locate (s.getF (REC_HQ0 q) REC_HQ0_ADDR) with
    | none => s
    | some l =>
      let x := s.mirRd l
      let b := (clampI 0 31 ((x.toInt - (s.rd (REC_HQ1 q)).toInt) / 2 ^ (s.getF (REC_HSH q) REC_HSH_SH))).toNat
      let k := q * 32 + b
      let e := Tab.get {} s.rcd.ext q
      let e := if x.toInt < e.min.toInt then { e with min := x, minCount := s.mer.count, minCycles := s.rcd.cycles } else e
      let e := if e.max.toInt < x.toInt then { e with max := x, maxCount := s.mer.count, maxCycles := s.rcd.cycles } else e
      s.modRec fun r => { r with bins := Tab.set 0 r.bins k (min (2 ^ 32 - 1) (Tab.get 0 r.bins k + 1)), ext := Tab.set {} r.ext q e }
  else s

/-- In the mirror window of every tick whose count is a multiple of 2^HDIV, the enabled quantities are sampled (R369). -/
def State.histograms (s : State) : State :=
  if s.mer.count % 2 ^ (s.getF REC_CTL REC_CTL_HDIV) = 0 then forEach 64 (fun q s => s.hqSample q) s else s

/-! ### Reading (R375) -/

/-- A record as a reader finds it: in the buffer, the permanent area, or the rolling area; none: absent; a slot whose CRC
fails gives no record (R375, R376). -/
def State.recFind (s : State) (n : Nat) : Option (Option Rec) :=
  let x := s.rcd
  match (x.buf ++ x.supOut).find? fun r => r.rnum == n && decide (x.base ≤ n) with
  | some r => some (some r)
  | none =>
    match if n < 4096 then Tab.get none x.perm n else none with
    | some r => some (some r)
    | none =>
      if max x.base (x.head - 16384) ≤ n ∧ n < x.head then
        if x.bad.contains n then some none
        else match Tab.get none x.rolling (n % 16384) with
          | some r => if r.rnum = n then some (some r) else none
          | none => none
      else none

/-- A write of REC_RD_IDX_HI starts a fetch, and abandons one that runs (R375). -/
def State.recFetch (s : State) : State :=
  let i := s.rdPair REC_RD_IDX_LO REC_RD_IDX_HI
  (s.modRec fun x => { x with fetch := some (s.getF REC_RD_SEL REC_RD_SEL_AREA, i) }).setF REC_RD_STAT REC_RD_STAT_BUSY 1

/-- The words that a fetch gives, and its result: 0 OK, 1 ABSENT, 2 BAD (R375). -/
def State.recItem (s : State) (area i : Nat) : Nat × List Word :=
  match area with
  | 0 =>
    match s.recFind i with
    | none => (1, [])
    | some none => (2, [])
    | some (some r) => (0, r.words)
  | 1 => if i < 2048 then let n := Tab.get 0 s.rcd.bins i; (0, [lo24 n, BitVec.ofNat 24 (n / 2 ^ 24)]) else (1, [])
  | _ =>
    if i < 64 then
      let e := Tab.get {} s.rcd.ext i
      (0, [e.min, e.max, lo24 e.minCount, hi24 e.minCount, BitVec.ofNat 24 e.minCycles, lo24 e.maxCount, hi24 e.maxCount,
        BitVec.ofNat 24 e.maxCycles])
    else (1, [])

/-- REC_FETCH_DONE (R375): a fetch completes; words that the item does not have keep what they held (log entry 47). -/
def execRecFetchDone (s : State) : Host.Outcome State Fault Refusal :=
  .next (
    match s.rcd.fetch with
    | none => s
    | some f =>
      let r := s.recItem f.1 f.2
      let s := r.2.zipIdx.foldl (fun s e => s.wr (REC_RD_W e.2) e.1) s
      (s.modRec fun x => { x with fetch := none }).wr REC_RD_STAT (REC_RD_STAT_RESULT.put 0 r.1))

/-! ### Streaming (R377) -/

/-- A write of REC_CTL (R377): streaming that starts begins at REC_STRM_ACK, and as datagrams it opens the record stream. -/
def State.recCtlWrite (s : State) (w : Word) (cyc : Nat) : State :=
  let was := s.flag REC_CTL REC_CTL_STRM_EN
  let s := s.wr REC_CTL w
  let k := s.rcd.strmAck
  let s := if REC_CTL_STRM_EN.on w ∧ !was then s.modRec fun x => { x with strmNext := k } else s
  let open_ := REC_CTL_STRM_EN.on w && !REC_CTL_STRM_LINK.on w
  let s :=
    if open_ = s.mgt.recs.isSome then s
    else (s.sessionPath MGT_STAT_REC).modMgt fun m =>
      { m with recs := if open_ then some ⟨0, s.peerIp, s.getF MGT_PEER MGT_PEER_PORT, true, k, k⟩ else none }
  s.pathsSettle cyc

/-- The first record from a number on that a reader finds, if one is there (R377). -/
def State.recNext (s : State) (n : Nat) : Option Rec :=
  let x := s.rcd
  let l := (x.rolling.filterMap fun e => e.2).filter (fun r => !x.bad.contains r.rnum) ++ x.buf ++ x.supOut
  let l := l.filter (fun r => decide (x.base ≤ r.rnum)) ++ x.perm.filterMap fun e => e.2
  (l.filter fun r => decide (n ≤ r.rnum)).foldl
    (fun a r => match a with | some b => if r.rnum < b.rnum then some r else a | none => some r) none

/-- Is a place of the shared queue free on the link toward an address (R377)? -/
def State.placeFree (s : State) (dst : Nat) : Bool :=
  match s.routeTo dst with | some m => decide ((s.link m).shared.length < 64) | none => false

/-- REC_STREAM_SEND (R377): the next admitted record goes out when a place is free. -/
def execRecStreamSend (cyc : Nat) (s : State) : Host.Outcome State Fault Refusal :=
  .next (
    if !s.flag REC_CTL REC_CTL_STRM_EN then s
    else if s.flag REC_CTL REC_CTL_STRM_LINK then
      let dst := s.getF REC_STRM REC_STRM_DEST
      match s.recNext s.rcd.strmNext with
      | none => s
      | some r =>
        if s.placeFree dst then
          (s.originate (s.cellOf 0xB dst (r.words ++ [0, 0, 0, 0])) cyc).modRec fun x => { x with strmNext := r.rnum + 1 }
        else s
    else match s.mgt.recs with
      | none => s
      | some b =>
        match s.recNext b.live with
        | none => s
        | some r =>
          let p := s.getF MGT_STAT MGT_STAT_REC
          if p < 2 then
            (s.sendPath p b.ip (.dgram { s.dgramOf 0x12 b.ip b.sport b.num r.words with off := r.rnum })).modMgt fun m =>
              { m with recs := some { b with live := r.rnum + 1 } }
          else s)

/-- DGRAM_REC_ACK (R377): the peer acknowledges with the next record number that it expects. -/
def execDgramRecAck (f : Frame) (d : Dgram) (cyc : Nat) (s : State) : Host.Outcome State Fault Refusal :=
  .next (s.dgIn f d cyc fun s =>
    match s.mgt.recs with
    | none => s
    | some b =>
      let n := d.off % 2 ^ 40
      (s.modRec fun x => { x with strmAck := n }).modMgt fun m => { m with recs := some { b with durable := n } })

/-! ### Boot (R365, R369, R374) -/

/-- The newer valid saved copy (R374). -/
def RecSt.newest (x : RecSt) : Option RecSave := x.copies.newest RecSave.words (·.seq)

/-- From a number, how far the rolling area holds the records that follow (R374). -/
def RecSt.forward (x : RecSt) : Nat → Nat → Nat
  | 0, n => n
  | k + 1, n => match Tab.get none x.rolling (n % 16384) with
    | some r => if r.rnum = n then RecSt.forward x k (n + 1) else n
    | none => n

/-- The recorder at boot: the saved copy is restored, records of a flush without its head save are kept, bad slots are counted
(R369, R374). A buffer that has kept its content goes on (R370). -/
def State.recBoot (s : State) (cyc : Nat) : State :=
  let x := s.rcd
  let top := (x.rolling ++ x.perm).foldl (fun a e => match e.2 with | some r => max a (r.rnum + 1) | none => a) 0
  let s := match x.newest with
    | some c => s.modRec fun x => { x with next := x.forward 16384 c.next, base := c.base, bins := c.bins, ext := c.ext }
    | none => (s.modRec fun x => { x with next := top, base := 0, bins := [], ext := [] }).raise REC_NVM_ERR 0xFF cyc
  let s := s.setF REC_STAT2 REC_STAT2_PERM_FULL (b2n (decide (4096 ≤ s.rcd.next)))
  let last := s.rcd.buf.foldl (fun a r => max a (r.rnum + 1)) s.rcd.next
  let s := s.modRec fun x => { x with next := last }
  let bad := s.rcd.bad.filter fun n => decide (s.rcd.base ≤ n) && decide (n < s.rcd.next)
  let s := forList bad (fun _ s => s.raise REC_NVM_ERR 0xFF cyc) s
  s.setF REC_STAT REC_STAT_BAD (min 255 bad.length)

end Sys2Proof.Machine
end

