-- ==== Sys2Proof/Machine/Ageing.lean ====
section
/-! DEFINITION. Ageing and the margin atlas: silicon, on-resistance, capacitance, fans, revisions (R380 to R396). -/

namespace Sys2Proof.Machine

def State.agePort (s : State) (p : Nat) : AgePort := Tab.get {} s.age.ports p
def State.modAgePort (s : State) (p : Nat) (f : AgePort → AgePort) : State :=
  s.modAge fun a => { a with ports := Tab.modify {} a.ports p f }
def State.ageRail (s : State) (r : Nat) : AgeRail := Tab.get {} s.age.rails r
def State.modAgeRail (s : State) (r : Nat) (f : AgeRail → AgeRail) : State :=
  s.modAge fun a => { a with rails := Tab.modify {} a.rails r f }

/-- A sample joins the day's mean. -/
def AgeQ.add (q : AgeQ) (x : Nat) : AgeQ := { q with sum := q.sum + x, n := q.n + 1 }

/-- Operating seconds (R365). -/
def State.opSeconds (s : State) : Nat := s.rcd.hours

/-! ### Silicon (R381 to R384) -/

/-- The margin of a tile: the smallest of its four monitors (R381). -/
def State.tileMargin (s : State) (n : Nat) : Nat :=
  (List.range 4).foldl (fun m k => min m (s.getF (AGE_RO n k) AGE_RO_MARGIN)) 63

/-- RO_MONITOR_REPORT (R381, R382): every 1 ms the four monitors and the temperature sensor of a tile report, unless the tile is
powered down in Doze or held in reset. -/
def execRoMonitorReport (n m0 m1 m2 m3 : Nat) (tj : Int) (cyc : Nat) (s : State) : Host.Outcome State Fault Refusal :=
  .next (if !s.tileRuns n then s else
    let s := [m0, m1, m2, m3].zipIdx.foldl (fun s e => s.setF (AGE_RO n e.2) AGE_RO_MARGIN (min 63 e.1)) s
    let s := s.setF (AGE_TJ n) AGE_TJ_TJ (BitVec.ofInt 12 tj).toNat
    if s.tileMargin n < 4 then s.raise (tileSrc n AGE_RO_LOW) n cyc else s)

/-- AVS_STEP (R382 to R384): every 10 ms the request follows the smallest margin, and a change goes to the regulator. -/
def execAvsStep (cyc : Nat) (s : State) : Host.Outcome State Fault Refusal :=
  .next (
    let run := (List.range 8).filter s.tileRuns
    let m := run.foldl (fun m n => min m (s.tileMargin n)) 63
    let lo := s.getF AGE_AVS AGE_AVS_LO
    let old := s.getF AGE_VREQ AGE_VREQ_MV
    let req := if run = [] then old else if m < lo then min (old + 5) 850 else if s.getF AGE_AVS AGE_AVS_HI < m then max (old - 5) 700 else old
    let s := s.setF AGE_VREQ AGE_VREQ_MV req
    let s := s.modAge fun a => { a with avs := if req != old || a.avs == 2 then 1 else a.avs }
    let low := decide (m < lo) && old == 850
    let s := s.modAge fun a => { a with lowRun := if low then a.lowRun + 1 else 0 }
    let s := if s.age.lowRun = 10 then (s.raise AGE_VCORE_LIMIT 0xFF cyc).record 0x83 0xFF req m else s
    let tj (n : Nat) : Int := (BitVec.ofNat 12 (s.getF (AGE_TJ n) AGE_TJ_TJ)).toInt
    let hot := run.foldl (fun t n => max t (tj n)) (-2048)
    let s := if 700 ≤ hot ∧ hot ≤ 900 then s.modAge fun a => { a with si := a.si.add req } else s
    s.avsStart)

/-! ### Samples at S (R385, R388) -/

/-- Is the temperature of port `p` in the window (R385)? -/
def State.rdsWarm (s : State) (p : Nat) : Bool :=
  let t := (s.port p).smpT.toNat
  decide (s.getF AGE_RDS_T AGE_RDS_T_TLO * 4096 ≤ t) && decide (t ≤ s.getF AGE_RDS_T AGE_RDS_T_THI * 4096)

/-- A voltage divided by a current, with 40 fraction bits (log entry 51). -/
def ratio40 (v i : Int) : Nat := v.natAbs * 2 ^ 40 / i.toNat

/-- May the conversion `t` units from S lie in a GB-on interval as R385 counts it: in COMP from 100 ns and DT after GB rises to 100 ns
before it falls, about the pulses of the port; never in SINGLE, whose GB stays inactive (R142, log entry 51)? -/
def State.gbCounts (s : State) (p : Nat) (t : Int) : Bool :=
  let dt := s.deadTime p
  match s.pwmMode p with
  | 0 => (s.port p).pulsed.all fun e => decide (e.2 ≤ e.1) || decide (t + 1280 ≤ e.1) || decide (e.2 + (2 * dt + 1280 : Nat) ≤ t)
  | 2 => true
  | _ => false

/-- The on-resistance samples of a tick at port `p`; RDS_EN is ignored at a port that a rail with members names (R385). -/
def State.rdsTick (s : State) (conv : PortConv) (p : Nat) : State :=
  if !s.flag (AGE_PORT p) AGE_PORT_RDS_EN || !s.rdsWarm p then s
  else
    let lim : Int := (s.rd AGE_RDS).toInt
    let add (s : State) (v i : Int) : State :=
      if lim < i ∧ 0 < i then s.modAgePort p fun a => { a with rho := a.rho.add (ratio40 v i) } else s
    if s.pers p = 0 then
      if (List.range 16).any fun r => (s.railMask r != 0) && (s.leadOf r == p || s.altOf r == p) then s
      else forList (conv.gb.filter fun k => s.gbCounts p (-((80 * unitsPerCycle * (conv.v.length - 1 - k) : Nat) : Int))) (fun k s => add s (s.calV p (conv.v.getD k 0)) (s.calI p (conv.i.getD k 0))) s
    else if s.pers p = 1 ∧ s.fuseIsOn p then add s (s.port p).smpV.toInt (s.port p).smpI.toInt
    else s

/-- The fan current samples of a tick at port `p` (R388). -/
def State.fanTick (s : State) (p : Nat) : State :=
  if !s.flag (AGE_PORT p) AGE_PORT_FAN_EN || s.pers p != 4 then s
  else
    let rpm := (s.rd AGE_FAN).toNat
    let spd := (s.rd (FAN_SPD p)).toNat
    let near := decide (95 * rpm ≤ 100 * spd) && decide (100 * spd ≤ 105 * rpm)
    let run := if near then Tab.get 0 s.age.fanRun p + s.mer.tickN else 0
    let s := s.modAge fun a => { a with fanRun := Tab.set 0 a.fanRun p run }
    if near ∧ 8000000000 ≤ run then s.modAgePort p fun a => { a with kf := a.kf.add (s.port p).smpI.toInt.toNat } else s

/-! ### The capacitor probe (R386, R387) -/

def State.burst (s : State) (r : Nat) : Option Burst := Tab.get none s.age.burst r
def State.setBurst (s : State) (r : Nat) (b : Option Burst) : State := s.modAge fun a => { a with burst := Tab.set none a.burst r b }

/-- The lane that a rail's probe perturbs, the ticks of its half-period, its perturbation. -/
def State.injector (s : State) (r : Nat) : Nat := s.getF (AGE_CAP_CTL r) AGE_CAP_CTL_INJ
def State.halfTicks (s : State) (r : Nat) : Nat := max 1 (s.getF (AGE_CAP_CTL r) AGE_CAP_CTL_H)
def State.probeDelta (s : State) (r : Nat) : Int := (s.getF (AGE_CAP_AMP r) AGE_CAP_AMP_DELTA : Int) * 4096

/-- The voltage that the probe of a rail watches (R387). -/
def State.probeVolt (s : State) (r : Nat) : Int :=
  if s.flag (AGE_CAP_CTL r) AGE_CAP_CTL_SEL then s.vbus else (s.port (s.activeLead r)).smpV.toInt

/-- Is the tick quiet at a rail (R386)? `noisy`: truncation or all-fire occurred in it. -/
def State.quiet (s : State) (r : Nat) (b : Burst) (noisy : Bool) : Bool :=
  s.railState r == 3 && !noisy && b.caps == s.capEntries && !s.inHold && (s.presNow r).testBit (s.injector r)
    && (b.k == 0 || decide (((s.rail r).cur - b.last).natAbs < (s.rd (AGE_CAP_LIM r)).toNat))

/-- CAP_PROBE_BURST_START (R386): a burst starts on a rail whose probe is enabled. -/
def execCapProbeBurstStart (r : Nat) (s : State) : Host.Outcome State Fault Refusal :=
  .next (if s.flag (AGE_CAP_CTL r) AGE_CAP_CTL_EN ∧ (s.burst r).isNone then s.setBurst r (some { caps := s.capEntries }) else s)

/-- The burst of a rail at S (R386, R387): a tick that is not quiet abandons it. -/
def State.burstTick (s : State) (noisy : List Nat) (r : Nat) : State :=
  match s.burst r with
  | none => s
  | some b =>
    let inj := s.injector r
    let h := s.halfTicks r
    if b.ended then s
    else if !s.quiet r b (noisy.contains r) then
      ((s.bump (AGE_CAP_STAT r)).setBurst r none).modPort inj fun x => { x with pert := 0 }
    else
      let cur := (s.rail r).cur
      let v := s.probeVolt r
      let half := (b.k - 1) / h
      let b := if b.k = 0 then { b with vAt := v }
        else
          let b := if half % 2 = 0 then { b with plus := b.plus + cur } else { b with minus := b.minus + cur }
          if b.k % h = 0 then { b with dv := b.dv + (v - b.vAt).natAbs, vAt := v } else b
      let b := { b with last := cur, ended := decide (16 * h ≤ b.k) }
      let d := if b.ended then 0 else if b.k / h % 2 = 0 then s.probeDelta r else -s.probeDelta r
      (s.setBurst r (some { b with k := b.k + 1 })).modPort inj fun x => { x with pert := d }

/-- CAP_PROBE_COMPLETE (R387): a completed burst gives its samples; `rev`: the calibrated voltages 1 µs before and after each of
the 16 reversals. A burst with a below AMIN is discarded; a quotient by 0 is free (log entry 4). -/
def execCapProbeComplete (r : Nat) (rev : List (Int × Int)) (s : State) : Host.Outcome State Fault Refusal :=
  .next (
    match s.burst r with
    | none => s
    | some b =>
      if !b.ended then s
      else
        let s := s.setBurst r none
        let h := s.halfTicks r
        let a2 := b.plus - b.minus
        let n : Int := 8 * h
        let j := (rev.map fun e => (e.2 - e.1).natAbs).foldl (· + ·) 0
        if a2 < 2 * n * (s.getF (AGE_CAP_AMP r) AGE_CAP_AMP_AMIN * 4096) then s
        else
          let f := if b.dv = 0 ∨ a2 = 0 then s.takeNat else (0, s)
          f.2.modAgeRail r fun q =>
            { q with kc := q.kc.add (if b.dv = 0 then f.1 else a2.toNat * 16 * h * 2 ^ 24 / (2 * n.toNat * b.dv)),
                     ke := q.ke.add (if a2 = 0 then f.1 else j * n.toNat * 2 ^ 24 / (16 * a2.toNat)) })

/-! ### Revisions (R389 to R393) -/

/-- The integer square root of a number below 2^64. -/
def isqrt (n : Nat) : Nat := (List.range 32).foldl (fun r k => let t := r + 2 ^ (31 - k); if t * t ≤ n then t else r) 0

/-- The day's mean is closed: with enough samples it forms the ratio, or the baseline that is wanted (R389, R392). `old`: the
part's first 24 h of operation are over; `open_`: the ratio to a baseline of 0. -/
def AgeQ.close (q : AgeQ) (mins now : Nat) (old : Bool) (open_ : Nat) : AgeQ :=
  let z := { q with sum := 0, n := 0 }
  let keep (z : AgeQ) : AgeQ := { z with hist := ((z.ratio, now) :: z.hist).take 8 }
  if q.n = 0 ∨ q.n < mins then keep z
  else
    let m := q.sum / q.n
    match q.base with
    | some b => keep { z with ratio := min 0x7FFFFF (if b = 0 then open_ else 65536 * m / b) }
    | none => keep (if old ∨ q.await then { z with base := some m, await := false } else z)

/-- A day's mean is closed at a revision; the ratio to a baseline of 0 is free (log entry 4). -/
def State.closeDay (s : State) (q : AgeQ) (old : Bool) : AgeQ × State :=
  let f := if q.base = some 0 then s.takeNat else (0, s)
  (q.close (s.getF AGE_CTL AGE_CTL_MINS) s.opSeconds old f.1, f.2)

/-- The forecast in hours toward a limit (R393); `falls`: wear lowers the ratio. -/
def AgeQ.forecast (q : AgeQ) (lim now : Nat) (falls : Bool) : Nat :=
  let f (x : Nat) : Int := if falls then -(x : Int) else x
  let x := f q.ratio
  let o := q.hist.getLastD (q.ratio, now)
  if f lim ≤ x then 0
  else if x ≤ f o.1 then 0xFFFFFF
  else min 0xFFFFFF ((f lim - x) * ((now : Int) - o.2) / ((x - f o.1) * 3600)).toNat

/-- The derate factor of port `p` (R390). -/
def State.deratePort (s : State) (p : Nat) : Word :=
  let a := s.agePort p
  let top := 2 ^ 23 - 1
  let d := match s.pers p with
    | 0 => isqrt (2 ^ 62 / max 1 a.rho.ratio)
    | 1 => isqrt (2 ^ 62 / max 1 a.rho.ratio)
    | 3 =>
      match (List.range 32).find? fun u => s.strPort u == p with
      | some u => let r := (s.rd (BAT_RES u)).toNat; if r = 0 then top else 2 ^ 23 * a.res.getD r / r
      | none => top
    | _ => top
  BitVec.ofNat 24 (min top d)

/-- The atlas applies the entry of port `p` (R391): the slow limit, the weight; `fresh`: after a reset, where a factor may rise. -/
def State.atlasApply (s : State) (fresh : Bool) (cyc p : Nat) : State :=
  let d := (s.agePort p).d
  let now : Word := Tab.get 0x7FFFFF s.age.dNow p
  let d := if fresh ∨ d.toNat < now.toNat then d else now
  let s := s.modAge fun a => { a with dNow := Tab.set 0x7FFFFF a.dNow p d }
  if !s.flag AGE_CTL AGE_CTL_APPLY then s
  else
    let w := BitVec.ofNat 24 ((s.port p).slowLd.toNat * d.toNat / 2 ^ 23)
    let s := s.envTake p 0x83 (tighten 0x83 (s.rd (ENV_SLOW p)) w).1 cyc
    s.cramPut (p / 16) (s.getF AGE_WBASE AGE_WBASE_WBASE + p % 16) d cyc

/-- A ratio at its limit raises AGE_EOL_REACHED, and one that has newly reached it is recorded (R393, R394). -/
def State.eolCheck (s : State) (p k : Nat) (was now ratio cyc : Nat) : State :=
  if now ≠ 0 then s
  else
    let s := s.raise AGE_EOL_REACHED p cyc
    if was = 0 then s else s.record 0x82 p k ratio

/-- Port `p` at a revision (R389, R390, R392, R393). -/
def State.revisePort (s : State) (old : Bool) (cyc p : Nat) : State :=
  let now := s.opSeconds
  let a := s.agePort p
  let c := s.closeDay a.rho old
  let rho := c.1
  let c := c.2.closeDay a.kf old
  let kf := c.1
  let s := c.2
  let rho := { rho with eol := rho.forecast (s.rd AGE_LIM_RHO).toNat now false }
  let kf := { kf with eol := kf.forecast (s.rd AGE_LIM_FAN).toNat now false }
  let res := match a.res, (List.range 32).find? fun u => s.strPort u == p with
    | none, some u => let r := (s.rd (BAT_RES u)).toNat
                      if s.pers p = 3 ∧ r ≠ 0 ∧ (old ∨ a.rho.await) then some r else none
    | v, _ => v
  let first := (a.rho.base.isNone && rho.base.isSome) || (a.kf.base.isNone && kf.base.isSome) || (a.res.isNone && res.isSome)
  let s := s.modAgePort p fun x => { x with rho := rho, kf := kf, res := res }
  let s := s.modAgePort p fun x => { x with d := s.deratePort p }
  let s := if first && !(a.rho.await || a.kf.await) then s.record 0x81 p 0 0 else s
  (s.eolCheck p 0 a.rho.eol rho.eol rho.ratio cyc).eolCheck p 3 a.kf.eol kf.eol kf.ratio cyc

/-- Rail `r` at a revision; what it reaches concerns each of its members (R390, R393). -/
def State.reviseRail (s : State) (old : Bool) (cyc r : Nat) : State :=
  let now := s.opSeconds
  let a := s.ageRail r
  let c := s.closeDay a.kc old
  let kc := c.1
  let c := c.2.closeDay a.ke old
  let ke := c.1
  let s := c.2
  let kc := { kc with eol := kc.forecast (s.rd AGE_LIM_CAP).toNat now true }
  let ke := { ke with eol := ke.forecast (s.rd AGE_LIM_ESR).toNat now false }
  let s := s.modAgeRail r fun x => { x with kc := kc, ke := ke }
  forList (lanesOf (s.railMask r)) (fun p s => (s.eolCheck p 1 a.kc.eol kc.eol kc.ratio cyc).eolCheck p 2 a.ke.eol ke.eol ke.ratio cyc) s

/-- A revision waits: one runs, or the device is in Lull, or before its first tick (R392). -/
def State.reviseWaits (s : State) : Bool := s.age.revising || s.getF PWS_STAT PWS_STAT_STATE == 3 || !s.boot.running

/-- A revision (R392): the day's means, ratios, factors, forecasts, their application, and the start of the MRAM write. -/
def State.revise (s : State) (cyc : Nat) : State :=
  if s.reviseWaits then s.modAge fun a => { a with again := true }
  else
    let old := decide (86400 ≤ s.opSeconds)
    let was := (List.range 128).map fun p => (s.agePort p).d
    let s := forEach 16 (fun r s => s.reviseRail old cyc r) s
    let s := forEach 128 (fun p s => s.revisePort old cyc p) s
    let si := s.age.si
    let mean := if si.n < 1000 then s.getF AGE_SI_MEAN AGE_SI_MEAN_MV else si.sum / si.n
    let q : AgeQ := { si with sum := 0, n := 0, ratio := mean, hist := ((mean, s.opSeconds) :: si.hist).take 8 }
    let q := { q with eol := q.forecast 850 s.opSeconds false }
    let s := (s.setF AGE_SI_MEAN AGE_SI_MEAN_MV mean).modAge fun a => { a with si := q }
    let s := if mean = 0 then s else s.eolCheck 0xFF 4 si.eol q.eol mean cyc
    let s := forEach 128 (fun p s => s.atlasApply false cyc p) s
    let changed := ((List.range 128).filter fun p => (s.agePort p).d != was.getD p 0).length
    let s := s.modAge fun a => { a with rev := a.rev + 1, revising := true, due := (s.opSeconds / 86400 + 1) * 86400 }
    s.record 0x80 0xFF changed s.age.rev

/-- A revision that waited runs at the first tick of Run (R392). -/
def State.reviseOwed (s : State) : State :=
  if s.age.again && !s.reviseWaits then (s.modAge fun a => { a with again := false }).revise 0 else s

/-- ATLAS_REVISION (R392): at every 24 h of operation, counted by REC_HOURS. -/
def execAtlasRevision (cyc : Nat) (s : State) : Host.Outcome State Fault Refusal :=
  .next (if s.age.due ≤ s.opSeconds then s.revise cyc else s)

/-- ATLAS_REVISION_COMPLETE (R392): the atlas is in MRAM, or its write failed; a request that came meanwhile runs. -/
def execAtlasRevisionComplete (ok : Bool) (cyc : Nat) (s : State) : Host.Outcome State Fault Refusal :=
  .next (
    if !s.age.revising then s
    else
      let clean (x : AgeQ) : AgeQ := { x with sum := 0, n := 0 }
      let a := s.age
      let ports : Tab AgePort := a.ports.map fun e => (e.1, { e.2 with rho := clean e.2.rho, kf := clean e.2.kf })
      let rails : Tab AgeRail := a.rails.map fun e => (e.1, { e.2 with kc := clean e.2.kc, ke := clean e.2.ke })
      let v : AgeCopy := ⟨a.copies.nextSeq AgeCopy.words (·.seq), ports, rails, clean a.si, s.getF AGE_SI_MEAN AGE_SI_MEAN_MV, a.rev⟩
      let s := s.modAge fun a => { a with copies := a.copies.put AgeCopy.words (·.seq) (if ok then some v else none) }
      let s := if ok then s else s.raise AGE_NVM_ERR 0xFF cyc
      let again := s.age.again
      let s := s.modAge fun a => { a with revising := false, again := false }
      if again then s.revise cyc else s)

/-- The quantity has no baseline, and takes the next daily mean for one (R389). -/
def AgeQ.rebase (q : AgeQ) : AgeQ := { q with base := none, await := true, ratio := 65536 }

/-- A write of AGE_CMD (R389, R392). -/
def State.ageCmd (s : State) (w : Word) (cyc : Nat) : State :=
  let s := s.wr AGE_CMD (w &&& 0xFF)
  let base (s : State) (p : Nat) : State := s.modAgePort p fun a => { a with rho := a.rho.rebase, kf := a.kf.rebase, res := none }
  let s : State :=
    if !AGE_CMD_BASE.on w then s
    else if AGE_CMD_ALL.on w then
      let s := forEach 128 (fun p s => base s p) s
      let s := forEach 16 (fun r s => s.modAgeRail r fun a => { a with kc := a.kc.rebase, ke := a.ke.rebase }) s
      s.record 0x81 0xFF 0 1
    else (base s (AGE_CMD_PORT.get w)).record 0x81 (AGE_CMD_PORT.get w) 0 1
  if AGE_CMD_REVISE.on w then s.revise cyc else s

/-! ### What the registers show (R396) -/

/-- The AGE_ registers of port `p` as they read: status, rho, kc and ke as halves, kf, d, forecast (log entry 52). -/
def State.ageRead (s : State) (p off : Nat) : Word :=
  let a := s.agePort p
  let rail := match s.railOf p with | some r => s.ageRail r | none => {}
  let fuseLike := s.pers p == 0 || s.pers p == 1
  let eols := (if fuseLike then [a.rho.eol] else []) ++ (if s.pers p = 4 then [a.kf.eol] else [])
    ++ (if (s.railOf p).isSome then [rail.kc.eol, rail.ke.eol] else [])
  match off with
  | 0xB1 =>
    let nobase := (if s.pers p = 4 then a.kf.base.isNone else if s.pers p = 3 then a.res.isNone else a.rho.base.isNone)
    BitVec.ofNat 24 (b2n nobase + 2 * b2n (eols.contains 0))
  | 0xB2 => BitVec.ofNat 24 a.rho.ratio
  | 0xB3 => BitVec.ofNat 24 (rail.kc.ratio / 4096 * 4096 + rail.ke.ratio / 4096)
  | 0xB4 => BitVec.ofNat 24 a.kf.ratio
  | 0xB5 => a.d
  | _ => BitVec.ofNat 24 (eols.foldl min 0xFFFFFF)

/-- The atlas at boot: the newer valid copy, or none; a revision whose 24 h ended without it is owed (R392). -/
def State.ageBoot (s : State) (cyc : Nat) : State :=
  let a := s.age
  let c := a.copies.newest AgeCopy.words (·.seq)
  let last := ((c.bind fun c => c.si.hist.head?).map (·.2)).getD s.opSeconds
  let due := (last / 86400 + 1) * 86400
  let z : AgeSt := { copies := a.copies, due := due, again := decide (due ≤ s.opSeconds) }
  match c with
  | some c => { s.setF AGE_SI_MEAN AGE_SI_MEAN_MV c.mean with age := { z with ports := c.ports, rails := c.rails, si := c.si, rev := c.rev } }
  | none => { s with age := z }.raise AGE_NVM_ERR 0xFF cyc

end Sys2Proof.Machine
end

