-- ==== Sys2Proof/Machine/Alu.lean ====
section
/-! DEFINITION. The ALU and immediate instructions (R95 to R97). -/

namespace Sys2Proof.Machine

/-- A steward or lane result from two data registers. -/
def alu2 (x : Instr) (i : Issue) (d a b : Nat) (f : Word → Word → Res) (s : State) : State :=
  issueRegs x i s fun src r => r.result d (f (src.getD a) (src.getD b))

/-- A result from one data register. -/
def alu1 (x : Instr) (i : Issue) (d a : Nat) (f : Word → Res) (s : State) : State :=
  issueRegs x i s fun src r => r.result d (f (src.getD a))

/-- A shift by the count in b[4:0] (R95). -/
def aluShift (x : Instr) (i : Issue) (d a b : Nat) (f : Word → Nat → Res) (s : State) : State :=
  issueRegs x i s fun src r => r.result d (f (src.getD a) ((src.getD b).toNat % 32))

/-- A 12-bit immediate sign-extended, as an integer and as a word (R97). -/
def simm (imm : BitVec 12) : Word := imm.signExtend 24
/-- A 12-bit immediate zero-extended (R97). -/
def zimm (imm : BitVec 12) : Word := imm.zeroExtend 24

/-- NOP (R95): nothing but its place in the bundle. -/
def execNop (i : Issue) (s : State) : Host.Outcome State Fault Refusal := .next (issueAny (.nop i) i s fun _ s => s)
/-- ADD (R95): d = a + b wrapped. -/
def execAdd (i : Issue) (d a b : Nat) (s : State) : Host.Outcome State Fault Refusal := .next (alu2 (.add i d a b) i d a b aluAdd s)
/-- ADDS (R95): d = sat(a + b). -/
def execAdds (i : Issue) (d a b : Nat) (s : State) : Host.Outcome State Fault Refusal := .next (alu2 (.adds i d a b) i d a b aluAdds s)
/-- SUB (R95): d = a − b wrapped. -/
def execSub (i : Issue) (d a b : Nat) (s : State) : Host.Outcome State Fault Refusal := .next (alu2 (.sub i d a b) i d a b aluSub s)
/-- SUBS (R95): d = sat(a − b). -/
def execSubs (i : Issue) (d a b : Nat) (s : State) : Host.Outcome State Fault Refusal := .next (alu2 (.subs i d a b) i d a b aluSubs s)
/-- ADDU (R95): d = usat(a + b), operands U24. -/
def execAddu (i : Issue) (d a b : Nat) (s : State) : Host.Outcome State Fault Refusal := .next (alu2 (.addu i d a b) i d a b aluAddu s)
/-- SUBU (R95): d = usat(a − b), operands U24. -/
def execSubu (i : Issue) (d a b : Nat) (s : State) : Host.Outcome State Fault Refusal := .next (alu2 (.subu i d a b) i d a b aluSubu s)
/-- NEG (R95): d = −a wrapped. -/
def execNeg (i : Issue) (d a : Nat) (s : State) : Host.Outcome State Fault Refusal := .next (alu1 (.neg i d a) i d a aluNeg s)
/-- NEGS (R95): d = sat(−a). -/
def execNegs (i : Issue) (d a : Nat) (s : State) : Host.Outcome State Fault Refusal := .next (alu1 (.negs i d a) i d a aluNegs s)
/-- ABS (R95): d = |a| wrapped. -/
def execAbs (i : Issue) (d a : Nat) (s : State) : Host.Outcome State Fault Refusal := .next (alu1 (.abs i d a) i d a aluAbs s)
/-- ABSS (R95): d = sat(|a|). -/
def execAbss (i : Issue) (d a : Nat) (s : State) : Host.Outcome State Fault Refusal := .next (alu1 (.abss i d a) i d a aluAbss s)
/-- MIN (R95): d = the smaller of a and b, signed. -/
def execMin (i : Issue) (d a b : Nat) (s : State) : Host.Outcome State Fault Refusal := .next (alu2 (.min i d a b) i d a b aluMin s)
/-- MAX (R95): d = the larger of a and b, signed. -/
def execMax (i : Issue) (d a b : Nat) (s : State) : Host.Outcome State Fault Refusal := .next (alu2 (.max i d a b) i d a b aluMax s)
/-- CLIP (R95): d = a limited to −lim to lim, lim = sat(|b|). -/
def execClip (i : Issue) (d a b : Nat) (s : State) : Host.Outcome State Fault Refusal := .next (alu2 (.clip i d a b) i d a b aluClip s)
/-- NORM (R95): d = the number of redundant sign bits. -/
def execNorm (i : Issue) (d a : Nat) (s : State) : Host.Outcome State Fault Refusal := .next (alu1 (.norm i d a) i d a aluNorm s)
/-- AND (R95): bitwise and. -/
def execAnd (i : Issue) (d a b : Nat) (s : State) : Host.Outcome State Fault Refusal := .next (alu2 (.and i d a b) i d a b aluAnd s)
/-- OR (R95): bitwise or. -/
def execOr (i : Issue) (d a b : Nat) (s : State) : Host.Outcome State Fault Refusal := .next (alu2 (.or i d a b) i d a b aluOr s)
/-- XOR (R95): bitwise exclusive or. -/
def execXor (i : Issue) (d a b : Nat) (s : State) : Host.Outcome State Fault Refusal := .next (alu2 (.xor i d a b) i d a b aluXor s)
/-- NOT (R95): bitwise complement. -/
def execNot (i : Issue) (d a : Nat) (s : State) : Host.Outcome State Fault Refusal := .next (alu1 (.not i d a) i d a aluNot s)
/-- ASR (R95): arithmetic shift right by b[4:0]. -/
def execAsr (i : Issue) (d a b : Nat) (s : State) : Host.Outcome State Fault Refusal := .next (aluShift (.asr i d a b) i d a b aluAsr s)
/-- LSR (R95): logical shift right by b[4:0]. -/
def execLsr (i : Issue) (d a b : Nat) (s : State) : Host.Outcome State Fault Refusal := .next (aluShift (.lsr i d a b) i d a b aluLsr s)
/-- LSL (R95): shift left by b[4:0]. -/
def execLsl (i : Issue) (d a b : Nat) (s : State) : Host.Outcome State Fault Refusal := .next (aluShift (.lsl i d a b) i d a b aluLsl s)
/-- LSLS (R95): d = sat(a × 2^b[4:0]). -/
def execLsls (i : Issue) (d a b : Nat) (s : State) : Host.Outcome State Fault Refusal := .next (aluShift (.lsls i d a b) i d a b aluLsls s)
/-- CMP (R95, R96): writes one predicate bit with a condition of a against b. -/
def execCmp (i : Issue) (p1 : Bool) (a b : Nat) (c : Cond) (s : State) : Host.Outcome State Fault Refusal :=
  .next (issueRegs (.cmp i p1 a b c) i s fun src r => { r with c0 := setPred r.c0 p1 (c.holds (src.getD a) (src.getD b)) })
/-- ADDI (R97): d = s + simm. -/
def execAddi (i : Issue) (d a : Nat) (imm : BitVec 12) (s : State) : Host.Outcome State Fault Refusal :=
  .next (alu1 (.addi i d a imm) i d a (fun x => aluAdd x (simm imm)) s)
/-- ADDIS (R97): d = sat(s + simm). -/
def execAddis (i : Issue) (d a : Nat) (imm : BitVec 12) (s : State) : Host.Outcome State Fault Refusal :=
  .next (alu1 (.addis i d a imm) i d a (fun x => aluAdds x (simm imm)) s)
/-- ANDI (R97): d = s and zimm. -/
def execAndi (i : Issue) (d a : Nat) (imm : BitVec 12) (s : State) : Host.Outcome State Fault Refusal :=
  .next (alu1 (.andi i d a imm) i d a (fun x => aluAnd x (zimm imm)) s)
/-- ORI (R97): d = s or zimm. -/
def execOri (i : Issue) (d a : Nat) (imm : BitVec 12) (s : State) : Host.Outcome State Fault Refusal :=
  .next (alu1 (.ori i d a imm) i d a (fun x => aluOr x (zimm imm)) s)
/-- XORI (R97): d = s xor zimm. -/
def execXori (i : Issue) (d a : Nat) (imm : BitVec 12) (s : State) : Host.Outcome State Fault Refusal :=
  .next (alu1 (.xori i d a imm) i d a (fun x => aluXor x (zimm imm)) s)
/-- ASRI (R97): as ASR with a count of 0 to 23. -/
def execAsri (i : Issue) (d a n : Nat) (s : State) : Host.Outcome State Fault Refusal :=
  .next (alu1 (.asri i d a n) i d a (fun x => aluAsr x n) s)
/-- LSRI (R97): as LSR with a count of 0 to 23. -/
def execLsri (i : Issue) (d a n : Nat) (s : State) : Host.Outcome State Fault Refusal :=
  .next (alu1 (.lsri i d a n) i d a (fun x => aluLsr x n) s)
/-- LSLI (R97): as LSL with a count of 0 to 23. -/
def execLsli (i : Issue) (d a n : Nat) (s : State) : Host.Outcome State Fault Refusal :=
  .next (alu1 (.lsli i d a n) i d a (fun x => aluLsl x n) s)
/-- LSLIS (R97): as LSLS with a count of 0 to 23. -/
def execLslis (i : Issue) (d a n : Nat) (s : State) : Host.Outcome State Fault Refusal :=
  .next (alu1 (.lslis i d a n) i d a (fun x => aluLsls x n) s)
/-- CMPI (R96, R97): writes one predicate bit with a condition of s against simm. -/
def execCmpi (i : Issue) (p1 : Bool) (a : Nat) (c : Cond) (imm : BitVec 12) (s : State) : Host.Outcome State Fault Refusal :=
  .next (issueRegs (.cmpi i p1 a c imm) i s fun src r => { r with c0 := setPred r.c0 p1 (c.holds (src.getD a) (simm imm)) })
/-- PADDI (R97): p = (s + simm) mod 2^16. -/
def execPaddi (i : Issue) (pd ps : Nat) (imm : BitVec 12) (s : State) : Host.Outcome State Fault Refusal :=
  .next (issueRegs (.paddi i pd ps imm) i s fun src r => r.setP pd (src.getP ps + imm.signExtend 16))

end Sys2Proof.Machine
end

