-- ==== Sys2Proof/Machine/Rights.lean ====
section
/-! DEFINITION. The rights map and the rights in force (R332 to R338, R344). -/

namespace Sys2Proof.Machine

/-- Do rights hold a class (R332)? Classes are bits 0 to 4; LIVE is bit 5 of a port's word (R344). -/
def holds (rights cls : Nat) : Bool := rights.testBit cls

/-- The classes by number (R332). -/
def clsObserve : Nat := 0
def clsOperate : Nat := 1
def clsConfigure : Nat := 2
def clsMaintain : Nat := 3
def clsIntegrate : Nat := 4

/-- A word of the rights map: 0 to 20 by port, 21 and 22 the CRC (R336, R344). -/
def State.mapWord (s : State) (k : Nat) : Word := Tab.get 0 s.otp.rights k

/-- The map's CRC matches (R336, R497). -/
def State.mapCrcOk (s : State) : Bool :=
  crcWords ((List.range 21).map s.mapWord) == (s.mapWord 21).toNat + (s.mapWord 22).toNat % 256 * 2 ^ 24

/-- The entry that a reset loads for a port (R335, R337): with no sealed map the default; with one that fails its CRC, OBSERVE. -/
def State.rightsEntry (s : State) (p : Nat) : Word :=
  if !s.otp.rightsSealed then resetWord (RGT_PORT p).addr
  else if s.mapCrcOk then s.mapWord p &&& 0x3F
  else 1

/-- The load of every entry at a package-level reset (R337). -/
def State.rightsLoad (s : State) : State :=
  let s := forEach 21 (fun p s => s.wr (RGT_PORT p) (s.rightsEntry p)) s
  if s.otp.rightsSealed ∧ !s.mapCrcOk then (s.setF RGT_STAT RGT_STAT_MAPERR 1).raise RGT_MAP_ERR 0xFF 0 else s

/-- The load of the steward's entry at a reset of its tile (R337). -/
def State.rightsLoadTile (s : State) (n : Nat) : State := s.wr (RGT_PORT (13 + n)) (s.rightsEntry (13 + n))

/-- A write of a word of the map (R336): programmed bits stay 1; a sealed map refuses it. False: error status. -/
def State.mapProgram (s : State) (k : Nat) (w : Word) : State × Bool :=
  if s.otp.rightsSealed then (s, false)
  else
    let m : Word := if k < 21 then 0x3F else if k = 22 then 0xFF else 0xFFFFFF
    ({ s with otp := { s.otp with rights := Tab.set 0 s.otp.rights k (s.mapWord k ||| (w &&& m)) } }, true)

/-- A write of RGT_CMD (R336): SEAL with its CONFIRM starts the seal, unless the map is sealed. -/
def State.rgtCmd (s : State) (w : Word) : State × Bool :=
  if RGT_CMD_SEAL.on w ∧ RGT_CMD_CONFIRM.get w = 0x5A then
    if s.otp.rightsSealed then (s, false) else (s.setF RGT_CMD RGT_CMD_SEAL 1, true)
  else (s, true)

/-- RGT_SEAL_COMPLETE (R336): the seal completes, or is refused where the CRC does not match; the rights in force stay. -/
def execRgtSealComplete (s : State) : Host.Outcome State Fault Refusal :=
  .next (
    if !s.flag RGT_CMD RGT_CMD_SEAL then s
    else
      let s := s.setF RGT_CMD RGT_CMD_SEAL 0
      if s.mapCrcOk then { s with otp := { s.otp with rightsSealed := true } } else s.setF RGT_STAT RGT_STAT_ERR 1)

/-- A write of RGT_PORT (R338): bits may be cleared and not set. -/
def State.rgtTighten (s : State) (p : Nat) (w : Word) : State := s.wr (RGT_PORT p) (s.rd (RGT_PORT p) &&& w)

end Sys2Proof.Machine
end

