-- ==== Sys2Proof/Machine/Control.lean ====
section
/-! DEFINITION. Branches, LOOP, the steward's control transfers, WAIT, TRAP, interrupts (R102 to R106). -/

namespace Sys2Proof.Machine

/-- BR (R102): continue at the branch's own address plus the offset. -/
def execBr (i : Issue) (ofs : Int) (s : State) : Host.Outcome State Fault Refusal :=
  .next (issueOutside (.br i ofs) i s fun _ s => s.jumpTo i.core (relAddr i.core (s.core i.core).pc ofs))

/-- CALL (R104): p7 = the address of the next bundle, branch as BR. -/
def execCall (i : Issue) (ofs : Int) (s : State) : Host.Outcome State Fault Refusal :=
  .next (issueOutside (.call i ofs) i s fun _ s =>
    let pc := (s.core i.core).pc
    (s.modRegs i.core fun r => r.setP 7 (BitVec.ofNat 16 ((pc + 1) % bankSize i.core))).jumpTo i.core (relAddr i.core pc ofs))

/-- LOOP (R103): run the next `len` bundles n times, n the count or the smaller of a data register and the count;
with n = 0 continue after the body. -/
def execLoop (i : Issue) (creg : Option Nat) (count len : Nat) (s : State) : Host.Outcome State Fault Refusal :=
  .next (issueOutside (.loop i creg count len) i s fun src s =>
    let n := match creg with | none => count | some r => min (src.getD r).toNat count
    s.modCore i.core fun c =>
      if n = 0 then
        let x := loopAfter (c.pc + len) c.loops
        { c with loops := x.1, jump := some x.2 }
      else { c with loops := ⟨c.pc + 1, c.pc + len, 0, n⟩ :: c.loops })

/-- JMP (R104): continue at a[14:0]. -/
def execJmp (i : Issue) (a : Nat) (s : State) : Host.Outcome State Fault Refusal :=
  .next (issueOutside (.jmp i a) i s fun src s => s.jumpTo i.core ((src.getD a).toNat % 32768))

/-- CALLR (R104): p7 = the address of the next bundle, continue at a[14:0]. -/
def execCallr (i : Issue) (a : Nat) (s : State) : Host.Outcome State Fault Refusal :=
  .next (issueOutside (.callr i a) i s fun src s =>
    let pc := (s.core i.core).pc
    (s.modRegs i.core fun r => r.setP 7 (BitVec.ofNat 16 ((pc + 1) % 32768))).jumpTo i.core ((src.getD a).toNat % 32768))

/-- RET (R104): continue at p7[14:0]. -/
def execRet (i : Issue) (s : State) : Host.Outcome State Fault Refusal :=
  .next (issueOutside (.ret i) i s fun src s => s.jumpTo i.core ((src.getP 7).toNat % 32768))

/-- RETI (R104): c0 = s5, MODE = PMODE, IE = 1, continue at s4. -/
def execReti (i : Issue) (s : State) : Host.Outcome State Fault Refusal :=
  .next (issueOutside (.reti i) i s fun _ s =>
    if (s.core i.core).privileged then
      let s := s.modCore i.core fun c =>
        let m := (c.sreg 0).getLsbD 1
        { c.setS 0 (BitVec.ofNat 24 (4 + (if m then 2 else 0) + (if m then 1 else 0))) with
          r := { c.r with c0 := c.sreg 5 &&& c0Mask } }
      s.jumpTo i.core (((s.core i.core).sreg 4).toNat % 32768)
    else s.precise i.core 3 i.cyc)

/-- An interrupt that s2 enables is pending in s3; bit 0 takes no part (R104 to R106). -/
def Core.wakes (c : Core) : Bool := (c.sreg 2 &&& c.sreg 3 &&& 0xFFFE) != 0

/-- WAIT (R104): stop issuing until an interrupt enabled in s2 is pending. -/
def execWait (i : Issue) (s : State) : Host.Outcome State Fault Refusal :=
  .next (issuePriv (.wait i) i s fun _ s => s.modCore i.core fun c => { c with waiting := !c.wakes })

/-- TRAP (R104): s1.TCODE = the code, and interrupt source 14 becomes pending. -/
def execTrap (i : Issue) (imm : BitVec 12) (s : State) : Host.Outcome State Fault Refusal :=
  .next (issue (.trap i imm) i s fun _ s => s.modCore i.core fun c =>
    (c.holdPriv.setS 1 ((⟨23, 12⟩ : Fld).put (c.sreg 1) imm.toNat)).irq 14)

/-- The interrupt source a steward takes next: the first of 1 to 15 that is pending and enabled (R68, R106). -/
def Core.nextIrq (c : Core) : Option Nat :=
  (List.range 16).find? fun k => k != 0 && (c.sreg 3).getLsbD k && (c.sreg 2).getLsbD k

/-- INTERRUPT_ENTRY (R106): between bundles, with IE = 1, no LOOP body running and no LOCK sequence open, the steward
of the tile takes the first pending enabled source: s4 and s5 save the return address and c0, the mode becomes
privileged, interrupts are masked, the pending bit clears, and it continues at VBASE + 8k. -/
def execInterruptEntry (n : Nat) (s : State) : Host.Outcome State Fault Refusal :=
  let c := s.core (128 + n)
  .next (
    match c.nextIrq with
    | none => s
    | some k =>
      if c.running ∧ !c.dead ∧ !c.halted ∧ c.access.isNone ∧ c.snap.isNone ∧ c.loops.isEmpty ∧ c.lock.isNone
          ∧ (c.sreg 0).getLsbD 2 then
        let s0 := c.sreg 0
        let c := c.setS 4 (BitVec.ofNat 24 (c.pc % 32768))
        let c := c.setS 5 c.r.c0
        let c := c.setS 0 (BitVec.ofNat 24 (if s0.getLsbD 0 then 3 else 1))
        let c := c.setS 3 (c.sreg 3 &&& ~~~ BitVec.ofNat 24 (2 ^ k))
        let s := s.countCore (128 + n) 0x32 1
        s.setCore (128 + n) { c with pc := ((c.sreg 6).toNat + 8 * k) % 32768, waiting := false, stepping := false }
      else s)

/-- PRECISE_EXCEPTION (R106): the steward of the tile takes a precise exception with a cause (1 protection, 2 double
memory error, 3 privileged, reserved or ill-paired bundle) in place of its bundle; a protection violation gives the
refused address. -/
def execPreciseException (n cause a cyc : Nat) (s : State) : Host.Outcome State Fault Refusal :=
  .next (
    if !(s.core (128 + n)).running || (s.core (128 + n)).dead then s
    else if cause = 1 then s.mpuRefuse (128 + n) a cyc
    else if cause = 2 then (s.raise (tileSrc n LAN_MEM_DED_STW) n cyc).precise (128 + n) 2 cyc
    else s.precise (128 + n) 3 cyc)

/-- STEWARD_TIMER_EXPIRY (R68): timer 0 or 1 of the tile's steward runs out: interrupt source 8 or 9. -/
def execStewardTimerExpiry (n t : Nat) (s : State) : Host.Outcome State Fault Refusal := .next (s.irq n (8 + t % 2))

end Sys2Proof.Machine
end

