-- ==== Sys2Proof/Machine/Crypto.lean ====
section
/-! DEFINITION. The published algorithms that an image is verified with (R416, R427): the SHA-384 digest and the ECDSA signature
over the curve P-384. The spec names them by their standards; their constants are the standards' (log entry 56). -/

namespace Sys2Proof.Machine

/-! ### SHA-384: its constants are the fractions of roots of the first primes -/

/-- The primes below 410: there are eighty. -/
def primes80 : List Nat :=
  (List.range 410).filter fun n => decide (2 ≤ n) && (List.range n).all fun d => decide (d < 2) || n % d != 0

/-- The floor of the root of degree `k`, below 2^`bits`, found from the highest bit down. -/
def rootFloor (k bits x : Nat) : Nat :=
  (List.range bits).foldl (fun r b => let t := r + 2 ^ (bits - 1 - b); if t ^ k ≤ x then t else r) 0

/-- The first 64 bits of the fraction of the root of degree `k` of a number below 2^12. -/
def rootBits (k n : Nat) : BitVec 64 := BitVec.ofNat 64 (rootFloor k 70 (n * 2 ^ (64 * k)))

/-- The constant of each round, from the cube roots. -/
def roundWords : List (BitVec 64) := primes80.map (rootBits 3)

/-- The hash value before the first block, from the square roots of the ninth to the sixteenth prime. -/
def hashStart : List (BitVec 64) := ((primes80.drop 8).take 8).map (rootBits 2)

/-- A word mixed with itself: rotated right by each of `rots`, and shifted right by `sh` where it is not 64. -/
def mixWord (rots : List Nat) (sh : Nat) (x : BitVec 64) : BitVec 64 :=
  rots.foldl (fun y r => y ^^^ x.rotateRight r) (x >>> sh)

/-- Bytes, most significant first, as a number. -/
def bytesNat (l : List Nat) : Nat := l.foldl (fun n b => n * 256 + b % 256) 0

/-- The words of a block's rounds: sixteen of the message, held newest first, and the next `k`. -/
def blockWords : Nat → List (BitVec 64) → List (BitVec 64)
  | 0, w => w.reverse
  | k + 1, w =>
    let near := mixWord [19, 61] 6 (w.getD 1 0)
    let far := mixWord [1, 8] 7 (w.getD 14 0)
    blockWords k ((near + far + (w.getD 6 0 + w.getD 15 0)) :: w)

/-- The working words of a round: two quarters of four, the first word of each first. -/
structure HashQuarters where
  hi : BitVec 64 × BitVec 64 × BitVec 64 × BitVec 64
  lo : BitVec 64 × BitVec 64 × BitVec 64 × BitVec 64

/-- One round: `feed` is the round's constant plus its message word. -/
def HashQuarters.round (q : HashQuarters) (feed : BitVec 64) : HashQuarters :=
  let choice := q.lo.2.2.1 ^^^ (q.lo.1 &&& (q.lo.2.1 ^^^ q.lo.2.2.1))
  let most := (q.hi.1 &&& (q.hi.2.1 ||| q.hi.2.2.1)) ||| (q.hi.2.1 &&& q.hi.2.2.1)
  let x := feed + q.lo.2.2.2 + choice + mixWord [14, 18, 41] 64 q.lo.1
  { hi := (x + most + mixWord [28, 34, 39] 64 q.hi.1, q.hi.1, q.hi.2.1, q.hi.2.2.1),
    lo := (q.hi.2.2.2 + x, q.lo.1, q.lo.2.1, q.lo.2.2.1) }

/-- The hash value after a block of 128 bytes. -/
def shaBlock (h : List (BitVec 64)) (bl : List Nat) : List (BitVec 64) :=
  let word (k : Nat) : BitVec 64 := BitVec.ofNat 64 (bytesNat ((bl.drop (8 * k)).take 8))
  let at_ (k : Nat) : BitVec 64 := h.getD k 0
  let feeds := List.zipWith (· + ·) roundWords (blockWords 64 (((List.range 16).map word).reverse))
  let q := feeds.foldl HashQuarters.round ⟨(at_ 0, at_ 1, at_ 2, at_ 3), (at_ 4, at_ 5, at_ 6, at_ 7)⟩
  List.zipWith (· + ·) h [q.hi.1, q.hi.2.1, q.hi.2.2.1, q.hi.2.2.2, q.lo.1, q.lo.2.1, q.lo.2.2.1, q.lo.2.2.2]

/-- The hash value after `n` blocks. -/
def shaBlocks : Nat → List (BitVec 64) → List Nat → List (BitVec 64)
  | 0, h, _ => h
  | n + 1, h, m => shaBlocks n (shaBlock h (m.take 128)) (m.drop 128)

/-- The SHA-384 digest of bytes, as a number of 384 bits. -/
def sha384 (m : List Nat) : Nat :=
  let pad := (239 - m.length % 128) % 128
  let len := (List.range 16).map fun i => 8 * m.length / 256 ^ (15 - i) % 256
  let p := m ++ [0x80] ++ List.replicate pad 0 ++ len
  ((shaBlocks (p.length / 128) hashStart p).take 6).foldl (fun n w => n * 2 ^ 64 + w.toNat) 0

/-! ### ECDSA over P-384 -/

def p384P : Nat := 2 ^ 384 - 2 ^ 128 - 2 ^ 96 + 2 ^ 32 - 1
def p384N : Nat := 0xffffffffffffffffffffffffffffffffffffffffffffffffc7634d81f4372ddf581a0db248b0a77aecec196accc52973
def p384B : Nat := 0xb3312fa7e23ee7e4988e056be3f82d19181d9c6efe8141120314088f5013875ac656398d8a2ed19d2a85c8edd3ec2aef
def p384G : Nat × Nat := (0xaa87ca22be8b05378eb1c71ef320ad746e1d3b628ba79b9859f741e082542a385502f25dbf55296c3a545e3872760ab7,
  0x3617de4a96262c6f5d9e98bf9292dc29f8f41dbd289a147ce9da3113b5f0b8c00a60b1ce1d7e819d7a431d7c90ea0e5f)

/-- A power modulo m, by the 384 bits of the exponent. -/
def powMod (x e m : Nat) : Nat :=
  (List.range 384).foldl (fun r k => let r := r * r % m; if e.testBit (383 - k) then r * x % m else r) 1

/-- The inverse modulo a prime. -/
def invMod (x m : Nat) : Nat := powMod (x % m) (m - 2) m

/-- The sum of two points; none is the point at infinity. -/
def ecAdd : Option (Nat × Nat) → Option (Nat × Nat) → Option (Nat × Nat)
  | none, b => b
  | a, none => a
  | some a, some b =>
    let p := p384P
    if a.1 = b.1 ∧ (a.2 + b.2) % p = 0 then none
    else
      let l := if a.1 = b.1 then (3 * a.1 * a.1 + 3 * (p - 1)) * invMod (2 * a.2) p % p
        else (b.2 + p - a.2) * invMod (b.1 + p - a.1) p % p
      let x := (l * l + 2 * p - a.1 - b.1) % p
      some (x, (l * (a.1 + p - x) + p - a.2) % p)

/-- A multiple of a point, by the 384 bits of the factor. -/
def ecMul (k : Nat) (a : Nat × Nat) : Option (Nat × Nat) :=
  (List.range 384).foldl (fun r i => let r := ecAdd r r; if k.testBit (383 - i) then ecAdd r (some a) else r) none

/-- Is a pair of coordinates a point of the curve? -/
def onCurve (q : Nat × Nat) : Bool :=
  decide (q.1 < p384P) && decide (q.2 < p384P) && (q.2 * q.2) % p384P == (q.1 ^ 3 + 3 * (p384P - 1) * q.1 + p384B) % p384P

/-- Does a signature r, s over a digest verify with a public key? -/
def ecdsaOk (q : Nat × Nat) (digest r s : Nat) : Bool :=
  let n := p384N
  if r = 0 ∨ n ≤ r ∨ s = 0 ∨ n ≤ s ∨ !onCurve q then false
  else
    let w := invMod s n
    match ecAdd (ecMul (digest * w % n) p384G) (ecMul (r * w % n) q) with
    | none => false
    | some x => x.1 % n == r

end Sys2Proof.Machine
end

