-- ==== Sys2Proof/Machine/Power.lean ====
section
/-! DEFINITION. The power states Run, Trim, Doze and Lull (R397 to R404, R407 to R409). Keeper is with start-up. -/

namespace Sys2Proof.Machine

def State.modPws (s : State) (f : PwsSt → PwsSt) : State := { s with pws := f s.pws }

/-- The package state: 0 Run, 1 Trim, 2 Doze, 3 Lull (R409). -/
def State.pwState (s : State) : Nat := s.getF PWS_STAT PWS_STAT_STATE

/-- A change of the package state is recorded (R407). -/
def State.setPwState (s : State) (v : Nat) : State :=
  if s.pwState = v then s
  else (s.setF PWS_STAT PWS_STAT_STATE v).recordAt s.boundary 0x0A0 0xFF s.pwState v

/-! ### Channels and choice (R399, R400) -/

/-- A port of the tile is ON or SAFE. -/
def State.portsHold (s : State) (n : Nat) : Bool := (List.range 16).any fun i => s.pstate (16 * n + i) != 0

/-- PWS_DOZE_MASK does not let the tile doze. -/
def State.maskHolds (s : State) (n : Nat) : Bool := !(s.rd PWS_DOZE_MASK).getLsbD n

/-- A lane or the steward of the tile is halted for debug, or a debug session is open. -/
def State.debugHolds (s : State) (n : Nat) : Bool :=
  s.flag DBG_CTL DBG_CTL_SESSION || (s.core (128 + n)).halted || (List.range 16).any fun i => (s.core (16 * n + i)).halted

/-- A trained downstream link has a partner that is not in Lull. -/
def State.linkHolds (s : State) : Bool := s.downLinks.any fun l => s.linkUp l && s.linkState l != 3

/-- MGT_KEEP holds the device while a management path's link is up. -/
def State.mgtHolds (s : State) : Bool := s.flag PWS_CTL PWS_CTL_MGT_KEEP && (s.pathLink 0 || s.pathLink 1)

/-- The exit latencies of Doze, Lull and Keeper in µs (R397). -/
def exitLatency (st : Nat) : Nat := match st with | 2 => 350 | 3 => 1500 | 4 => 220000 | _ => 0

/-- Host software can wait for the exit from a state (R400, R401). -/
def State.tolerates (s : State) (st : Nat) : Bool := decide (exitLatency st ≤ (s.rd PWS_LTOL).toNat)

/-- The tile may doze (R399, R400). -/
def State.mayDoze (s : State) (n : Nat) : Bool :=
  decide (1 ≤ n ∧ n ≤ 7) && s.tolerates 2 && !s.portsHold n && !s.maskHolds n && !s.debugHolds n && !s.tileDown n

/-- The package may take Lull (R399, R400): tile 0 itself never dozes and does not hold it. -/
def State.mayLull (s : State) : Bool :=
  s.tolerates 3 && !s.portsHold 0 && !s.debugHolds 0 && (List.range 7).all (fun i => s.mayDoze (i + 1)) && !s.linkHolds && !s.mgtHolds

/-- The package may take Keeper (R399, R400). -/
def State.mayKeep (s : State) : Bool :=
  s.tolerates 4 && s.mayLull && s.flag PWS_CTL PWS_CTL_KEEP_EN && !s.pws.wakePin

/-- The conditions of a lower state have held for PWS_DWELL (R400): tile 1 to 7, Lull 8, Keeper 9. -/
def State.dwelt (s : State) (k : Nat) : Bool :=
  match Tab.get none s.pws.held k with
  | some t => decide (s.getF PWS_DWELL PWS_DWELL_MS * 800000 ≤ t)
  | none => false

/-- What keeps the device out of the next lower state (R400, R409). -/
def State.block (s : State) : Nat :=
  let bit (c : Bool) (k : Nat) : Nat := if c then 2 ^ k else 0
  let st := s.pwState
  let next := max 2 (st + 1)
  let tiles := if next = 2 then (List.range 7).map (· + 1) else List.range 8
  bit (!s.tolerates next) 0 + bit (tiles.any s.portsHold) 1 + bit ((List.range 7).any fun i => s.maskHolds (i + 1)) 2
    + bit (tiles.any s.debugHolds) 3 + bit (next != 2 && s.mgtHolds) 4 + bit (next != 2 && s.linkHolds) 5
    + bit (next == 4 && !s.flag PWS_CTL PWS_CTL_KEEP_EN) 6 + bit s.pws.wakePin 7

/-! ### Tiles -/

/-- The cores of a tile go into retention or leave it (R398). -/
def State.tileSleep (s : State) (n : Nat) (on : Bool) : State :=
  forEach 16 (fun i s => s.modCore (16 * n + i) fun c => { c with asleep := on }) (s.modCore (128 + n) fun c => { c with asleep := on })

/-- A tile dozes (R402, R407). -/
def State.dozeTile (s : State) (n : Nat) : State :=
  if (s.tile n).dozed then s
  else
    let s := (s.modTile n fun t => { t with dozed := true, waking := none }).tileSleep n true
    let s := s.setF PWS_STAT PWS_STAT_DOZED (s.getF PWS_STAT PWS_STAT_DOZED ||| 2 ^ (n - 1))
    (s.setF PKG_TILE_STAT PKG_TILE_STAT_RUN (s.getF PKG_TILE_STAT PKG_TILE_STAT_RUN &&& (255 - 2 ^ n))).recordAt s.boundary 0x0A1 n 1 0

/-- A tile leaves Doze (R402, R407). -/
def State.undozeTile (s : State) (n : Nat) : State :=
  if !(s.tile n).dozed then s
  else
    let s := (s.modTile n fun t => { t with dozed := false, waking := none }).tileSleep n false
    let s := s.setF PWS_STAT PWS_STAT_DOZED (s.getF PWS_STAT PWS_STAT_DOZED &&& (127 - 2 ^ (n - 1)))
    (s.setF PKG_TILE_STAT PKG_TILE_STAT_RUN (s.getF PKG_TILE_STAT PKG_TILE_STAT_RUN ||| 2 ^ n)).recordAt s.boundary 0x0A1 n 0 0

/-- Run or Trim, as TRIM_EN says (R400). -/
def State.awake (s : State) : Nat := if s.flag PWS_CTL PWS_CTL_TRIM_EN then 1 else 0

/-- The package state follows its tiles where it is not in Lull: Doze while one dozes (R400). -/
def State.pwSettle (s : State) : State :=
  if s.pwState = 3 then s else s.setPwState (if s.getF PWS_STAT PWS_STAT_DOZED = 0 then s.awake else 2)

/-- A wake event of R402 for a tile: an EN write that waits, a held access, a steward interrupt, or Doze no longer chosen. -/
def State.tileWakes (s : State) (n : Nat) : Bool :=
  let c := s.core (128 + n)
  (List.range 16).any (fun i => (s.port (16 * n + i)).enNext == some true)
    || (n != 0 && (!(s.tile n).held.isEmpty || (c.sreg 2 &&& c.sreg 3 &&& 0xFFF3) != 0 || !s.mayDoze n))

/-- Time to the boundary at hand from an event whose age at the running tick's S is `t`, in lane cycles. -/
def State.atBoundary (s : State) (t : Int) : Int := t + s.mer.tickN

/-- An exit from Doze or Lull ends (R404, R408): its length is shown in µs, and one that is too long is an event. -/
def State.exitDone (s : State) (t : Int) (st : Nat) : State :=
  let s := s.wr PWS_EXIT_LAST (BitVec.ofNat 24 (min 0xFFFFFF (t.toNat / 800)))
  if exitLatency st * 800 < t.toNat then s.raiseAtS PWS_EXIT_LATE 0xFF else s

/-- DOZE_ENTRY (R400, R402): a tile with no holding channel dozes once the conditions have held for PWS_DWELL. -/
def execDozeEntry (n : Nat) (s : State) : Host.Outcome State Fault Refusal :=
  .next (if s.boot.running ∧ s.pwState ≠ 3 ∧ s.mayDoze n ∧ s.dwelt n ∧ !s.tileWakes n then (s.dozeTile n).pwSettle else s)

/-- DOZE_WAKE_EVENT (R402): a wake event of a dozed tile, in lane cycle `cyc` of the running tick, starts its return. -/
def execDozeWakeEvent (n cyc : Nat) (s : State) : Host.Outcome State Fault Refusal :=
  .next (
    if (s.tile n).dozed ∧ (s.tile n).waking.isNone ∧ s.pwState ≠ 3 ∧ s.tileWakes n then
      s.modTile n fun t => { t with waking := some (-(cyc : Int)) }
    else s)

/-- DOZE_EXIT (R402): at the first boundary at or after W + 330 µs the tile runs; it dozes again only after PWS_DWELL (R400). -/
def execDozeExit (n : Nat) (s : State) : Host.Outcome State Fault Refusal :=
  .next (
    match (s.tile n).waking with
    | none => s
    | some t =>
      if (s.tile n).dozed ∧ s.mer.phase = .guard ∧ 264000 ≤ s.atBoundary t then
        (((s.undozeTile n).exitDone (s.atBoundary t) 2).pwSettle).modPws fun x => { x with held := Tab.set none x.held n none }
      else s)

/-! ### Lull (R403, R404, R260) -/

/-- The MRAM writes that a Lull or Keeper entry waits for have ended (R403). -/
def State.entryQuiet (s : State) : Bool :=
  !s.rcd.flushing && (List.range 32).all fun u => (s.str u).writing.isNone

/-- Step 1 of R403: a recorder flush and the session saves; `ok`: the save's MRAM write succeeds. -/
def State.entryStart (s : State) (kind : Nat) (ok : Bool) : State :=
  let s := if s.mgt.toSave then s.flushStart.sesSave ok else s.flushStart
  (s.setF PWS_STAT PWS_STAT_ENTERING 1).modPws fun x => { x with entry := kind }

/-- An entry ends or is abandoned. -/
def State.entryEnd (s : State) : State := (s.setF PWS_STAT PWS_STAT_ENTERING 0).modPws fun x => { x with entry := 0 }

/-- Steps 2 and 3 of R403 at a boundary: a rate change and a bank switch are cancelled; the tick runs at N = 80,000, tiles 1 to
7 doze, and the upstream link goes to low rate. -/
def State.lullEnter (s : State) : State :=
  let cancel := s.mer.rate.isSome || s.mer.annRate.isSome || s.switch.isSome
  let s := if cancel then (s.rateCancel.switchCancel true).raiseAtS PWS_ENTRY_CANCEL 0xFF else s
  let s := { s with mer := { s.mer with runN := s.period } }
  let s := forEach 7 (fun i s => (s.dozeTile (i + 1)).modTile (i + 1) fun t => { t with waking := none }) (s.setPeriod 80000 s.boundary)
  let s := (s.tileSleep 0 true).modCore 128 fun c => { c with asleep := false }
  let s := match s.upLink with
    | some l =>
      let s := s.modLink l fun x => { x with lull := true }
      if s.linkUp l then s.setF (TRP_LNK_STAT l) TRP_LNK_STAT_STATE 3 else s
    | none => s
  ((s.setPwState 3).entryEnd.modPws fun x => { x with waking := none, up := false }).alignedSettle

/-- LULL_ENTRY (R403): first, once the conditions have held for PWS_DWELL, the flush and the saves start; then, at the boundary
after they have ended, the package enters Lull. -/
def execLullEntry (ok : Bool) (s : State) : Host.Outcome State Fault Refusal :=
  .next (
    if !s.boot.running ∨ s.pwState = 3 then s
    else if s.pws.entry = 1 then
      if s.mer.phase = .guard ∧ s.entryQuiet then s.lullEnter else s
    else if s.mayLull ∧ s.dwelt 8 ∧ !(List.range 8).any s.tileWakes then s.entryStart 1 ok
    else s)

/-- A wake event of R404 that the state shows. -/
def State.lullWakes (s : State) : Bool := (List.range 8).any s.tileWakes || !s.mayLull

/-- A wake event in Lull, or during the entry, recognised in lane cycle `cyc` (R403, R404): an entry is abandoned. WAKE alone ends a
Keeper entry with an event, and the device stays in Lull (R405). -/
def State.lullWake (s : State) (pin : Bool) (cyc : Nat) : State :=
  let s := if s.pws.entry = 2 ∧ pin then s.raise PWS_KEEP_ABANDON 0xFF cyc else s
  if s.pws.entry ≠ 0 ∧ s.pwState ≠ 3 then s.entryEnd
  else if s.pws.entry = 2 ∧ pin ∧ !s.lullWakes then s.entryEnd
  else if s.pwState = 3 then
    let s := if s.pws.entry ≠ 0 then s.entryEnd else s
    if s.pws.waking.isNone then s.modPws fun x => { x with waking := some (-(cyc : Int)) } else s
  else s

/-- LULL_WAKE_EVENT (R404): WAKE rises, or one of the other wake events has come. -/
def execLullWakeEvent (pin : Bool) (cyc : Nat) (s : State) : Host.Outcome State Fault Refusal :=
  .next (
    let rises := pin && !s.pws.wakePin
    let s := if pin then s.modPws fun x => { x with wakePin := true } else s
    if rises ∨ s.lullWakes then s.lullWake rises cyc else s)

/-- The links return from low rate at the first 10 kHz S after W (R404, R260). -/
def State.lullLinks (s : State) : State :=
  match s.upLink with
  | some l =>
    let s := s.modLink l fun x => { x with lull := false }
    if s.linkState l = 3 then s.setF (TRP_LNK_STAT l) TRP_LNK_STAT_STATE 2 else s
  | none => s

/-- On leaving Lull a member that was addressed adopts count and phase again, with the delay measured last; where the upstream period
differs the check of R51 comes first (R260, R268). -/
def State.readopt (s : State) : State :=
  if s.trp.upN ≠ 0 ∧ s.adoptRefused then s.linkRefused.setSstate 5
  else { s with trp := { s.trp with measured := true, adopt := none } }

/-- LULL_EXIT (R404): at the first 10 kHz boundary at or after W + 1.4 ms the tick returns to the Run period; count and phase are
adopted again (R268), a revision that waited runs (R392), and a reverse switch that Lull cancelled is scheduled (R441). -/
def execLullExit (s : State) : Host.Outcome State Fault Refusal :=
  .next (
    match s.pws.waking with
    | none => s
    | some t =>
      if s.pwState = 3 ∧ s.mer.phase = .guard ∧ 1120000 ≤ s.atBoundary t then
        let s := forEach 7 (fun i s => s.undozeTile (i + 1)) s.lullLinks
        let s := (s.tileSleep 0 false).setPeriod s.mer.runN s.boundary
        let s := (s.setPwState s.awake).modPws fun x => { x with waking := none, up := false, held := [] }
        let s := s.exitDone (s.atBoundary t) 3
        let s := if s.sstate = 4 ∨ s.sstate = 5 then s.readopt else s
        let s := s.reviseOwed
        if s.upd.again then { s with upd := { s.upd with again := false } }.fallbackSwitch else s
      else s)

/-! ### At every S (R400) -/

/-- A time that runs while a condition holds. -/
def heldNext (t : Option Nat) (on : Bool) (n : Nat) : Option Nat :=
  if on then some (match t with | some t => t + n | none => 0) else none

/-- At S, `old` lane cycles after the last: the times run, the state among Run and Trim follows, PWS_BLOCK shows what holds, and in
an exit from Lull the tiles leave retention 200 µs after W. -/
def State.powerTick (s : State) (old : Nat) (wake : Bool) : State :=
  let s := s.modPws fun x => { x with wakePin := wake }
  let cond (k : Nat) : Bool := if k = 8 then s.mayLull else if k = 9 then s.mayKeep else s.mayDoze k
  let held := forEach 9 (fun i h => Tab.set none h (i + 1) (heldNext (Tab.get none h (i + 1)) (cond (i + 1)) old)) s.pws.held
  let s := s.modPws fun x => { x with held := held, waking := x.waking.map (· + (old : Int)) }
  let s := forEach 7 (fun i s => s.modTile (i + 1) fun t => { t with waking := t.waking.map (· + (old : Int)) }) s
  let s := match s.pws.waking with
    | some t =>
      let s := s.lullLinks
      if 160000 ≤ t ∧ !s.pws.up then (forEach 7 (fun i (s : State) => s.undozeTile (i + 1)) s).modPws fun x => { x with up := true } else s
    | none => s
  (if s.pwState ≤ 1 then s.setPwState s.awake else s).setF PWS_BLOCK ⟨7, 0⟩ s.block

end Sys2Proof.Machine
end

