-- ==== Sys2Proof/Machine/Update.lean ====
section
/-! DEFINITION. The boot flash, the image, and the firmware update (R426 to R449). -/

namespace Sys2Proof.Machine

/-! ### Boot flash and images (R426 to R428, R416) -/

def State.flashByte (s : State) (a : Nat) : Nat := Tab.get 0xFF s.flash a

/-- `n` bytes of the flash from address `a`. -/
def State.flashBytes (s : State) (a n : Nat) : List Nat := (List.range n).map fun i => s.flashByte (a + i)

/-- Bytes as a number, most significant first (R427). -/
def beNat (l : List Nat) : Nat := l.foldl (fun n b => n * 256 + b) 0

/-- The byte address of an image slot: 0 A, 1 B. -/
def slotBase (k : Nat) : Nat := k * 0x800000

/-- The byte address of a settings area. -/
def settingsBase (a : Nat) : Nat := 0x1000000 + a * 0x40000

/-- Bytes of a flash range take other values. -/
def State.flashPut (s : State) (a : Nat) (l : List Nat) : State :=
  { s with flash := l.zipIdx.foldl (fun t b => Tab.set 0xFF t (a + b.2) (b.1 % 256)) s.flash }

/-- A range of the flash is erased. -/
def State.flashErase (s : State) (a n : Nat) : State :=
  { s with flash := s.flash.filter fun b => !(decide (a ≤ b.1) && decide (b.1 < a + n)) }

/-- A field of a slot's image header (R427). -/
def State.hdr (s : State) (slot ofs n : Nat) : Nat := beNat (s.flashBytes (slotBase slot + ofs) n)

def State.imgKey (s : State) (slot : Nat) : Nat := s.hdr slot 5 1
def State.imgVersion (s : State) (slot : Nat) : Nat := s.hdr slot 8 3
def State.imgBase (s : State) (slot : Nat) : Nat := s.hdr slot 11 3
def State.imgFmt (s : State) (slot : Nat) : Nat := s.hdr slot 14 2
def State.imgLength (s : State) (slot : Nat) : Nat := s.hdr slot 16 4

/-- Offset and length of a section of a slot's image (R427, R428). -/
def State.section_ (s : State) (slot k : Nat) : Nat × Nat := (s.hdr slot (116 + 8 * k) 4, s.hdr slot (120 + 8 * k) 4)

/-- Is the header of a slot's image right (R427), with a key slot from 0 to 3? -/
def State.headerOk (s : State) (slot : Nat) : Bool :=
  s.hdr slot 0 4 == 0x4C4D5244 && s.hdr slot 4 1 == 1 && s.hdr slot 6 2 == 0x8800
    && decide (4096 ≤ s.imgLength slot) && decide (s.imgLength slot ≤ 8388608) && decide (s.imgKey slot ≤ 3)

/-- A key-hash slot as a number, its word 0 most significant (R445). -/
def State.keyHash (s : State) (k : Nat) : Nat := (List.range 16).foldl (fun n w => n * 2 ^ 24 + (Tab.get 0 s.otp.keys (16 * k + w)).toNat) 0

/-- The digest of a slot's image (R427). -/
def State.imgDigest (s : State) (slot : Nat) : Nat :=
  sha384 (s.flashBytes (slotBase slot) 320 ++ s.flashBytes (slotBase slot + 512) (s.imgLength slot - 512))

/-- The first check of R416 that a slot's image fails, 1 to 5; 0 where it passes. -/
def State.verifySlot (s : State) (slot : Nat) : Nat :=
  if !s.headerOk slot then 1
  else if s.otp.revoked.testBit (s.imgKey slot) then 2
  else if sha384 (s.flashBytes (slotBase slot + 20) 96) ≠ s.keyHash (s.imgKey slot) then 3
  else if s.imgDigest slot ≠ s.hdr slot 320 48 then 4
  else if !ecdsaOk (s.hdr slot 20 48, s.hdr slot 68 48) (s.hdr slot 320 48) (s.hdr slot 368 48) (s.hdr slot 416 48) then 5
  else 0

/-- `n` bundles of 8 bytes in the flash from address `a`. -/
def State.flashBundles (s : State) (a n : Nat) : List (BitVec 64) :=
  (List.range n).map fun i => BitVec.ofNat 64 (beNat (s.flashBytes (a + 8 * i) 8))

/-- The steward code of a slot's image (R428). -/
def State.imgSteward (s : State) (slot : Nat) : List (BitVec 64) :=
  let c := s.section_ slot 0
  s.flashBundles (slotBase slot + c.1) (min 32768 (c.2 / 8))

/-- The program that a slot's image gives a lane, empty where it gives none (R428). -/
def State.imgProgram (s : State) (slot l : Nat) : List (BitVec 64) :=
  let c := s.section_ slot 1
  if c.2 = 0 then []
  else
    let e := Config.laneEntry (beNat (s.flashBytes (slotBase slot + c.1 + 4 * l) 4))
    s.flashBundles (slotBase slot + c.1 + e.1) (min 4096 e.2)

/-- Does a slot's image give a lane a program? -/
def State.imgHasLane (s : State) (slot l : Nat) : Bool :=
  let c := s.section_ slot 1
  c.2 != 0 && (Config.laneEntry (beNat (s.flashBytes (slotBase slot + c.1 + 4 * l) 4))).2 != 0

/-- The initial content that a slot's image gives a tile's coefficient and table RAM: the section holds the tiles' contents one
after the other, of one length, three bytes a word (R428, log entry 60). -/
def State.imgCoeff (s : State) (slot n : Nat) : List Word :=
  let c := s.section_ slot 2
  let w := min 65536 (c.2 / 24)
  (List.range w).map fun i => BitVec.ofNat 24 (beNat (s.flashBytes (slotBase slot + c.1 + (n * w + i) * 3) 3))

/-- The words of a handover map of a slot's image, entry by entry (R428, R435). -/
def State.imgMap (s : State) (slot k : Nat) : List (Nat × Nat × Nat) :=
  let c := s.section_ slot k
  let w (i : Nat) : Nat := beNat (s.flashBytes (slotBase slot + c.1 + 3 * i) 3)
  (List.range (c.2 / 9)).map fun i => (w (3 * i), w (3 * i + 1), w (3 * i + 2))

/-- A map entry has a reserved OP, or names a lane that the image gives no program (R433). -/
def State.mapErr (s : State) (slot k : Nat) : Bool :=
  (s.imgMap slot k).any fun e => decide (3 ≤ e.1 / 2 ^ 21) || (!e.1.testBit 20 && !s.imgHasLane slot (e.1 % 128))

/-- The moves of a map for a lane (R435). -/
def State.laneMoves (s : State) (slot k l : Nat) : List HandMove :=
  ((s.imgMap slot k).filter fun e => e.1.testBit 20 || e.1 % 128 == l).map fun e =>
    ⟨e.1 / 2 ^ 21, e.2.1 / 4096, e.2.1 % 4096, BitVec.ofNat 24 e.2.2⟩

/-- The version of the running image (R425). -/
def State.runVersion (s : State) : Nat := (s.rd BOOT_IMG).toNat

/-! ### Boot record (R443) -/

/-- The boot record copy in force. -/
def UpdSt.bootRec (u : UpdSt) : Option BootRec := u.recs.newest BootRec.words (·.seq)

/-- The confirmed slot: slot A where no copy of the boot record is valid (R415; log entry 92 for a tile's reload). -/
def State.confSlot (s : State) : Nat := match s.upd.bootRec with | some r => r.cslot | none => 0

/-- Word 1 of the boot record in force, as UPD_BOOTREC shows it (R443, R449). -/
def State.bootRecWord (s : State) : Nat :=
  match s.upd.bootRec with
  | some r => (r.words.getD 1 0).toNat
  | none => 0

/-- A boot record is written into the other copy, with the next sequence number (R209, R443). -/
def State.bootRecWrite (s : State) (f : BootRec → BootRec) : State :=
  let r := (s.upd.bootRec).getD ⟨0, false, 0, 0, 0, 0, s.runVersion⟩
  { s with upd := { s.upd with recs := s.upd.recs.put BootRec.words (·.seq) (some { f r with seq := (r.seq + 1) % 2 ^ 24 }) } }

/-! ### States (R429) -/

def State.updState (s : State) : Nat := s.getF UPD_STAT UPD_STAT_STATE
def State.setUpd (s : State) (v : Nat) : State := s.setF UPD_STAT UPD_STAT_STATE v
def State.updErr (s : State) (e : Nat) : State := s.setF UPD_STAT UPD_STAT_ERR e

/-- The running slot and the target slot (R430). -/
def State.runSlot (s : State) : Nat := s.getF BOOT_STAT BOOT_STAT_SLOT
def State.target (s : State) : Nat := 1 - s.runSlot

/-- A command that the state does not accept (R429). -/
def State.updWrong (s : State) : State × Bool := (s.updErr 1, false)

/-! ### Download (R430, R431) -/

/-- A failed program or erase (R431). -/
def State.flashFail (s : State) (cyc : Nat) : State :=
  { ((s.updErr 8).setUpd 0).raise UPD_FLASH_ERR 0xFF cyc with upd := { s.upd with dl := none } }

/-- OPEN (R430): the header sector of the target slot is erased and a download starts; `ok`: the erase succeeds. -/
def State.updOpen (s : State) (ok : Bool) (cyc : Nat) : State × Bool :=
  if s.updState = 0 ∨ s.updState = 2 ∨ s.updState = 4 then
    let s := s.setF UPD_STAT UPD_STAT_SLOT s.target
    if ok then
      let s := (s.flashErase (slotBase s.target) 4096).setUpd 1
      ({ s with upd := { s.upd with dl := some {} } }, true)
    else (s.flashFail cyc, true)
  else s.updWrong

/-- The length of the image that a download brings, as its header says; that of the slot until it says so (log entry 61). -/
def DlSt.length (d : DlSt) : Nat :=
  let n := beNat ((d.head.drop 16).take 4)
  if d.head.length < 20 ∨ n < 4096 ∨ 8388608 < n then 8388608 else n

/-- One byte of a download (R431): the first 512 are held, the others written, each sector erased before its first write. -/
def State.dlByte (s : State) (b : Nat) : State :=
  match s.upd.dl with
  | none => s
  | some d =>
    if d.length ≤ d.exp then s
    else if d.exp < 512 then { s with upd := { s.upd with dl := some { d with exp := d.exp + 1, head := d.head ++ [b % 256] } } }
    else
      let k := d.exp / 4096
      let s := if d.erased < k then s.flashErase (slotBase s.target + 4096 * k) 4096 else s
      { s.flashPut (slotBase s.target + d.exp) [b] with upd := { s.upd with dl := some { d with exp := d.exp + 1, erased := max d.erased k } } }

/-- The last byte is written: the header follows and the download is complete (R431). -/
def State.dlSettle (s : State) : State :=
  match s.upd.dl with
  | none => s
  | some d => if d.length ≤ d.exp ∧ s.updState = 1 then (s.flashPut (slotBase s.target) d.head).setUpd 2 else s

/-- The durable offset (R431). -/
def State.durable (s : State) : Nat := match s.upd.dl with | some d => d.exp | none => 0

/-- Bytes of a download arrive with their offset; false where they are not the next ones and are discarded (R431). `ok`: the
flash takes them. -/
def State.dlWrite (s : State) (ofs : Nat) (l : List Nat) (ok : Bool) (cyc : Nat) : State × Bool :=
  if s.updState ≠ 1 ∨ s.durable ≠ ofs then (s, false)
  else if !ok then (s.flashFail cyc, true)
  else ((forList l (fun b s => s.dlByte b) s).dlSettle, true)

/-- A write of UPD_DL_DATA (R430): three bytes at UPD_DL_ADDR, which advances by 3. -/
def State.dlDataWrite (s : State) (w : Word) (ok : Bool) (cyc : Nat) : State :=
  let a := s.rdPair UPD_DL_ADDR_LO UPD_DL_ADDR_HI
  let s := s.wr UPD_DL_DATA w
  let r := s.dlWrite a (wordBytes w) ok cyc
  if r.2 then r.1.wrPair UPD_DL_ADDR_LO UPD_DL_ADDR_HI ((a + 3) % 2 ^ 32) else r.1

/-! ### Verify (R432) -/

def State.updVerify (s : State) : State × Bool :=
  if s.updState = 2 then ((s.setUpd 3).setF UPD_STAT UPD_STAT_CHECK 0, true) else s.updWrong

/-- UPD_VERIFY_COMPLETE (R432): the checks of R416 on the target slot, read back from flash, pass or fail. -/
def execUpdVerifyComplete (cyc : Nat) (s : State) : Host.Outcome State Fault Refusal :=
  .next (
    if s.updState ≠ 3 then s
    else
      let c := s.verifySlot s.target
      if c = 0 then
        let v := s.imgVersion s.target
        ((s.setUpd 4).wr UPD_VER_NEW (BitVec.ofNat 24 v)).record 0x060 0xFF v s.target
      else
        (((s.setUpd 2).setF UPD_STAT UPD_STAT_CHECK c).updErr 2).raise UPD_VERIFY_FAIL 0xFF cyc)

/-! ### Activate (R433, R434, R438) -/

/-- The lanes that the target image gives a program. -/
def State.imgLanes (s : State) : List Nat := (List.range 128).filter (s.imgHasLane s.target)

/-- The first cause that refuses ACTIVATE, 0 where none does (R433). -/
def State.activateErr (s : State) : Nat :=
  let t := s.target
  if s.flag BOOT_STAT BOOT_STAT_FALLBACK then 1
  else if s.imgBase t ≠ 0 ∧ s.imgBase t ≠ s.runVersion then 3
  else if (s.section_ t 4).2 = 0 then 4
  else if s.mapErr t 3 || s.mapErr t 4 then 5
  else 0

/-- ACTIVATE (R433, R434): an accepted activation starts with the lanes and the maps of the image. -/
def State.updActivate (s : State) : State × Bool :=
  if s.updState ≠ 4 then s.updWrong
  else
    let e := s.activateErr
    if e ≠ 0 then (s.updErr e, false)
    else
      let t := s.target
      let ls := s.imgLanes
      let tab (k : Nat) : Tab (List HandMove) := ls.foldl (fun a l => Tab.set [] a l (s.laneMoves t k l)) []
      ({ s.setUpd 5 with upd := { s.upd with lanes := ls, fwd := tab 3, rev := tab 4, revCost := [] } }, true)

/-- A program goes into a bank of a lane. -/
def State.putProgram (s : State) (c bank : Nat) (l : List (BitVec 64)) : State :=
  let s := { s with extent := Tab.set none s.extent (c * 2 + bank) none }
  l.zipIdx.foldl (fun s b => s.putBundle c bank b.2 b.1) s

/-- The first lane that step 2 or 3 of R434 refuses, with its error. -/
def State.activationRefusal (s : State) (ls : List Nat) : Option (Nat × Nat) :=
  ls.findSome? fun l =>
    let b := s.loadBudget
    if !s.flag (LAN_STAT l) LAN_STAT_INACT_OK then some (6, l)
    else if b < s.getF (LAN_COST l) LAN_COST_CYCLES + (s.moves 1 l).length then some (6, l)
    else if b < s.getF (LAN_COST_INACT l) LAN_COST_INACT_CYCLES + (s.moves 2 l).length then some (4, l)
    else none

/-- The settings area that the activation does not use takes the current settings, or the new image's defaults (R438). -/
def State.settingsFill (s : State) : State :=
  let cur := match s.upd.bootRec with | some r => r.cset | none => 0
  let t := s.target
  let s1 := s.flashErase (settingsBase (1 - cur)) 0x40000
  if s.imgFmt t = s.imgFmt s.runSlot then
    let l := (s.flash.filter fun b => decide (settingsBase cur ≤ b.1) && decide (b.1 < settingsBase cur + 0x40000))
    { s1 with flash := l.foldl (fun f (b : Nat × Nat) => Tab.set 0xFF f (b.1 - settingsBase cur + settingsBase (1 - cur)) b.2) s1.flash }.setF
      UPD_STAT UPD_STAT_SETNEW 0
  else
    let c := s.section_ t 5
    (s1.flashPut (settingsBase (1 - cur)) (s.flashBytes (slotBase t + c.1) (min 0x40000 c.2))).setF UPD_STAT UPD_STAT_SETNEW 1

/-- The bank switch of an activation is scheduled. -/
def State.activationSwitch (s : State) : Bool := match s.switch with | some r => r.kind == 1 | none => false

/-- ACTIVATION_CHECKS_DONE (R434): steps 1 to 3 are complete: the code is in the inactive banks and is checked, and the switch is
scheduled or the activation ends. -/
def execActivationChecksDone (s : State) : Host.Outcome State Fault Refusal :=
  .next (
    if s.updState ≠ 5 ∨ s.activationSwitch then s
    else
      let t := s.target
      let code := s.imgSteward t
      let ls := s.upd.lanes
      let s := forEach 8 (fun n s =>
        if s.tileDown n then s
        else
          let b := 1 - (s.core (128 + n)).bank
          (s.putProgram (128 + n) b code).modCore (128 + n) fun c => { c with verified := Tab.set false c.verified b true }) s
      let s := forList ls (fun l s => (s.putProgram l (1 - s.bankOf l) (s.imgProgram t l)).loadJudge l) s
      match s.activationRefusal ls with
      | some (e, l) => (s.wr UPD_LANE (BitVec.ofNat 24 l)).activationEnds e
      | none =>
        if s.switch.isSome then s.activationEnds 7
        else
          let s := { s with upd := { s.upd with revCost := ls.foldl (fun a l =>
            Tab.set 0 a l (s.getF (LAN_COST_INACT l) LAN_COST_INACT_CYCLES + (s.moves 2 l).length)) [] } }
          let s := forEach 128 (fun l s => s.setF (LAN_CTL l) LAN_CTL_SWITCH_SEL (b2n (ls.contains l))) s.settingsFill
          s.switchRequest ⟨1, true, s.flag UPD_CTL UPD_CTL_WHEN, s.rdPair UPD_AT_LO UPD_AT_HI, none, false, ls⟩)

/-- ABORT (R429): a download or an activation before its switch is scheduled is abandoned. -/
def State.updAbort (s : State) : State × Bool :=
  let st := s.updState
  if st = 1 ∨ st = 2 ∨ st = 4 then ({ s.setUpd 0 with upd := { s.upd with dl := none } }, true)
  else if st = 5 ∧ !s.activationSwitch then (s.activationEnds (s.getF UPD_STAT UPD_STAT_ERR), true)
  else s.updWrong

/-- The running image is the one of a slot. -/
def State.runImage (s : State) (slot : Nat) : State :=
  let s := (s.setF BOOT_STAT BOOT_STAT_SLOT slot).wr BOOT_IMG (BitVec.ofNat 24 (s.imgVersion slot))
  (s.setF BOOT_KEY BOOT_KEY_SLOT (s.imgKey slot)).setF UPD_STAT UPD_STAT_SLOT (1 - slot)

/-- The S of an activation's switch, in tick `k` (R437): the trial begins. -/
def State.trialStart (s : State) (k : Nat) : State :=
  let old := s.runVersion
  let t := s.target
  let s := s.bootRecWrite fun r => { r with trial := true, tslot := t, tset := 1 - r.cset }
  let s := (s.runImage t).setUpd 6
  let s := (s.setF UPD_STAT UPD_STAT_ENTRY 1).setF UPD_REMAIN UPD_REMAIN_SEC (s.getF UPD_WIN UPD_WIN_SEC)
  { s with upd := { s.upd with dl := none, sub := 0, confirming := false } }.recordAt k 0x061 0xFF (s.runVersion) old

/-- The S of a reverse switch (R441): the trial is over. -/
def State.trialOver (s : State) : State :=
  let s := s.bootRecWrite fun r => { r with trial := false }
  let s := s.runImage s.target
  let s := (s.setUpd 0).setF UPD_STAT UPD_STAT_ENTRY 2
  (s.setF UPD_REMAIN UPD_REMAIN_SEC 0).setF UPD_STAT UPD_STAT_SETNEW 0

/-! ### Confirm and fall back (R439 to R441) -/

/-- A write of UPD_CONFIRM (R439): from a steward's port, with the key, during TRIAL; its rights are checked before. -/
def State.updConfirm (s : State) (port : Nat) (w : Word) : State × Bool :=
  if 13 ≤ port ∧ port ≤ 20 ∧ w = 0x3CC3A5 ∧ s.updState = 6 then ({ s with upd := { s.upd with confirming := true } }, true) else (s, false)

/-- UPD_CONFIRM_COMPLETE (R439): the confirmation's boot record write completes. -/
def execUpdConfirmComplete (s : State) : Host.Outcome State Fault Refusal :=
  .next (
    if s.upd.confirming ∧ s.updState = 6 then
      let v := s.runVersion
      let used := s.getF UPD_WIN UPD_WIN_SEC - s.getF UPD_REMAIN UPD_REMAIN_SEC
      let s := s.bootRecWrite fun r => { r with trial := false, cslot := s.runSlot, cset := r.tset, ver := v }
      let s := (s.setUpd 0).setF UPD_REMAIN UPD_REMAIN_SEC 0
      { s with upd := { s.upd with confirming := false } }.record 0x062 0xFF v used
    else s)

/-- The device decides to fall back, with a reason (R440, R441); a bank switch that host software scheduled gives way (log entry 61). -/
def State.fallBack (s : State) (reason cyc : Nat) : State :=
  if s.updState ≠ 6 then s
  else
    let s := ((s.setUpd 7).setF UPD_STAT UPD_STAT_FB_REASON reason).raise UPD_FALLBACK 0xFF cyc
    let s := (s.record 0x063 0xFF (s.runVersion) reason).rateCancel
    let s := match s.switch with
      | some r => if r.kind = 0 then s.switchCancel false else s
      | none => s
    { s with upd := { s.upd with confirming := false } }.fallbackSwitch

/-- The reason for a fallback that the state shows (R440): a tier-3 event was classified, or a tile is in reset. -/
def State.fallbackDue (s : State) : Option Nat :=
  if s.flt.top = 4 ∧ s.flag UPD_CTL UPD_CTL_FB_T3 then some 3
  else if (List.range 8).any s.tileDown then some 4
  else none

/-- FALLBACK (R440, R441): the device falls back for a reason that the state shows. -/
def execFallback (cyc : Nat) (s : State) : Host.Outcome State Fault Refusal :=
  .next (match s.fallbackDue with | some r => s.fallBack r cyc | none => s)

/-- CONFIRM_WINDOW_EXPIRE (R440): the confirm window has run out. -/
def execConfirmWindowExpire (cyc : Nat) (s : State) : Host.Outcome State Fault Refusal :=
  .next (if s.getF UPD_REMAIN UPD_REMAIN_SEC = 0 ∧ !s.upd.confirming then s.fallBack 1 cyc else s)

/-- The confirm window counts seconds of operation (R440): `n` lane cycles have passed. -/
def State.trialTick (s : State) (n : Nat) : State :=
  if s.updState ≠ 6 then s
  else
    let t := s.upd.sub + n
    let s := s.setF UPD_REMAIN UPD_REMAIN_SEC (s.getF UPD_REMAIN UPD_REMAIN_SEC - t / 800000000)
    { s with upd := { s.upd with sub := t % 800000000 } }

/-- FALLBACK_TIMEOUT (R441): no reverse switch within 1 s of the decision: a package reset is requested. -/
def execFallbackTimeout (s : State) : Host.Outcome State Fault Refusal :=
  .next (
    if s.updState = 7 then
      let s := s.setF UPD_STAT UPD_STAT_FB_REASON 5
      { s with boot := { s.boot with reset := max 1 s.boot.reset } }
    else s)

/-- REJECT (R440). -/
def State.updReject (s : State) (cyc : Nat) : State × Bool :=
  if s.updState = 6 then (s.fallBack 2 cyc, true) else s.updWrong

/-- A write of UPD_CMD (R429, R449): each command bit that is 1, lowest first. -/
def State.updCmd (s : State) (w : Word) (ok : Bool) (cyc : Nat) : State × Bool :=
  let run (on : Bool) (f : State → State × Bool) (x : State × Bool) : State × Bool :=
    if on then let r := f x.1; (r.1, x.2 && r.2) else x
  let x := run (UPD_CMD_OPEN.on w) (fun s => s.updOpen ok cyc) (s, true)
  let x := run (UPD_CMD_VERIFY.on w) State.updVerify x
  let x := run (UPD_CMD_ACTIVATE.on w) State.updActivate x
  let x := run (UPD_CMD_ABORT.on w) State.updAbort x
  run (UPD_CMD_REJECT.on w) (fun s => s.updReject cyc) x

/-! ### Keys (R445, R446) -/

/-- A write of UPD_KEY_DATA (R445): programmed bits stay 1; word 15 completes the slot; a complete slot refuses it. -/
def State.keyProgram (s : State) (w : Word) : State × Bool :=
  let a := s.getF UPD_KEY_ADDR UPD_KEY_ADDR_ADDR
  let k := a / 16
  if s.otp.prog.testBit k then (s, false)
  else
    let s := { s with otp := { s.otp with keys := Tab.set 0 s.otp.keys a (Tab.get 0 s.otp.keys a ||| w) } }
    if a % 16 = 15 then ({ s with otp := { s.otp with prog := s.otp.prog ||| 2 ^ k } }.record 0x064 0xFF k 0, true) else (s, true)

/-- A write of UPD_REVOKE (R446). -/
def State.keyRevoke (s : State) (w : Word) : State × Bool :=
  let s := s.setF UPD_REVOKE UPD_REVOKE_SLOT (UPD_REVOKE_SLOT.get w)
  if !UPD_REVOKE_GO.on w ∨ UPD_REVOKE_CONFIRM.get w ≠ 0x96 then (s, true)
  else
    let k := UPD_REVOKE_SLOT.get w
    let conf := s.confSlot
    let other := (List.range 4).any fun j => j != k && s.otp.prog.testBit j && !s.otp.revoked.testBit j
    if k = s.getF BOOT_KEY BOOT_KEY_SLOT ∨ k = s.imgKey conf ∨ !other then (s, false)
    else ({ s with otp := { s.otp with revoked := s.otp.revoked ||| 2 ^ k } }.record 0x065 0xFF k 0, true)

end Sys2Proof.Machine
end

