-- ==== Sys2Proof/Machine/Boot.lean ====
section
/-! DEFINITION. Resets, start-up, Keeper, and the reset of one tile (R24 to R28, R195, R196, R405, R406, R410 to R425). -/

namespace Sys2Proof.Machine

/-! ### What a reset of the package keeps (R421) -/

/-- The recorder after a package-level reset: what MRAM keeps, and the buffer unless power was lost (R370, R421). -/
def RecSt.kept (x : RecSt) (power : Bool) : RecSt :=
  let save := x.newest
  { perm := x.perm, rolling := x.rolling, bad := x.bad, copies := x.copies,
    buf := if power then [] else x.buf,
    next := x.next, base := x.base,
    hours := if power then (match save with | some c => c.hours | none => 0) else x.hours,
    cycles := if power then min 0xFFFFFF ((match save with | some c => c.cycles | none => 0) + 1) else x.cycles,
    clears := if power then (match save with | some c => c.clears | none => 0) else x.clears }

/-- Registers that a package-level reset keeps (R421): the keeper domain, except where power was lost; the watchdog's last cause, after
a watchdog or a package reset; the stagger address, which MRAM holds. -/
def State.keptRegs (s : State) (kind : Nat) : List Loc :=
  [FUS_STG_ADDR] ++ (if kind = 0 then [] else [PWS_KEEP 0, PWS_KEEP 1, PWS_KEEP 2, PWS_KEEP 3]) ++ (if 2 ≤ kind then [WDG_STAT] else [])

/-- The package after a reset of kind 0 power-on, 1 pin, 2 watchdog, 3 package, before its boot (R421, R422): what is not kept returns
to its reset value, and the rights map is loaded (R337). A reset during a boot records the first kind in that order. -/
def State.packReset (s : State) (kind : Nat) : State :=
  let s := if kind = 0 then s else s.enterRecords
  let keep := (s.keptRegs kind).map fun l => (l, if l = WDG_STAT then WDG_STAT_CAUSE.put (resetWord l.addr) (WDG_STAT_CAUSE.get (s.rd l)) else s.rd l)
  let booting := !s.boot.running && !s.pws.keeper && !s.recovering
  let strings := s.strings.foldl (fun (t : Tab StringSt) e => Tab.set {} t e.1 { copies := e.2.copies }) []
  let ports := s.ports.foldl (fun (t : Tab PortSt) e => Tab.set {} t e.1 { fltLow := e.2.fltLow, drvHold := e.2.fltLow }) []
  let z : State :=
    { pending := s.pending, free := s.free, otp := s.otp, flash := s.flash, strings := strings, ports := ports,
      age := { copies := s.age.copies },
      mgt := { saves := s.mgt.saves, bulk := s.mgt.newest.bind (·.bulk), recs := s.mgt.newest.bind (·.recs) },
      trp := { map := s.trp.map, mapEpoch := s.trp.mapEpoch, uid := s.trp.uid },
      upd := { dl := s.upd.dl, recs := s.upd.recs },
      cap := { pin := s.cap.pin }, hld := { pinLow := s.hld.pinLow, rel := none }, pws := { wakePin := s.pws.wakePin, woke := kind != 0 && booting && s.pws.woke },
      wdg := { pulse := if kind = 0 then none else s.wdg.pulse, owed := kind != 0 && s.wdg.owed },
      rcd := { s.rcd.kept (kind == 0) with strmAck := ((s.mgt.newest.bind (·.recs)).map (·.durable)).getD 0 }, boot := { kind := if booting then min s.boot.kind kind else kind } }
  let z := forList keep (fun e z => z.wr e.1 e.2) z
  let z := forList s.ports (fun e z => if e.2.fltLow then z.setF (STG_STAT e.1) STG_STAT_DRV_FLT 1 else z) z
  let z := if kind = 0 then z else z.setF PWS_STAT PWS_STAT_KWAKE (s.getF PWS_STAT PWS_STAT_KWAKE)
  z.rightsLoad

/-- POWER_ON_RESET (R411, R421): a supply falls below its monitor threshold. In Keeper the board may remove those supplies: the keeper
domain goes on, and WAKE alone wakes (R405, log entry 81). -/
def execPowerOnReset (s : State) : Host.Outcome State Fault Refusal := .next (if s.pws.keeper then s else s.packReset 0)

/-- PIN_RESET (R411, R421): RESET_N is low for 1 µs. -/
def execPinReset (s : State) : Host.Outcome State Fault Refusal := .next (s.packReset 1)

/-- A write of BOOT_CMD (R420): PKG_RST with its CONFIRM requests a package reset. -/
def State.bootCmd (s : State) (w : Word) : State :=
  if BOOT_CMD_PKG_RST.on w ∧ BOOT_CMD_CONFIRM.get w = 0x3C then { s with boot := { s.boot with reset := max 1 s.boot.reset } } else s

/-- At S, a requested package reset starts its flush (R420). -/
def State.resetFlush (s : State) : State :=
  if s.boot.reset = 1 then { s with boot := { s.boot with reset := 2 } }.flushStart else s

/-- PACKAGE_RESET (R420): its flush has completed; in recovery, where no tick runs, it follows the request at once. -/
def execPackageReset (s : State) : Host.Outcome State Fault Refusal :=
  .next (
    if (s.boot.reset = 2 ∧ !s.rcd.flushing) ∨ (s.boot.reset = 1 ∧ !s.boot.running) then s.packReset 3 else s)

/-- WDO_PULSE_END (R358): WDO_N is released; with ACT 0b10 a watchdog reset follows. -/
def execWdoPulseEnd (s : State) : Host.Outcome State Fault Refusal :=
  .next (
    match s.wdg.pulse with
    | none => s
    | some _ =>
      let reset := s.flag WDG_STAT WDG_STAT_EXPIRED && s.getF WDG_CTL WDG_CTL_ACT == 2
      let s := s.modWdg fun w => { w with pulse := none }
      if reset then s.packReset 2 else s)

/-! ### Code and coefficients of a tile (R27, R414, R418) -/

/-- A lane gets its program from a slot's image in bank 0, checked against a budget (R418). -/
def State.loadLane (s : State) (slot budget l : Nat) : State :=
  let p := s.imgProgram slot l
  if p.isEmpty then s
  else
    let s := (s.setF (LAN_STAT l) LAN_STAT_BANK 0).putProgram l 0 p
    let r := s.checkBank l 0 budget
    if r.1 = 0 then (s.setF (LAN_STAT l) LAN_STAT_ACT_OK 1).setF (LAN_COST l) LAN_COST_CYCLES r.2
    else ((s.setF (LAN_STAT l) LAN_STAT_ACT_OK 0).refuseLoad l r.1).raise BOOT_LANE_REFUSED l 0

/-- A tile's steward gets its code and starts, and the tile its coefficients and its lanes' programs (R27, R414, R428). -/
def State.loadTile (s : State) (slot budget n : Nat) : State :=
  let s := (s.putProgram (128 + n) 0 (s.imgSteward slot)).modCore (128 + n) fun c =>
    ({ c with verified := Tab.set false [] 0 true }).stewardEnters 0
  let s := (s.imgCoeff slot n).zipIdx.foldl (fun (s : State) e => { s with cram := Tab.set 0 s.cram (n * 65536 + e.2) e.1 }) s
  forEach 16 (fun i s => s.loadLane slot budget (16 * n + i)) s

/-- LAN_CTL.RUN of a lane as the settings have it, 0 where its program was refused (R418, R419). -/
def State.setRun (s : State) (l : Nat) : State :=
  let on := s.boot.runs.contains l && !s.flag (LAN_STAT l) LAN_STAT_REFUSED && !s.flag BOOT_STRAP BOOT_STRAP_INTEG
  (s.setF (LAN_CTL l) LAN_CTL_RUN (b2n on)).modCore l fun c => { c with runOn := on }

/-! ### Settings (R419) -/

/-- The bits of a register that settings can load: its writable fields, but for those that read 0. -/
def Loc.loadMask (l : Loc) : Nat :=
  match l.desc with
  | some d => d.fields.foldl (fun m f => if f.acc = .rw ∨ f.acc = .wt then m + (2 ^ (f.fld.hi - f.fld.lo + 1) - 1) * 2 ^ f.fld.lo else m) 0
      &&& (0xFFFFFF - l.commandBits)
  | none => 0

/-- A port whose personality the settings give takes its defaults, before the settings that set classifications (R197, R349). -/
def State.settingPers (s : State) (e : Nat × Nat) : State :=
  match locate e.1 with
  | some (.port p 0) => let v := STG_CTL_PERS.get (BitVec.ofNat 24 e.2)
    if v = 0 then s else s.persClasses p v
  | _ => s

/-- One register word of the settings comes into force, without the effects that a later write has: EN starts ports later, RUN is set
with the lane's program, a personality and a classification hold from the first tick (log entry 62); an ENV_ field is only tightened (R230). -/
def State.setting (s : State) (e : Nat × Nat) : State :=
  match locate e.1 with
  | none => s
  | some l =>
    let m := BitVec.ofNat 24 l.loadMask
    let w := (s.rd l &&& ~~~m) ||| (BitVec.ofNat 24 e.2 &&& m)
    match l with
    | .port p 0 =>
      let w' := STG_CTL_EN.put w 0
      let s := (s.wr l w').modPort p fun x => { x with persNow := STG_CTL_PERS.get w }
      if STG_CTL_EN.on w then { s with boot := { s.boot with auto := s.boot.auto ++ [p] } } else s
    | .lane p 0 => if LAN_CTL_RUN.on w then { s with boot := { s.boot with runs := s.boot.runs ++ [p] } } else s
    | .bus b 0 => s.twbCtlWrite b w 0
    | .pkg 0x100 => { s.wr l w with mer := { s.mer with srcNow := MER_CTL_SRC.get w } }
    | .pkg 0x102 => s
    | .fcls x => (s.wr l w).classSet x (Cls.ofWords w (s.rd (FLT_SRC x)))
    | .fsrc x => (s.wr l w).classSet x (Cls.ofWords (s.rd (FLT_CLS x)) w)
    | .port p o => if 0x80 ≤ o ∧ o ≤ 0x87 then s.envTake p o (tighten o (s.rd l) (BitVec.ofNat 24 e.2)).1 0 else s.wr l w
    | _ => s.wr l w

/-- The settings' words that set fault classifications are kept, for a tile that returns from reset (R350). -/
def State.keepClasses (s : State) (words : List (Nat × Nat)) : State :=
  let cls (e : Nat × Nat) : Bool := match locate e.1 with | some (.fcls _) => true | some (.fsrc _) => true | _ => false
  { s with boot := { s.boot with cls := words.filter cls } }

/-- The sources of tile `n` take their classification from the settings, those of a port the defaults of its personality first (R197,
R350). -/
def State.tileClasses (s : State) (n : Nat) : State :=
  let s := forEach 16 (fun i s => if s.pers (16 * n + i) = 0 then s else s.persClasses (16 * n + i) (s.pers (16 * n + i))) s
  let mine (e : Nat × Nat) : Bool := match locate e.1 with
    | some (.fcls x) => decide (512 ≤ x) && srcTile x == n
    | some (.fsrc x) => decide (512 ≤ x) && srcTile x == n
    | _ => false
  forList (s.boot.cls.filter mine) (fun e s => s.setting e) s

/-- The period of the first tick (R418). -/
def State.firstPeriod (s : State) (words : List (Nat × Nat)) : State :=
  let s := match words.find? fun e => e.1 == MER_PERIOD_REQ.addr with
    | none => s.setF MER_PERIOD MER_PERIOD_N 4000
    | some e =>
      let n := MER_PERIOD_REQ_N.get (BitVec.ofNat 24 e.2)
      if 2000 ≤ n ∧ n ≤ 16000 then (s.setF MER_PERIOD_REQ MER_PERIOD_REQ_N n).setF MER_PERIOD MER_PERIOD_N n
      else ((s.setF MER_PERIOD MER_PERIOD_N 4000).setF MER_STAT MER_STAT_RATE_REFUSED 1).wr MER_REFUSE 0x300
  (s.setF MER_BUDGET MER_BUDGET_B (budgetOf s.period)).setF PKG_ORDER PKG_ORDER_SCALE (scaleOf s.period)

/-- The stagger step and its basis: 2 value, 1 address, 0 strap (R195). -/
def State.stagger (s : State) : Nat × Nat :=
  if s.getF FUS_STG_CTL FUS_STG_CTL_SRC = 1 then (s.getF FUS_STG_CTL FUS_STG_CTL_VAL, 2)
  else if s.flag FUS_STG_ADDR FUS_STG_ADDR_VALID then (s.getF FUS_STG_ADDR FUS_STG_ADDR_ADDR % 256, 1)
  else (17 * s.getF BOOT_STRAP BOOT_STRAP_STAGGER, 0)

/-! ### Boot (R412 to R424) -/

/-- The update state after a reset (R429, R444): a download that was open goes on, a complete one can be verified. -/
def State.updBoot (s : State) : State :=
  match s.upd.dl with
  | none => s
  | some d => s.setUpd (if d.length ≤ d.exp then 2 else 1)

/-- Recovery (R415, R417); a download that was open goes on there too (R429). -/
def State.recover (s : State) (cause : Nat) : State :=
  let s := (s.setF BOOT_STAT BOOT_STAT_RCAUSE cause).setF BOOT_STAT BOOT_STAT_RECOVERY 1
  (s.setF BOOT_STAT BOOT_STAT_KIND s.boot.kind).updBoot

/-- Steps 2 and 3 of R415: the boot record, a trial pointer that is cleared; what the records of the first tick will say. -/
def State.bootRecord (s : State) : State × Option Nat :=
  match s.upd.bootRec with
  | none => (s.raise BOOT_RECORD_ERR 0xFF 0, none)
  | some r =>
    if r.trial then
      let n (k : Nat) : MramCopy BootRec := sealCopy BootRec.words { r with trial := false, seq := (r.seq + k) % 2 ^ 24 }
      ({ s.setF BOOT_STAT BOOT_STAT_TRIAL_INT 1 with upd := { s.upd with recs := ⟨some (n 1), some (n 2)⟩ } }, some r.tslot)
    else (s, none)

/-- What the first tick records of the boot, in order (R364, R423). -/
def State.bootRecords (s : State) (trial : Option Nat) (failed : Option (Nat × Nat)) (setDef : Option (Nat × Nat)) : State :=
  let s := s.record 0x001 0xFF s.boot.kind (s.getF WDG_STAT WDG_STAT_CAUSE)
  let s := if s.pws.woke then s.record 0x0A3 0xFF 0 0 else s
  let s := s.record 0x040 0xFF s.runVersion (s.runSlot + 4 * s.getF BOOT_KEY BOOT_KEY_SLOT)
  let s := match trial with | some t => s.record 0x041 0xFF t 0 | none => s
  let s := match failed with | some f => s.record 0x042 0xFF f.1 f.2 | none => s
  let s := match setDef with | some f => s.record 0x043 0xFF f.1 f.2 | none => s
  let g := s.stagger
  s.record 0x007 0xFF g.1 g.2

/-- A tick that follows a source from its first S on starts in ACQUIRE (R39, R42). -/
def State.firstLock (s : State) : State := if s.mer.srcNow = 0 then s else s.setLock 0 0

/-- May port `p` auto-start: the personality in force is allowed (R226, R231)? -/
def State.mayStart (s : State) (p : Nat) : Bool := (s.getF (ENV_PERS p) ENV_PERS_ALLOW).testBit (s.pers p)

/-- An auto-start that the envelope refuses (R226). -/
def State.startRefused (s : State) (p : Nat) : State := s.raise (tileSrc (p / 16) STG_PERS_REFUSED) p 0

/-- The ports that start without a write: those whose EN the settings hold, but for a lane whose program the boot refused (R196, R418). -/
def State.autoPorts (s : State) : List Nat := s.boot.auto.filter fun p => !s.flag (LAN_STAT p) LAN_STAT_REFUSED

/-- The first tick begins (R414 step 8, R39, R41, R47, R196, R355, R356, R370): count 0; the OR-ing and fan ports that auto-start turn ON, and
the others too where the stagger is 0; watchdog and ALIVE start. -/
def State.firstTick (s : State) : State :=
  let g := s.stagger
  let now (p : Nat) : Bool := g.1 == 0 || s.pers p == 2 || s.pers p == 4
  let auto := s.autoPorts
  let s := { s with mer := { s.mer with count := 0, phase := .sample, tickN := s.period }, boot := { s.boot with running := true } }
  let s := (s.wrPair MER_COUNT_LO MER_COUNT_HI 0).setF PKG_TILE_STAT PKG_TILE_STAT_RUN 255
  let s := forEach 128 (fun l s => s.setRun l) s
  let s := ((s.setF FUS_STG_STAT FUS_STG_STAT_STEP g.1).setF FUS_STG_STAT FUS_STG_STAT_BASIS g.2).setF FUS_STG_STAT FUS_STG_STAT_RUNNING
    (b2n (g.1 != 0))
  let s := s.firstLock
  let s : State := if s.wdg.owed then (s.raise WDG_EXPIRED 0xFF 0).modWdg fun w => { w with owed := false } else s
  let s := forList (auto.filter now) (fun p s => if s.mayStart p then (s.setF (STG_CTL p) STG_CTL_EN 1).portOn p else s.startRefused p) s
  let s := { s with mer := { s.mer with syncOut := s.syncOutNow } }
  let s := forEach 128 (fun p s => s.genTick p) s
  let s := { s with boot := { s.boot with auto := auto.filter fun p => !now p } }
  let s : State := { s.wdgServe with flt := { s.wdgServe.flt with aliveOn := true, sSeen := true } }
  if s.boot.kind = 0 then s else s.flushStart

/-- The image of a slot is booted (R414 steps 6 to 8, R418, R419). `other`: the confirmed slot failed this check. -/
def State.bootSlot (s : State) (b : BootIn) (slot : Nat) (trial : Option Nat) (other : Option (Nat × Nat)) : State :=
  let s := (s.runImage slot).setF BOOT_STAT BOOT_STAT_KIND s.boot.kind
  let s := match other with
    | some _ => (s.setF BOOT_STAT BOOT_STAT_FALLBACK 1).raise BOOT_IMAGE_FAIL 0xFF 0
    | none => s
  let own := b.crcOk && b.fmt == s.imgFmt slot
  let words := if own then b.words else b.defaults
  let s := if own then s else s.setF BOOT_STAT BOOT_STAT_SETDEF 1
  let s := if b.crcOk then s else s.raise BOOT_SETTINGS_ERR 0xFF 0
  let s := s.firstPeriod words
  let s := forEach 8 (fun n s => s.loadTile slot s.budget n) s
  let s := (s.envLoad (List.range 128)).recBoot 0
  let s := forList words (fun e s => s.settingPers e) (s.keepClasses words)
  let s := (forList words (fun e s => s.setting e) s).ageBoot 0
  let s := forEach 32 (fun u s => s.strBoot u) s
  let s := if b.integ then { s with boot := { s.boot with auto := [] } } else s
  let s := forEach 128 (fun p s => s.atlasApply true 0 p) (s.setF AGE_VREQ AGE_VREQ_MV 750)
  let s := b.dly.zipIdx.foldl (fun (s : State) e => if 1 ≤ e.2 ∧ e.2 < 8 then (s.wr (MER_TILE_DLY e.2) (BitVec.ofNat 24 (e.1 % 4096))).alignCheck e.2 e.1 0 else s) s
  let s := (s.setF BOOT_TIME BOOT_TIME_MS b.ms).updBoot
  (s.firstTick.bootRecords trial other (if own then none else some (if b.fmt = 0 then 0 else b.fmt, s.imgFmt slot))).reviseOwed

/-- BOOT (R412 to R419): at R the boot ROM runs the boot sequence, to the first tick or into recovery. A boot that PFAIL_N stopped
waits for a reset (R422). -/
def execBoot (b : BootIn) (s : State) : Host.Outcome State Fault Refusal :=
  .next (
    if s.boot.running || s.boot.halted || s.pws.keeper || s.recovering then s
    else
      let s := s.setF MER_STAT MER_STAT_REF_OK 1
      let s := (s.setF BOOT_STRAP BOOT_STRAP_BOOTSEL (b2n b.bootsel)).setF BOOT_STRAP BOOT_STRAP_INTEG (b2n b.integ)
      let s := (s.setF BOOT_STRAP BOOT_STRAP_STAGGER b.stagger).setF BOOT_STRAP BOOT_STRAP_ROLE (b2n b.role)
      let s := s.setF TRP_STAT TRP_STAT_ROLE (if b.role then 2 else 0)
      if b.bootsel then s.recover 1
      else
        let r := s.bootRecord
        let s := r.1
        let conf := s.confSlot
        if !b.flash then s.recover 4
        else
          let c := s.verifySlot conf
          if c = 0 then s.bootSlot b conf r.2 none
          else if s.verifySlot (1 - conf) = 0 then s.bootSlot b (1 - conf) r.2 (some (conf, c))
          else s.recover 2)

/-- BOOT_TIMEOUT (R414): no first tick within 500 ms of R: recovery with cause TIMEOUT. -/
def execBootTimeout (s : State) : Host.Outcome State Fault Refusal :=
  .next (if s.boot.running || s.boot.halted || s.pws.keeper || s.recovering then s else s.recover 3)

/-- STAGGER_EXPIRE (R196): the stagger has run: the other ports that auto-start turn ON at the next S. -/
def execStaggerExpire (s : State) : Host.Outcome State Fault Refusal :=
  .next (
    if !s.flag FUS_STG_STAT FUS_STG_STAT_RUNNING then s
    else
      let l := s.boot.auto
      let s := { s.setF FUS_STG_STAT FUS_STG_STAT_RUNNING 0 with boot := { s.boot with auto := [] } }
      forList l (fun p s =>
        if s.pstate p = 2 ∨ s.flag (STG_CTL p) STG_CTL_EN then s
        else if s.mayStart p then (s.setF (STG_CTL p) STG_CTL_EN 1).modPort p fun x => { x with enNext := some true }
        else s.startRefused p) s)

/-! ### Keeper (R405, R406) -/

/-- Every domain except the keeper domain is powered down (R405): the rest is as a pin reset leaves it, the recorder's buffer is
empty and its counters are those that the last flush saved (R365). -/
def State.powerDown (s : State) : State :=
  let z := s.packReset 1
  let x := s.rcd.kept true
  { z with pws := { z.pws with keeper := true }, rcd := { z.rcd with buf := [], hours := x.hours, clears := x.clears } }

/-- KEEPER_ENTRY (R405): from Lull, once the conditions have held for PWS_DWELL, the flush with the KEEPER_ENTRY record and the saves
start; once they have ended the device powers down. `ok`: the save's MRAM write succeeds. -/
def execKeeperEntry (ok : Bool) (s : State) : Host.Outcome State Fault Refusal :=
  .next (
    if s.pwState ≠ 3 ∨ !s.boot.running then s
    else if s.pws.entry = 2 then (if s.entryQuiet then s.powerDown else s)
    else if s.mayKeep ∧ s.dwelt 9 ∧ s.pws.waking.isNone then (s.recordNow 0x0A2 0xFF (s.rd PWS_LTOL).toNat 0).entryStart 2 ok
    else s)

/-- KEEPER_WAKE (R406): WAKE has been high for 10 µs in Keeper: the device wakes as by a pin reset, and KWAKE shows it. -/
def execKeeperWake (s : State) : Host.Outcome State Fault Refusal :=
  .next (
    if !s.pws.keeper then s
    else
      let z := (s.packReset 1).setF PWS_STAT PWS_STAT_KWAKE 1
      { z with pws := { z.pws with wakePin := true, woke := true } })

/-! ### Reset of one tile (R24 to R28) -/

/-- A write of PKG_TILE_RST (R24): tiles 1 to 7 that are not in reset are to be reset at the next boundary. -/
def State.tileRstWrite (s : State) (w : Word) : State :=
  forEach 7 (fun i s =>
    let n := i + 1
    if w.getLsbD n && !(s.tile n).inReset then
      (s.setF PKG_TILE_RST PKG_TILE_RST_TILE (s.getF PKG_TILE_RST PKG_TILE_RST_TILE ||| 2 ^ i)).modTile n fun t => { t with rstPend := true }
    else s) s

/-- Does an address lie in a tile's region (R467)? -/
def inTile (n a : Nat) : Bool := a / 0x10000 == n + 1

/-- What a tile reset makes of a register: its reset value, but for the fields that it keeps (R154, R421, R466). -/
def keepFields (l : Loc) (w : Word) : Word :=
  match l.desc with
  | some d => d.fields.foldl (fun x f => if f.kept then f.fld.put x (f.fld.get w) else x) (resetWord l.addr)
  | none => resetWord l.addr

/-- The registers of a tile return to their reset values (R421). -/
def State.tileRegs (s : State) (n : Nat) : State :=
  let l := s.regs.filter fun e => inTile n e.1
  forList l (fun e s => match locate e.1 with | some r => s.wr r (keepFields r e.2) | none => s) s

/-- A tile goes down: its RUN bit reads 0, its ports take their safe action with cause 0b010, PKG_TILE_DOWN is raised, and a trial ends
(R25, R26, R28, R226, R440). -/
def State.tileGone (s : State) (n cyc : Nat) : State :=
  let s := (s.tileSafe n 2).setF PKG_TILE_STAT PKG_TILE_STAT_RUN (s.getF PKG_TILE_STAT PKG_TILE_STAT_RUN &&& (255 - 2 ^ n))
  (s.raise PKG_TILE_DOWN n cyc).fallBack 4 cyc

/-- A bank switch that holds a lane of a tile that resets is cancelled (R80). -/
def State.switchTile (s : State) (n : Nat) : State :=
  match s.switch with
  | some r =>
    if (if r.kind = 0 ∧ r.tick.isNone then s.selected else r.lanes).any (fun l => l / 16 == n) then s.switchCancel false else s
  | none => s

end Sys2Proof.Machine
end

