-- ==== Sys2Proof/Machine/Moves.lean ====
section
/-! DEFINITION. The moves and immediate loads (R99), the privileged register moves (R104, R105). -/

namespace Sys2Proof.Machine

/-- MOV (R99): d = a. -/
def execMov (i : Issue) (d a : Nat) (s : State) : Host.Outcome State Fault Refusal :=
  .next (issueRegs (.mov i d a) i s fun src r => r.setD d (src.getD a))
/-- MVP (R99): p = a[15:0]. -/
def execMvp (i : Issue) (pd a : Nat) (s : State) : Host.Outcome State Fault Refusal :=
  .next (issueRegs (.mvp i pd a) i s fun src r => r.setP pd ((src.getD a).setWidth 16))
/-- MPD (R99): d = p zero-extended. -/
def execMpd (i : Issue) (d pa : Nat) (s : State) : Host.Outcome State Fault Refusal :=
  .next (issueRegs (.mpd i d pa) i s fun src r => r.setD d ((src.getP pa).setWidth 24))
/-- MVC (R99): c0, its reserved bits 0, or c7 takes a. DESIGN CHOICE: beside an instruction that clamps, c7 takes the effects of slot 0
and then slot 1 (log entry 88). -/
def execMvc (i : Issue) (c7 : Bool) (a : Nat) (s : State) : Host.Outcome State Fault Refusal :=
  .next (issue (.mvc i c7 a) i s fun src s => s.modRegs i.core fun r => if c7 then { r with c7 := src.getD a } else { r with c0 := src.getD a &&& c0MaskOf i.core })
/-- MCD (R99): d = a control and status register. -/
def execMcd (i : Issue) (d c : Nat) (s : State) : Host.Outcome State Fault Refusal :=
  .next (issue (.mcd i d c) i s fun src s => let w := s.creg i src c; s.modRegs i.core fun r => r.setD d w)
/-- MOVL (R99): d = the immediate sign-extended. -/
def execMovl (i : Issue) (d : Nat) (imm : BitVec 16) (s : State) : Host.Outcome State Fault Refusal :=
  .next (issueRegs (.movl i d imm) i s fun _ r => r.setD d (imm.signExtend 24))
/-- MOVH (R99): d[23:16] = the immediate, d[15:0] kept. -/
def execMovh (i : Issue) (d : Nat) (imm : BitVec 8) (s : State) : Host.Outcome State Fault Refusal :=
  .next (issueRegs (.movh i d imm) i s fun src r => r.setD d (imm ++ (src.getD d).setWidth 16))
/-- MOVP (R99): p = the immediate. -/
def execMovp (i : Issue) (pd : Nat) (imm : BitVec 16) (s : State) : Host.Outcome State Fault Refusal :=
  .next (issueRegs (.movp i pd imm) i s fun _ r => r.setP pd imm)

/-- What a write of a privileged register leaves in it: its writable fields (R105). -/
def sWrite (k : Nat) (old w : Word) : Word :=
  match k with
  | 0 => (old &&& 1) ||| (w &&& 6)
  | 2 => w &&& 0xFFFF
  | 4 => w &&& 0x7FFF
  | 5 => w
  | 6 => w &&& 0x7FFF
  | _ => old

/-- MVS (R104): a privileged register takes a in its writable fields. -/
def execMvs (i : Issue) (sd a : Nat) (s : State) : Host.Outcome State Fault Refusal :=
  .next (issuePriv (.mvs i sd a) i s fun src s => s.modCore i.core fun c => c.setS sd (sWrite sd (c.sreg sd) (src.getD a)))
/-- MSV (R104): d = a privileged register. -/
def execMsv (i : Issue) (d sa : Nat) (s : State) : Host.Outcome State Fault Refusal :=
  .next (issuePriv (.msv i d sa) i s fun _ s => let w := (s.core i.core).sreg sa; s.modRegs i.core fun r => r.setD d w)
/-- MPUW (R69, R104): protection descriptor a[3:0] takes the words dB, dB+1, dB+2, their reserved bits 0. A SPACE that R69 does not list
leaves the descriptor and raises PKG_RSVD_WRITE (R7). -/
def execMpuw (i : Issue) (a b : Nat) (s : State) : Host.Outcome State Fault Refusal :=
  .next (issuePriv (.mpuw i a b) i s fun src s =>
    let g := (src.getD a).toNat % 16
    if 3 < (⟨23, 20⟩ : Fld).get (src.getD b) then s.raise PKG_RSVD_WRITE 0xFF i.cyc
    else s.modCore i.core fun c =>
      let m := Tab.set 0 c.mpu (4 * g) (src.getD b)
      let m := Tab.set 0 m (4 * g + 1) (src.getD (b + 1) &&& 0xFFFFF)
      let m := Tab.set 0 m (4 * g + 2) (src.getD (b + 2) &&& 0x3E)
      { c with mpu := m })

end Sys2Proof.Machine
end

