-- ==== Sys2Proof/Machine/Debug.lean ====
section
/-! DEFINITION. Counters, census, tagging, trace, debug halts, debug memory access, the JTAG port (R450 to R466). -/

namespace Sys2Proof.Machine

/-! ### Counters (R450) -/

/-- Blocks of a tile and of the package. -/
def tileBlocks : Nat := 36
def pkgBlocks : Nat := 14

/-- Is a register a counter's word? -/
def isCounter (a : Nat) : Bool :=
  match locate a with
  | some (.tprf _ _ o) => decide (0x10 ≤ o)
  | some (.pprf _ o) => decide (0x10 ≤ o)
  | _ => false

/-- At S a change of RUN and a CLR take effect in every block, and every block sees a tick (R450). -/
def State.perfTick (s : State) : State :=
  let s := if s.dbg.clear then { s with regs := s.regs.filter fun e => !isCounter e.1 } else s
  let s := { s with dbg := { s.dbg with clear := false, counting := s.flag PRF_CTL PRF_CTL_RUN } }
  if !s.dbg.counting then s
  else
    let s := forEach 8 (fun t s => forEach tileBlocks (fun b s => s.countT t b 0x01 1) s) s
    let s := forEach pkgBlocks (fun b s => s.countP b 0x01 1) s
    forEach 8 (fun t s => if (s.core (128 + t)).running then s.countT t 32 0x30 s.period else s) s

/-- A write of PRF_CTL (R450). -/
def State.prfCtlWrite (s : State) (w : Word) : State :=
  let s := s.setF PRF_CTL PRF_CTL_RUN (PRF_CTL_RUN.get w)
  if PRF_CTL_CLR.on w then { s with dbg := { s.dbg with clear := true } } else s

/-! ### The census (R453) -/

/-- The words of one block in a census entry: its number, and its counters, each low word first. -/
def State.censusBlock (s : State) (b : Nat) (lo hi : Nat → Loc) : List Word :=
  BitVec.ofNat 24 b :: (List.range 8).flatMap fun c => [s.rd (lo c), s.rd (hi c)]

/-- The entry that tile `n` latches (R453): tile 0 adds the package blocks, after its own, under their own numbers (log entry 63). -/
def State.censusEntry (s : State) (n : Nat) : List Word :=
  let m := s.rdPair (PRF_CEN_MASK_LO n) (PRF_CEN_MASK_HI n)
  let own := (List.range tileBlocks).filter fun b => m.testBit b
  let pkg := if n = 0 then (List.range pkgBlocks).filter fun b => (s.rd PRF_CEN_PMASK).getLsbD b else []
  [lo24 s.mer.count, hi24 s.mer.count, BitVec.ofNat 24 (own.length + pkg.length)]
    ++ own.flatMap (fun b => s.censusBlock b (TPRF_CNT_LO n b) (TPRF_CNT_HI n b))
    ++ pkg.flatMap (fun b => s.censusBlock b (PPRF_CNT_LO b) (PPRF_CNT_HI b))

/-- At T − 0.6 µs of a census tick every counter is latched, and each tile's drain starts, or is skipped while one runs (R453). -/
def State.census (s : State) : State :=
  if s.flag PRF_CEN_CTL PRF_CEN_CTL_EN ∧ s.mer.count % 2 ^ s.getF PRF_CEN_CTL PRF_CEN_CTL_K = 0 then
    forEach 8 (fun n s =>
      if !s.tileRuns n then s
      else if (s.tile n).cen.drain.isSome then s.bump (PRF_CEN_SKIP n)
      else s.modTile n fun t => { t with cen := { t.cen with drain := some (s.censusEntry n) } }) s
  else s

/-- The oldest entries leave until the rest fits beside `n` words, and how many left. -/
def cenDrop (n : Nat) : List Nat → List Nat × Nat
  | [] => ([], 0)
  | a :: t => if (a :: t).foldl (· + ·) 0 + n ≤ 16384 then (a :: t, 0) else let r := cenDrop n t; (r.1, r.2 + 1)

/-- CENSUS_DRAIN_DONE (R453): the tile's drain ends: its entry is written whole into the census buffer. -/
def execCensusDrainDone (n : Nat) (s : State) : Host.Outcome State Fault Refusal :=
  .next (
    match (s.tile n).cen.drain with
    | none => s
    | some l =>
      let c := (s.tile n).cen
      let r := cenDrop l.length c.sizes
      let head := s.getF (PRF_CEN_HEAD n) PRF_CEN_HEAD_VALUE
      let buf := l.zipIdx.foldl (fun (t : Tab Word) e => Tab.set 0 t ((head + e.2) % 16384) e.1) c.buf
      let sizes := r.1 ++ [l.length]
      let head := (head + l.length) % 16384
      let s := s.modTile n fun t => { t with cen := { buf := buf, sizes := sizes, drain := none } }
      let s := forEach r.2 (fun _ s => s.bump (PRF_CEN_DROP n)) s
      (s.setF (PRF_CEN_HEAD n) PRF_CEN_HEAD_VALUE head).setF (PRF_CEN_OLD n) PRF_CEN_OLD_VALUE
        ((head + 16384 - sizes.foldl (· + ·) 0 % 16384) % 16384))

/-- The word at PRF_CEN_RD_ADDR, and the advance that a read makes (R453, R459). -/
def State.cenRead (s : State) (n : Nat) : Word := Tab.get 0 (s.tile n).cen.buf (s.getF (PRF_CEN_RD_ADDR n) PRF_CEN_RD_ADDR_VALUE)
def State.cenAdvance (s : State) (n : Nat) : State :=
  s.setF (PRF_CEN_RD_ADDR n) PRF_CEN_RD_ADDR_VALUE ((s.getF (PRF_CEN_RD_ADDR n) PRF_CEN_RD_ADDR_VALUE + 1) % 16384)

/-! ### Random tagging (R452) -/

/-- A write of PRF_TAG_CTL loads the shift registers of the tile's lanes. -/
def State.tagCtlWrite (s : State) (n : Nat) (w : Word) : State :=
  forEach 16 (fun i s => s.modCore (16 * n + i) fun c =>
    { c with lfsr := some (BitVec.ofNat 32 (PRF_TAG_CTL_SEED.get w * 256 + 16 * n + i + 1)) }) (s.wr (PRF_TAG_CTL n) w)

/-- The four words of a tag record: the writeback cycles follow from the bundle's latencies (R60, R452). -/
def TagRec.words (r : TagRec) : List Word :=
  let wb (ex : Bool) (i : Option Instr) : Nat :=
    match i with | some i => if ex then (insInfo i).writes.foldl (fun n e => max n e.2) 0 else 0 | none => 0
  let b := decodeBundle r.lane 0 r.bundle
  [BitVec.ofNat 24 (r.lane * 2 ^ 17 + r.addr % 4096 * 32 + b2n r.ex0 * 16 + b2n r.ex1 * 8 + r.cause % 8),
   lo24 r.count, BitVec.ofNat 24 (r.issue % 2 ^ 16),
   BitVec.ofNat 24 (min 4095 r.stall * 4096 + min 15 (wb r.ex0 (b.map (·.1))) * 16 + min 15 (wb r.ex1 (b.map (·.2))))]

/-- A read of PRF_TAG_POP moves the oldest record into PRF_TAG_W (R452). -/
def State.tagPop (s : State) (n : Nat) : State :=
  match (s.tile n).tags with
  | [] => s
  | r :: t =>
    let s := s.modTile n fun x => { x with tags := t }
    r.words.zipIdx.foldl (fun s e => s.wr (PRF_TAG_W n e.2) e.1) s

/-! ### Trace buffers (R454 to R456) -/

/-- The enabled nodes of a tile, by number. -/
def State.traceNodes (s : State) (n : Nat) : List Nat := (List.range 8).filter fun i => s.flag (TRC_NODE n i) TRC_NODE_EN

/-- The rows that the ring holds; with no node a row is its stamp word alone (log entry 64). -/
def State.traceRows (s : State) (n : Nat) : Nat := 65536 / max 1 (s.traceNodes n).length

/-- A lane's nodes are captured at its TICKEND (R454). -/
def State.traceLane (s : State) (l : Nat) : State :=
  let r := (s.core l).r
  let last := s.rd (LAN_CYC_LAST l)
  s.traceCap (l / 16) [0, 1, 2, 6] (l % 16) false fun k sel =>
    match k with
    | 0 => r.getD sel
    | 1 => accGet (r.getA (sel / 4)) (sel % 4)
    | 2 => (r.getP (sel % 8)).setWidth 24
    | _ => last

/-- A port's sense values, 0.4 µs after S (R454). -/
def State.tracePort (s : State) (p : Nat) : State := s.traceCap (p / 16) [3] (p % 16) false fun _ sel => s.sample p sel

/-- A lane's scheduled gains, at program cycle 40 (R454). -/
def State.traceGains (s : State) (l : Nat) : State := s.traceCap (l / 16) [4] (l % 16) false fun _ sel => Tab.get 0 s.gains (l * 8 + sel % 8)

/-- The value that node `i` of a tile captured in this tick; a lane's gain counts only where its TICKEND retired (R454). -/
def State.traceVal (s : State) (n i : Nat) : Option Word :=
  let w := s.rd (TRC_NODE n i)
  if TRC_NODE_KIND.get w = 4 ∧ !(s.core (16 * n + TRC_NODE_UNIT.get w)).retired then none
  else Tab.get none (s.tile n).trace.nodes i

/-- The row that a tile commits: the stamp word, then the values (R454). -/
def State.traceRow (s : State) (n : Nat) : List Word :=
  let valid := (s.traceNodes n).foldl (fun v i => if (s.traceVal n i).isSome then v + 2 ^ i else v) 0
  BitVec.ofNat 24 (s.mer.count % 65536 * 256 + valid) :: (s.traceNodes n).map fun i => (s.traceVal n i).getD 0

/-- Does a value meet a condition against another, `prev` the value in the row before (R455)? -/
def traceCond (k : Nat) (prev : Option Word) (x v : Word) : Bool :=
  match k with
  | 0 => x == v
  | 1 => x != v
  | 2 => decide (x.toInt < v.toInt)
  | 3 => decide (v.toInt ≤ x.toInt)
  | 4 => (match prev with | some p => decide (p.toInt < v.toInt) | none => false) && decide (v.toInt ≤ x.toInt)
  | _ => (match prev with | some p => decide (v.toInt ≤ p.toInt) | none => false) && decide (x.toInt < v.toInt)

/-- Does the trigger of a tile fire on a row (R455)? A source was raised in the tick where an event of it came since the last mirror
window (log entry 64). -/
def State.traceFires (s : State) (n : Nat) (row : List Word) : Bool :=
  let w := s.rd (TRC_TRIG n)
  let v := s.rd (TRC_TRIG_VAL n)
  let t := (s.tile n).trace
  t.force || (match TRC_TRIG_SRC.get w with
    | 0 =>
      match (s.traceNodes n).findIdx? (· == TRC_TRIG_NODE.get w) with
      | some i => traceCond (TRC_TRIG_COND.get w) (t.rows.head?.bind (·[i + 1]?)) (row.getD (i + 1) 0) v
      | none => false
    | 1 => s.mir.news.contains (tileSrc n (TRC_TRIG_SRCNUM.get w))
    | 2 => lo24 s.mer.count == v
    | _ => false)

/-- Rows that follow the trigger row (R455). -/
def State.tracePost (s : State) (n : Nat) : Nat := min (s.getF (TRC_POST n) TRC_POST_VALUE) (s.traceRows n - 1)

/-- Capture stops once the rows after the trigger row are in. -/
def State.traceEnd (s : State) (n : Nat) : State :=
  match (s.tile n).trace.after with
  | some k =>
    if s.tracePost n ≤ k then ((s.setF (TRC_STAT n) TRC_STAT_DONE 1).setF (TRC_STAT n) TRC_STAT_ARMED 0).setF (TRC_CTL n) TRC_CTL_ARM 0 else s
  | none => s

/-- The tick of the row committed last becomes the trigger tick (R455). -/
def State.traceTrigger (s : State) (n cyc : Nat) : State :=
  let s := (s.setF (TRC_STAT n) TRC_STAT_TRIGGERED 1).wrPair (TRC_TRIG_CNT_LO n) (TRC_TRIG_CNT_HI n) s.mer.count
  let s := s.modTile n fun x => { x with trace := { x.trace with after := some 0, force := false } }
  (s.raise (tileSrc n TRC_TRIGGER) n cyc).traceEnd n

/-- Capture runs in a tile, and its trigger has not fired. -/
def State.traceWaits (s : State) (n : Nat) : Bool :=
  s.flag (TRC_STAT n) TRC_STAT_ARMED && !s.flag (TRC_STAT n) TRC_STAT_TRIGGERED

/-- In the mirror window an armed tile commits its row and tests its trigger (R454, R455). -/
def State.traceCommit (s : State) (n : Nat) : State :=
  if !s.flag (TRC_STAT n) TRC_STAT_ARMED ∨ !s.tileRuns n then s
  else
    let row := s.traceRow n
    let fire := s.traceWaits n && s.traceFires n row
    let max := s.traceRows n
    let s := if (s.tile n).trace.rows.length = max then s.setF (TRC_STAT n) TRC_STAT_WRAP 1 else s
    let s := s.modTile n fun x => { x with trace :=
      { x.trace with rows := (row :: x.trace.rows).take max, nodes := [], after := x.trace.after.map (· + 1) } }
    if fire then
      let s := s.modTile n fun x => { x with trace := { x.trace with send := s.flag (TRC_CTL n) TRC_CTL_XOUT } }
      s.traceTrigger n (s.period - 480)
    else s.traceEnd n

/-- At S a tile that was armed starts to capture (R455). -/
def State.traceTick (s : State) (n : Nat) : State :=
  if (s.tile n).trace.armNext then
    (s.modTile n fun x => { x with trace := { x.trace with armNext := false, nodes := [] } }).setF (TRC_STAT n) TRC_STAT_ARMED 1
  else s.modTile n fun x => { x with trace := { x.trace with nodes := [] } }

/-- ARM = 1 empties the ring and arms from the next S (R455). -/
def State.traceArm (s : State) (n : Nat) : State :=
  ((s.modTile n fun x => { x with trace := { armNext := true } }).wr (TRC_STAT n) 0).setF (TRC_CTL n) TRC_CTL_ARM 1

/-- FORCE = 1 fires a trigger on the row that is committed next (R455). -/
def State.traceForce (s : State) (n : Nat) : State :=
  if s.traceWaits n then s.modTile n fun x => { x with trace := { x.trace with force := true } } else s

/-- A write of TRC_CTL (R455). -/
def State.trcCtlWrite (s : State) (n : Nat) (w : Word) : State :=
  let s := (s.setF (TRC_CTL n) TRC_CTL_XIN (TRC_CTL_XIN.get w)).setF (TRC_CTL n) TRC_CTL_XOUT (TRC_CTL_XOUT.get w)
  let s := if TRC_CTL_FORCE.on w then s.traceForce n else s
  if TRC_CTL_ARM.on w then s.traceArm n else s

/-- TRACE_CROSS_TRIGGER (R455): a trigger that tile `n` sends reaches every other tile. -/
def execTraceCrossTrigger (n cyc : Nat) (s : State) : Host.Outcome State Fault Refusal :=
  .next (
    if !(s.tile n).trace.send then s
    else
      let s := s.modTile n fun x => { x with trace := { x.trace with send := false } }
      forEach 8 (fun m s => if m ≠ n ∧ s.flag (TRC_CTL m) TRC_CTL_XIN ∧ s.traceWaits m ∧ s.tileRuns m then s.traceTrigger m cyc else s) s)

/-- TRC_RD_W (R456): word `i` of the row that TRC_RD_ROW selects, counted from the trigger row; false while the capture runs. A row that
the ring does not hold has no stated content: a free value. -/
def State.traceRead (s : State) (n i : Nat) : Word × Bool :=
  let t := (s.tile n).trace
  let k : Int := (t.after.getD 0 : Int) - (s.rd (TRC_RD_ROW n)).toInt
  let w := if 0 ≤ k then t.rows[k.toNat]?.bind (·[i]?) else none
  (w.getD (Config.freeWord s.free), !s.flag (TRC_STAT n) TRC_STAT_ARMED)

/-! ### Halts (R461 to R463) -/

/-- What a halt of a lane does to its port (R462). -/
def State.haltPort (s : State) (k : Nat) : State := if isSteward k then s else s.enterSafeOn k 6

/-- A halt is requested: at once between bundles, after the bundle, or after UNLOCK (R126, R461, R462). -/
def State.haltReq (s : State) (k : Nat) : State :=
  let c := s.core k
  if c.halted then s
  else if c.running ∧ (c.lock.isSome ∨ c.snap.isSome ∨ c.access.isSome) then s.modCore k fun c => { c with haltPend := true }
  else (s.modCore k fun c => { c with halted := true, haltPend := false }).haltPort k

/-- A hard halt (R463): at once; an open LOCK sequence has no effect, and the unit stands at its LOCK bundle; a steward whose sequence
commits halts after the commit. -/
def State.hardHalt (s : State) (k cyc : Nat) : State :=
  let commits := match (s.core k).access with | some (.commit _) => true | _ => false
  if commits then (s.modCore k fun c => { c with haltPend := true }).raise DBG_HARD_HALT 0xFF cyc
  else
  let s := if (s.core k).snap.isSome then (s.undoBundle k).countCore k 0x15 (if isSteward k then 0 else 1) else s
  let c := s.core k
  let at_ := match c.lock with | some l => l.at_ | none => c.pc
  let s := s.setCore k { c.discard with pc := at_, halted := true, haltPend := false }
  (s.haltPort k).raise DBG_HARD_HALT 0xFF cyc

/-- A write of DBG_SCTL (R461, R463), but for STEP, which issues a bundle. -/
def State.sctlWrite (s : State) (n : Nat) (w : Word) (cyc : Nat) : State :=
  let k := 128 + n
  let s := if DBG_SCTL_REQ.on w then s.irq n 15 else s
  let s := if DBG_SCTL_RESUME.on w ∧ (s.core k).halted then s.modCore k fun c => { c with halted := false, stepping := true } else s
  let s := if DBG_SCTL_HALT.on w then s.haltReq k else s
  if DBG_SCTL_HARD.on w then s.hardHalt k cyc else s

/-- A write of DBG_LCTL (R462, R463), but for STEP; its rights are checked before. -/
def State.lctlWrite (s : State) (l : Nat) (w : Word) (cyc : Nat) : State :=
  let s := (s.setF (DBG_LCTL l) DBG_LCTL_BP_EN (DBG_LCTL_BP_EN.get w)).setF (DBG_LCTL l) DBG_LCTL_BP_ADDR (DBG_LCTL_BP_ADDR.get w)
  let s := if DBG_LCTL_RESUME.on w ∧ (s.core l).halted then s.modCore l fun c => { c with resume := true } else s
  let s := if DBG_LCTL_HALT.on w then s.haltReq l else s
  if DBG_LCTL_HARD.on w then s.hardHalt l cyc else s

/-- At S a lane that is to resume starts from bundle 0 with its registers as they stood (R462). -/
def State.resumeTick (s : State) (l : Nat) : State :=
  if (s.core l).resume then
    s.modCore l fun c => { c with resume := false, halted := false, haltPend := false, pc := 0, loops := [], running := false, lock := none }
  else s

/-- STEWARD_BREAKPOINT (R461): an enabled breakpoint at the bundle about to issue; the bundle that a RESUME goes on with issues (log
entry 82). -/
def execStewardBreakpoint (n : Nat) (s : State) : Host.Outcome State Fault Refusal :=
  .next (
    let c := s.core (128 + n)
    let hit := (List.range 4).any fun i => s.flag (DBG_SBP n i) DBG_SBP_EN && s.getF (DBG_SBP n i) DBG_SBP_ADDR == c.pc
    if hit ∧ c.running ∧ c.snap.isNone ∧ !c.stepping then s.haltReq (128 + n) else s)

/-- LANE_BREAKPOINT (R462): the bundle at BP_ADDR is about to issue. -/
def execLaneBreakpoint (l : Nat) (s : State) : Host.Outcome State Fault Refusal :=
  .next (
    let c := s.core l
    if s.flag (DBG_LCTL l) DBG_LCTL_BP_EN ∧ s.getF (DBG_LCTL l) DBG_LCTL_BP_ADDR = c.pc ∧ c.running ∧ c.snap.isNone then s.haltReq l else s)

/-- DBG_LSTAT and DBG_SSTAT as they read (R466). -/
def State.lstat (s : State) (l : Nat) : Word :=
  let c := s.core l
  BitVec.ofNat 24 (b2n c.haltPend * 2 ^ 13 + b2n c.halted * 2 ^ 12 + c.pc % 4096)
def State.sstat (s : State) (n : Nat) : Word :=
  let c := s.core (128 + n)
  BitVec.ofNat 24 (b2n c.haltPend * 2 ^ 16 + b2n c.halted * 2 ^ 15 + c.pc % 32768)

/-! ### Debug memory access (R464) -/

/-- Registers of a halted unit by index: 0 to 15 d, 16 to 27 accumulator parts, 28 to 35 p, 36 to 43 c, 44 to 51 s. -/
def State.dbgReg (s : State) (k i : Nat) : Option Word :=
  let c := s.core k
  if i < 16 then some (c.r.getD i)
  else if i < 28 then some (accGet (c.r.getA ((i - 16) / 3)) ((i - 16) % 3))
  else if i < 36 then some ((c.r.getP (i - 28)).setWidth 24)
  else if i < 44 then some (s.creg { core := k, slot1 := false, cyc := 0, pred := 0 } c.r (i - 36))
  else if i < 52 ∧ isSteward k then some (c.sreg (i - 44))
  else none

/-- A register of a halted unit is written; the registers and the fields that the hardware alone sets keep their values, and reserved
bits read 0 (R6, R57, R105). -/
def State.dbgRegPut (s : State) (k i : Nat) (w : Word) : Option State :=
  if i < 16 then some (s.modRegs k fun r => r.setD i w)
  else if i < 28 then some (s.modRegs k fun r => r.setA ((i - 16) / 3) (accPut (r.getA ((i - 16) / 3)) ((i - 16) % 3) w))
  else if i < 36 then some (s.modRegs k fun r => r.setP (i - 28) (w.setWidth 16))
  else if i = 36 then some (s.modRegs k fun r => { r with c0 := w &&& c0MaskOf k })
  else if i = 43 then some (s.modRegs k fun r => { r with c7 := w })
  else if i < 44 then some s
  else if i < 52 ∧ isSteward k then some (s.modCore k fun c => c.setS (i - 44) (sWrite (i - 44) (c.sreg (i - 44)) w))
  else none

/-- A bundle as the three data words show it (R72): DATA1 and DATA2 are set, DATA0 is answered. -/
def State.dbgBundle (s : State) (b : BitVec 64) : State × Option Word :=
  ((s.wr DBG_MEM_DATA1 (BitVec.ofNat 24 (b.toNat / 2 ^ 24))).wr DBG_MEM_DATA2 (BitVec.ofNat 24 (b.toNat / 2 ^ 48)), some (BitVec.ofNat 24 b.toNat))

/-- DBG_MEM_ADDR advances (R464). -/
def State.dbgAdvance (s : State) : State := s.setF DBG_MEM_ADDR DBG_MEM_ADDR_ADDR ((s.getF DBG_MEM_ADDR DBG_MEM_ADDR_ADDR + 1) % 65536)

/-- A read of DBG_MEM_DATA0 (R464): the word, none for error status; the address has not advanced. -/
def State.dbgRead (s : State) : State × Option Word :=
  let u := s.getF DBG_MEM_SEL DBG_MEM_SEL_UNIT
  let a := s.getF DBG_MEM_ADDR DBG_MEM_ADDR_ADDR
  let st := decide (128 ≤ u ∧ u < 136)
  match s.getF DBG_MEM_SEL DBG_MEM_SEL_SPACE with
  | 0 => if u < 128 then (s, some (Tab.get 0 s.dbg.shown (dmemIdx u a))) else (s, none)
  | 1 => if u < 128 then s.dbgBundle (s.bundle u (s.bankOf u) (a % 4096)) else (s, none)
  | 2 => if u < 128 then s.dbgBundle (s.bundle u (1 - s.bankOf u) (a % 4096)) else (s, none)
  | 3 => if u < 136 ∧ (s.core u).halted then (s, s.dbgReg u a) else (s, none)
  | 4 => if st then (s, some (Tab.get 0 s.dmem (dmemIdx u a))) else (s, none)
  | 5 => if st then s.dbgBundle (s.bundle u (s.bankOf u) (a % 32768)) else (s, none)
  | _ => (s, none)

/-- A write of DBG_MEM_DATA0 (R464), with or without the live-debug right of its arrival port: false for error status. -/
def State.dbgWrite (s : State) (w : Word) (live : Bool) (cyc : Nat) : State × Bool :=
  let u := s.getF DBG_MEM_SEL DBG_MEM_SEL_UNIT
  let a := s.getF DBG_MEM_ADDR DBG_MEM_ADDR_ADDR
  match s.getF DBG_MEM_SEL DBG_MEM_SEL_SPACE with
  | 0 =>
    if 128 ≤ u then (s, false)
    else if !(s.core u).halted ∧ s.pstate u ≠ 0 ∧ !live then (s.raise (tileSrc (u / 16) DBG_LIVE_REFUSED) (u / 16) cyc, false)
    else ({ s with dbg := { s.dbg with writes := s.dbg.writes ++ [(dmemIdx u a, w)] } }.dbgAdvance, true)
  | 3 =>
    if u < 136 ∧ (s.core u).halted then match s.dbgRegPut u a w with | some s => (s.dbgAdvance, true) | none => (s, false) else (s, false)
  | 4 => if 128 ≤ u ∧ u < 136 then ({ s with dmem := Tab.set 0 s.dmem (dmemIdx u a) w }.dbgAdvance, true) else (s, false)
  | _ => (s, false)

/-- In the mirror window the debug writes to lane data memories are applied, and what a debug read shows is taken (R464). -/
def State.dbgMirror (s : State) : State :=
  let s := forList s.dbg.writes (fun e s => { s with dmem := Tab.set 0 s.dmem e.1 e.2 }) s
  { s with dbg := { s.dbg with writes := [], shown := s.dmem.filter fun e => decide (e.1 < 128 * 65536) } }

/-! ### The JTAG port (R457, R460) -/

/-- TAP_RESET (R457, R460): TRST_N low, or five TCK cycles with TMS high: IDCODE is in force and the debug session is closed. -/
def execTapReset (s : State) : Host.Outcome State Fault Refusal :=
  .next { s.setF DBG_CTL DBG_CTL_SESSION 0 with dbg := { s.dbg with ir := 2, extest := false } }

/-- The boundary-scan register is loaded. -/
def State.bsrLoad (s : State) (l : List Bool) : State :=
  { s with dbg := { s.dbg with bsr := l.zipIdx.foldl (fun (t : Tab Bool) e => Tab.set false t e.2 e.1) [] } }

/-- EXTEST (R457): the boundary-scan register, loaded with the bits that were shifted in, drives the pins. -/
def execExtest (bits : List Bool) (s : State) : Host.Outcome State Fault Refusal :=
  let z := s.bsrLoad bits
  .next { z with dbg := { z.dbg with ir := 0, extest := true } }

/-- SAMPLE/PRELOAD (R457): the boundary-scan register is loaded; the pins are not driven by it. -/
def execSamplePreload (bits : List Bool) (s : State) : Host.Outcome State Fault Refusal :=
  let z := s.bsrLoad bits
  .next { z with dbg := { z.dbg with ir := 1, extest := false } }

/-- The identification code (R457): the version is the silicon stepping. -/
def jtagIdcode : BitVec 32 := BitVec.ofNat 32 (b2n Config.laterStepping * 2 ^ 28 + 0x8800 * 2 ^ 12 + 0x5C3 * 2 + 1)

/-- IDCODE (R457): the data register shows the identification code. -/
def execIdcode (s : State) : Host.Outcome State Fault Refusal := .next { s with dbg := { s.dbg with ir := 2, extest := false } }

/-- BYPASS (R457), and every value that is no instruction. -/
def execBypass (s : State) : Host.Outcome State Fault Refusal := .next { s with dbg := { s.dbg with ir := 0xFF, extest := false } }

/-- A write of DBG_CTL (R460): SESSION changes only through JTAG; each opening is an event. -/
def State.sessionWrite (s : State) (port : Nat) (w : Word) (cyc : Nat) : State :=
  if port ≠ 12 then s
  else
    let was := s.flag DBG_CTL DBG_CTL_SESSION
    let s := s.setF DBG_CTL DBG_CTL_SESSION (DBG_CTL_SESSION.get w)
    if !was ∧ DBG_CTL_SESSION.on w then s.raise DBG_SESSION_SRC 0xFF cyc else s

end Sys2Proof.Machine
end

