-- ==== Sys2Proof/Machine/Mac.lean ====
section
/-! DEFINITION. The multiply-accumulate instructions (R98). -/

namespace Sys2Proof.Machine

/-- An instruction whose result goes to an accumulator with its flags. -/
def accIns (x : Instr) (i : Issue) (ad : Nat) (f : CoreRegs → AccRes) (s : State) : State :=
  issueRegs x i s fun src r => r.resultA ad (f src)

/-- An instruction whose result goes to a data register with its flags. -/
def dataIns (x : Instr) (i : Issue) (d : Nat) (f : CoreRegs → Res) (s : State) : State :=
  issueRegs x i s fun src r => r.result d (f src)

/-- MPY (R98): acc = align(a × b). -/
def execMpy (i : Issue) (ad a b : Nat) (m : PMode) (s : State) : Host.Outcome State Fault Refusal :=
  .next (accIns (.mpy i ad a b m) i ad (fun r => accMpy (r.getD a) (r.getD b) m) s)
/-- MAC (R98): acc = acc + align(a × b). -/
def execMac (i : Issue) (ad a b : Nat) (m : PMode) (s : State) : Host.Outcome State Fault Refusal :=
  .next (accIns (.mac i ad a b m) i ad (fun r => accMac (r.getA ad) (r.getD a) (r.getD b) m) s)
/-- MSU (R98): acc = acc − align(a × b). -/
def execMsu (i : Issue) (ad a b : Nat) (m : PMode) (s : State) : Host.Outcome State Fault Refusal :=
  .next (accIns (.msu i ad a b m) i ad (fun r => accMsu (r.getA ad) (r.getD a) (r.getD b) m) s)
/-- MPYD (R98): d = sat(round(a × b)). -/
def execMpyd (i : Issue) (d a b : Nat) (m : PMode) (k : RMode) (s : State) : Host.Outcome State Fault Refusal :=
  .next (dataIns (.mpyd i d a b m k) i d (fun r => accMpyd (r.getD a) (r.getD b) m k) s)
/-- MACD (R98): d = sat(d + round(a × b)). -/
def execMacd (i : Issue) (d a b : Nat) (m : PMode) (k : RMode) (s : State) : Host.Outcome State Fault Refusal :=
  .next (dataIns (.macd i d a b m k) i d (fun r => accMacd (r.getD d) (r.getD a) (r.getD b) m k) s)
/-- ACLR (R98): acc = 0, flags unchanged (R91). -/
def execAclr (i : Issue) (ad : Nat) (s : State) : Host.Outcome State Fault Refusal :=
  .next (issueRegs (.aclr i ad) i s fun _ r => r.setA ad 0)
/-- AADD (R98): acc = accA + accB. -/
def execAadd (i : Issue) (ad aa ab : Nat) (s : State) : Host.Outcome State Fault Refusal :=
  .next (accIns (.aadd i ad aa ab) i ad (fun r => accAdd (r.getA aa) (r.getA ab)) s)
/-- ASUB (R98): acc = accA − accB. -/
def execAsub (i : Issue) (ad aa ab : Nat) (s : State) : Host.Outcome State Fault Refusal :=
  .next (accIns (.asub i ad aa ab) i ad (fun r => accSub (r.getA aa) (r.getA ab)) s)
/-- ASH (R98): acc = accA shifted by b[5:0] read signed. -/
def execAsh (i : Issue) (ad aa b : Nat) (s : State) : Host.Outcome State Fault Refusal :=
  .next (accIns (.ash i ad aa b) i ad (fun r => accShift (r.getA aa) (r.getD b)) s)
/-- MVDA (R98): acc = align_in(a). -/
def execMvda (i : Issue) (ad a : Nat) (m : PMode) (s : State) : Host.Outcome State Fault Refusal :=
  .next (accIns (.mvda i ad a m) i ad (fun r => accPlace (r.getD a) m) s)
/-- SATW (R98): d = sat(round(acc, 23)). -/
def execSatw (i : Issue) (d aa : Nat) (k : RMode) (s : State) : Host.Outcome State Fault Refusal :=
  .next (dataIns (.satw i d aa k) i d (fun r => accSatw (r.getA aa) k) s)
/-- WRW (R98): d = bits 23:0 of round(acc, 23). -/
def execWrw (i : Issue) (d aa : Nat) (k : RMode) (s : State) : Host.Outcome State Fault Refusal :=
  .next (dataIns (.wrw i d aa k) i d (fun r => accWrw (r.getA aa) k) s)
/-- SATG (R98): d = sat(round(acc, 30)). -/
def execSatg (i : Issue) (d aa : Nat) (k : RMode) (s : State) : Host.Outcome State Fault Refusal :=
  .next (dataIns (.satg i d aa k) i d (fun r => accSatg (r.getA aa) k) s)
/-- SATC (R98): d = usat(acc). -/
def execSatc (i : Issue) (d aa : Nat) (s : State) : Host.Outcome State Fault Refusal :=
  .next (dataIns (.satc i d aa) i d (fun r => accSatc (r.getA aa)) s)
/-- AGET (R98): d = one part of acc, flags unchanged (R91). -/
def execAget (i : Issue) (d aa part : Nat) (s : State) : Host.Outcome State Fault Refusal :=
  .next (issueRegs (.aget i d aa part) i s fun src r => r.setD d (accGet (src.getA aa) part))
/-- APUT (R98): one part of acc = a, the other bits kept, flags unchanged (R91). -/
def execAput (i : Issue) (ad a part : Nat) (s : State) : Host.Outcome State Fault Refusal :=
  .next (issueRegs (.aput i ad a part) i s fun src r => r.setA ad (accPut (src.getA ad) part (src.getD a)))

end Sys2Proof.Machine
end

