-- ==== Sys2Proof/Machine/Steps.lean ====
section
/-! DEFINITION. The end of a tick's program and of a LOCK sequence, and single steps (R71, R123 to R126, R436, R461, R462). -/

namespace Sys2Proof.Machine

open Sys2Proof

/-! ### UNLOCK (R124 to R126) -/

/-- A write of a lane's sequence takes effect; lane cycles count from `cyc` (R125). -/
def State.commitLane (s : State) (l : Nat) (cyc : Nat) : HeldWrite → State
  | .mem b w => { s with dmem := Tab.set 0 s.dmem b w }
  | .out t w => (s.outIssue l t (s.outRef l t) w cyc).1
  | .xchs k w => { s with send := Tab.set 0 s.send (l * 8 + k) w }
  | .envt f w => s.modPort l fun x => { x with envPend := x.envPend ++ [(envtOff f, w, cyc + 8)] }
  | _ => s

/-- A write of STC by a steward needs CONFIGURE rights of its port; a refusal sets GERR (R63, R340). -/
def State.stcWrite (s : State) (k a : Nat) (w : Word) (cyc : Nat) : State :=
  let n := coreTile k
  if s.getF (RGT_PORT (13 + n)) RGT_PORT_RIGHTS / 4 % 2 = 1 then s.cramPut n a w cyc
  else
    let s := ((s.bump RGT_DENY_CNT).raise RGT_DENIED (13 + n) cyc).wr RGT_LAST (BitVec.ofNat 24 (2 ^ 7 + 13 + n))
    (s.wr RGT_LAST_ADDR (BitVec.ofNat 24 (Loc.cram n (a % 0x8000)).addr)).modRegs k fun r => { r with c0 := C0_GERR.put r.c0 1 }

/-- A write of a steward's sequence to its own memories takes effect (R125). -/
def State.commitSteward (s : State) (k : Nat) (cyc : Nat) : HeldWrite → State
  | .mem b w => { s with dmem := Tab.set 0 s.dmem b w }
  | .stc a w => s.stcWrite k a w cyc
  | _ => s

/-- A gazetteer write in its place by address, after those to the same word. -/
def stgInsert (e : Nat × Word) : List (Nat × Word) → List (Nat × Word)
  | [] => [e]
  | a :: t => if a.1 ≤ e.1 then a :: stgInsert e t else e :: a :: t

/-- The gazetteer writes of a sequence: one access, whose words are written in ascending address order, those of one word in program order
(R125, R498, log entry 94). -/
def heldStg (l : List HeldWrite) : List (Nat × Word) :=
  (l.filterMap fun h => match h with | .stg a w => some (a, w) | _ => none).foldl (fun t e => stgInsert e t) []

/-- UNLOCK (R124, R125): the open sequence commits: a lane's writes in the next cycle, a steward's at once but for its gazetteer
writes, for which it waits. A steward with no open sequence takes a precise exception. -/
def execUnlock (i : Issue) (s : State) : Host.Outcome State Fault Refusal :=
  .next (issueAny (.unlock i) i s fun _ s =>
    match (s.core i.core).lock with
    | none => if isSteward i.core then s.precise i.core 3 i.cyc else s
    | some q =>
      let s := s.modCore i.core fun c => { c with lock := none }
      if isSteward i.core then
        let s := forList q.held (fun h s => s.commitSteward i.core i.cyc h) s
        let l := heldStg q.held
        if l.isEmpty then s else s.modCore i.core fun c => { c with access := some (.commit l), lastIssue := i.cyc }
      else forList q.held (fun h s => s.commitLane i.core (i.cyc + 1) h) s)

/-! ### TICKEND (R71, R123, R436) -/

/-- A lane's program retires (R70, R71). -/
def State.retire (s : State) (l cyc : Nat) : State :=
  let n := cyc + 1 - 320
  let s := s.modCore l fun c => { c with running := false, retired := true }
  let s := s.setF (LAN_CYC_LAST l) LAN_CYC_LAST_CYCLES n
  let s := if s.getF (LAN_CYC_MAX l) LAN_CYC_MAX_CYCLES < n then s.setF (LAN_CYC_MAX l) LAN_CYC_MAX_CYCLES n else s
  let s := if s.getF (LAN_COST l) LAN_COST_CYCLES < n then
      (s.setF (LAN_STAT l) LAN_STAT_OVER_COST 1).raise (tileSrc (l / 16) LAN_COST_EXCEED) l cyc else s
  (s.traceLane l).handover l

/-- TICKEND (R123): the lane's program for the tick ends; the cycles are counted, trace nodes captured, and before a switch the
handover mover runs. -/
def execTickend (i : Issue) (s : State) : Host.Outcome State Fault Refusal :=
  .next (issueLane (.tickend i) i s fun _ s => s.retire i.core i.cyc)

/-! ### Single steps (R461, R462) -/

/-- The state that an outcome leaves. -/
def toState (s : State) : Host.Outcome State Fault Refusal → State
  | .next t => t
  | _ => s

/-- One instruction issues. -/
def runInstr (x : Instr) (s : State) : State :=
  match x with
  | .nop i => toState s (execNop i s)
  | .add i d a b => toState s (execAdd i d a b s)
  | .adds i d a b => toState s (execAdds i d a b s)
  | .sub i d a b => toState s (execSub i d a b s)
  | .subs i d a b => toState s (execSubs i d a b s)
  | .addu i d a b => toState s (execAddu i d a b s)
  | .subu i d a b => toState s (execSubu i d a b s)
  | .neg i d a => toState s (execNeg i d a s)
  | .negs i d a => toState s (execNegs i d a s)
  | .abs i d a => toState s (execAbs i d a s)
  | .abss i d a => toState s (execAbss i d a s)
  | .min i d a b => toState s (execMin i d a b s)
  | .max i d a b => toState s (execMax i d a b s)
  | .clip i d a b => toState s (execClip i d a b s)
  | .norm i d a => toState s (execNorm i d a s)
  | .and i d a b => toState s (execAnd i d a b s)
  | .or i d a b => toState s (execOr i d a b s)
  | .xor i d a b => toState s (execXor i d a b s)
  | .not i d a => toState s (execNot i d a s)
  | .asr i d a b => toState s (execAsr i d a b s)
  | .lsr i d a b => toState s (execLsr i d a b s)
  | .lsl i d a b => toState s (execLsl i d a b s)
  | .lsls i d a b => toState s (execLsls i d a b s)
  | .cmp i p1 a b c => toState s (execCmp i p1 a b c s)
  | .addi i d a imm => toState s (execAddi i d a imm s)
  | .addis i d a imm => toState s (execAddis i d a imm s)
  | .andi i d a imm => toState s (execAndi i d a imm s)
  | .ori i d a imm => toState s (execOri i d a imm s)
  | .xori i d a imm => toState s (execXori i d a imm s)
  | .asri i d a n => toState s (execAsri i d a n s)
  | .lsri i d a n => toState s (execLsri i d a n s)
  | .lsli i d a n => toState s (execLsli i d a n s)
  | .lslis i d a n => toState s (execLslis i d a n s)
  | .cmpi i p1 a c imm => toState s (execCmpi i p1 a c imm s)
  | .paddi i pd ps imm => toState s (execPaddi i pd ps imm s)
  | .trap i imm => toState s (execTrap i imm s)
  | .mpy i ad a b m => toState s (execMpy i ad a b m s)
  | .mac i ad a b m => toState s (execMac i ad a b m s)
  | .msu i ad a b m => toState s (execMsu i ad a b m s)
  | .mpyd i d a b m k => toState s (execMpyd i d a b m k s)
  | .macd i d a b m k => toState s (execMacd i d a b m k s)
  | .aclr i ad => toState s (execAclr i ad s)
  | .aadd i ad aa ab => toState s (execAadd i ad aa ab s)
  | .asub i ad aa ab => toState s (execAsub i ad aa ab s)
  | .ash i ad aa b => toState s (execAsh i ad aa b s)
  | .mvda i ad a m => toState s (execMvda i ad a m s)
  | .satw i d aa k => toState s (execSatw i d aa k s)
  | .wrw i d aa k => toState s (execWrw i d aa k s)
  | .satg i d aa k => toState s (execSatg i d aa k s)
  | .satc i d aa => toState s (execSatc i d aa s)
  | .aget i d aa part => toState s (execAget i d aa part s)
  | .aput i ad a part => toState s (execAput i ad a part s)
  | .mov i d a => toState s (execMov i d a s)
  | .mvp i pd a => toState s (execMvp i pd a s)
  | .mpd i d pa => toState s (execMpd i d pa s)
  | .mvc i c7 a => toState s (execMvc i c7 a s)
  | .mcd i d c => toState s (execMcd i d c s)
  | .movl i d imm => toState s (execMovl i d imm s)
  | .movh i d imm => toState s (execMovh i d imm s)
  | .movp i pd imm => toState s (execMovp i pd imm s)
  | .ld i d pb m ofs ce => toState s (execLd i d pb m ofs ce s)
  | .st i d pb m ofs => toState s (execSt i d pb m ofs s)
  | .ldc i d pb m ofs ce => toState s (execLdc i d pb m ofs ce s)
  | .stc i d pb m ofs => toState s (execStc i d pb m ofs s)
  | .ldg i d b ofs => toState s (execLdg i d b ofs s)
  | .stg i d b ofs => toState s (execStg i d b ofs s)
  | .ldp i pd pb m ofs ce => toState s (execLdp i pd pb m ofs ce s)
  | .stp i ps pb m ofs => toState s (execStp i ps pb m ofs s)
  | .br i ofs => toState s (execBr i ofs s)
  | .call i ofs => toState s (execCall i ofs s)
  | .loop i creg count len => toState s (execLoop i creg count len s)
  | .jmp i a => toState s (execJmp i a s)
  | .callr i a => toState s (execCallr i a s)
  | .ret i => toState s (execRet i s)
  | .reti i => toState s (execReti i s)
  | .wait i => toState s (execWait i s)
  | .mvs i sd a => toState s (execMvs i sd a s)
  | .msv i d sa => toState s (execMsv i d sa s)
  | .mpuw i a b => toState s (execMpuw i a b s)
  | .smp i d other src => toState s (execSmp i d other src s)
  | .out i a tgt => toState s (execOut i a tgt s)
  | .xchs i a w => toState s (execXchs i a w s)
  | .xchr i d lane idx p1 w => toState s (execXchr i d lane idx p1 w s)
  | .sco i d g => toState s (execSco i d g s)
  | .tbl i d x pb signed => toState s (execTbl i d x pb signed s)
  | .envt i a field p1 => toState s (execEnvt i a field p1 s)
  | .lock i => toState s (execLock i s)
  | .unlock i => toState s (execUnlock i s)
  | .tickend i => toState s (execTickend i s)
  | _ => s

/-- A halted core issues the bundle that it stands at, in lane cycle `cyc`, and halts again. A bundle that is no bundle is a precise
exception of a steward, and after an exception of slot 0 slot 1 does not issue (R106). -/
def State.stepCore (s : State) (k cyc : Nat) : State :=
  let c := s.core k
  if !c.halted then s
  else
    let w := s.bundle k (s.bankOf k) c.pc
    let was := c.running
    let s := s.setCore k { c with halted := false, running := true, stepping := true }
    let s :=
      match decodeBundle k cyc w with
      | some (x, y) =>
        let s := runInstr x s
        if (s.core k).snap.isSome then runInstr y s else s
      | none =>
        if !isSteward k then s
        else if !(s.core k).mpuAllows 0 c.pc false true then s.mpuRefuse k c.pc cyc
        else s.precise k 3 cyc
    s.modCore k fun d => { d with halted := true, haltPend := false, stepping := false, running := was && d.running }

end Sys2Proof.Machine
end

