-- ==== Sys2Proof/Machine/Access.lean ====
section
/-! DEFINITION. What an access to the gazetteer meets before its words are reached: rights classes, reserved encodings, wide
quantities, and what a register reads as (R6 to R9, R333, R339, R459). -/

namespace Sys2Proof.Machine

/-! ### Rights classes (R333) -/

/-- The class that a read of a word needs (R333, R464). -/
def readClass (l : Loc) : Nat :=
  match l with
  | .pkg o => if 0x3801 ≤ o ∧ o ≤ 0x3805 then clsMaintain else clsObserve
  | _ => clsObserve

/-- The write class of a register, before the classes that its chapter gives single fields (R333). -/
def writeClass (l : Loc) : Nat :=
  match l with
  | .pkg o =>
    if o = 0x41 ∨ (0x200 ≤ o ∧ o ≤ 0x203) ∨ o = 0x300D ∨ o = 0x3402 ∨ (0x3600 ≤ o ∧ o ≤ 0x360F) ∨ (0x3801 ≤ o ∧ o ≤ 0x3805) then clsMaintain
    else if (0x1000 ≤ o ∧ o ≤ 0x1003) ∨ (0x2200 ≤ o ∧ o ≤ 0x2216) ∨ o = 0x2241 ∨ (0x3610 ≤ o ∧ o ≤ 0x3613) then clsIntegrate
    else if o = 0x1802 ∨ o = 0x2603 ∨ o = 0x3201 ∨ o = 0x3205 then clsOperate
    else if 0x2C11 ≤ o ∧ o ≤ 0x2C13 then clsObserve
    else clsConfigure
  | _ => clsConfigure

/-- The class of a field that its chapter names, else the register's own (R333; halts: log entry 65). -/
def fieldClass (l : Loc) (f : Fld) : Nat :=
  match l with
  | .pkg _ =>
    if l = TRP_CTL ∧ f = TRP_CTL_RESURVEY then clsMaintain
    else if l = CAP_WV_CMD ∧ f = CAP_WV_CMD_SEND then clsOperate
    else if l = REC_CMD then (if f = REC_CMD_FLUSH then clsOperate else clsMaintain)
    else writeClass l
  | .rail _ o => if o = 0 ∧ f = PHS_RAIL_CTL_STATE then clsOperate else clsConfigure
  | .port _ o => if o = 0x51 then clsOperate else clsConfigure
  | .fsrc _ => if f = FLT_SRC_FORCE then clsMaintain else if f = FLT_SRC_SEEN then clsOperate else clsConfigure
  | .tile _ o =>
    if (o = 0x40 ∧ (f = DBG_SCTL_HALT ∨ f = DBG_SCTL_HARD ∨ f = DBG_SCTL_STEP)) ∨ (0x44 ≤ o ∧ o ≤ 0x47 ∧ f = DBG_SBP_EN) then clsMaintain
    else clsConfigure
  | .lane _ o =>
    if o = 0 ∧ f = LAN_CTL_SWITCH_SEL then clsMaintain
    else if o = 0x10 ∧ (f = DBG_LCTL_HALT ∨ f = DBG_LCTL_HARD ∨ f = DBG_LCTL_STEP ∨ f = DBG_LCTL_BP_EN) then clsMaintain else clsConfigure
  | _ => clsConfigure

/-- Does a write reach a field of this access type (R9)? -/
def AccType.writable : AccType → Bool
  | .ro => false
  | .rc => false
  | _ => true

/-- Can a write reach anything of a register? -/
def RegDesc.writable (d : RegDesc) : Bool := d.fields.any fun f => f.acc.writable

/-! ### What a register reads as -/

/-- The word of the coefficient and table RAM behind word `w` of tile `n`'s window (R63, R471). -/
def State.windowAddr (s : State) (n w : Nat) : Nat := w + 0x8000 * s.getF (LAN_CRAM_PAGE n) LAN_CRAM_PAGE_PAGE

/-- The word that a register of the package region shows where a unit behind it holds its content. -/
def State.livePkg (s : State) (l : Loc) : Word :=
  if l = ENV_OTP_DATA then s.envData
  else if l = PKG_ID then PKG_ID_STEP.put (s.rd l) (b2n Config.laterStepping)
  else if l = RGT_STAT then RGT_STAT_SEALED.put (s.rd l) (b2n s.otp.rightsSealed)
  else if l = REC_HOURS_LO then lo24 s.rcd.hours
  else if l = REC_HOURS_HI then hi24 s.rcd.hours
  else if l = REC_CYCLES then lo24 s.rcd.cycles
  else if l = REC_CLEARS then lo24 s.rcd.clears
  else if l = REC_NEXT_LO then lo24 s.rcd.next
  else if l = REC_NEXT_HI then hi24 s.rcd.next
  else if l = REC_BASE_LO then lo24 s.rcd.base
  else if l = REC_BASE_HI then hi24 s.rcd.base
  else if l = REC_STRM_ACK_LO then lo24 s.rcd.strmAck
  else if l = REC_STRM_ACK_HI then hi24 s.rcd.strmAck
  else if l = UPD_DL_OFS_LO then lo24 s.durable
  else if l = UPD_DL_OFS_HI then hi24 s.durable
  else if l = UPD_BOOTREC then BitVec.ofNat 24 s.bootRecWord
  else if l = UPD_KEY_DATA then Tab.get 0 s.otp.keys (s.getF UPD_KEY_ADDR UPD_KEY_ADDR_ADDR)
  else if l = UPD_KEY_STAT then BitVec.ofNat 24 (s.otp.revoked * 16 + s.otp.prog)
  else match l with
    | .pkg o => if 0x2200 ≤ o ∧ o ≤ 0x2216 then s.mapWord (o - 0x2200) else s.rd l
    | _ => s.rd l

/-- What a place holds at this instant (R9). -/
def State.content (s : State) (l : Loc) : Word :=
  match l with
  | .pkg _ => s.livePkg l
  | .tile n o =>
    if o = 0x41 then s.sstat n
    else if l = PRF_CEN_RD_DATA n then s.cenRead n
    else if l = PRF_TAG_POP n then PRF_TAG_POP_FILL.put (s.rd l) (s.tile n).tags.length
    else if 0x7018 ≤ o ∧ o ≤ 0x7020 then (s.traceRead n (o - 0x7018)).1
    else s.rd l
  | .lane k o =>
    if o = 0x11 then s.lstat k
    else if 7 ≤ o ∧ o ≤ 9 then
      BitVec.ofNat 24 ((s.bundle k (1 - s.bankOf k) (s.getF (LAN_PGM_ADDR k) LAN_PGM_ADDR_ADDR)).toNat / 2 ^ (24 * (o - 7)))
    else s.rd l
  | .port p o => if 0xB1 ≤ o ∧ o ≤ 0xB6 then s.ageRead p o else s.rd l
  | .cram n w => s.cramWord n (s.windowAddr n w)
  | _ => s.rd l

/-- What a place reads as at this instant, without side effects: commands read 0. -/
def State.live (s : State) (l : Loc) : Word := if l.commandBits = 0 then s.content l else s.content l &&& ~~~BitVec.ofNat 24 l.commandBits

/-- The fields that writing a word changes (R333): a different value, or a 1 for a W1C bit. -/
def State.changedFields (s : State) (l : Loc) (d : RegDesc) (w : Word) : List Fld :=
  (d.fields.filter fun f =>
    match f.acc with
    | .ro => false
    | .rc => false
    | .w1c => f.fld.get w != 0
    | _ => f.fld.get w != f.fld.get (s.live l)).map (·.fld)

/-- Do rights allow a write of a word (R333)? A hole has write class CONFIGURE (R469). A breakpoint that a write keeps enabled needs
MAINTAIN as well (R462). -/
def State.mayWrite (s : State) (rights : Nat) (a : Nat) (w : Word) : Bool :=
  match locate a with
  | none => holds rights clsConfigure
  | some l =>
    match l.desc with
    | none => holds rights clsConfigure
    | some d =>
      let ch := s.changedFields l d w
      (if ch.isEmpty then
        holds rights (writeClass l) || d.fields.any (fun f => f.acc.writable && holds rights (fieldClass l f.fld))
      else ch.all fun f => holds rights (fieldClass l f))
      && (match l with | .lane _ o => o != 0x10 || !DBG_LCTL_BP_EN.on w || holds rights clsMaintain | _ => true)

/-- Do rights allow a read of a word (R333)? A hole has read class OBSERVE (R469). -/
def mayRead (rights a : Nat) : Bool := holds rights (match locate a with | none => clsObserve | some l => readClass l)

/-- The rights check (R339): none where every word is allowed, else whether the access straddles. -/
def State.rightsRefusal (s : State) (x : Access) : Option Bool :=
  let ok (e : Nat × Word) : Bool := if x.write then s.mayWrite x.rights e.1 e.2 else mayRead x.rights e.1
  match x.words with
  | [] => none
  | e :: t => if !ok e then some false else if t.all ok then none else some true

/-! ### Wide quantities (R8) -/

/-- First offsets and lengths of the wide quantities of the package region. -/
def pkgWide : List (Nat × Nat) :=
  [(0x104, 2), (0x108, 2), (0x201, 2), (0xF0D, 2), (0xF24, 2), (0xF26, 2), (0x1403, 2), (0x180D, 2), (0x1C20, 2), (0x1C22, 2),
   (0x1C24, 2), (0x1C26, 6), (0x1C2C, 6), (0x1C32, 6), (0x1C46, 2), (0x1C48, 2), (0x1C4A, 2), (0x1C4C, 2)]
  ++ [(0x2215, 2), (0x2405, 3), (0x2C05, 2), (0x2C09, 2), (0x2C0B, 2), (0x2C0D, 2), (0x2C12, 2), (0x3606, 2), (0x3609, 2), (0x360C, 2)]

/-- The wide quantity that a word belongs to: its lowest word, the word's place, and how many words it has. -/
def wideOf (l : Loc) : Option (Loc × Nat × Nat) :=
  match l with
  | .pkg o => (pkgWide.find? fun e => decide (e.1 ≤ o) && decide (o < e.1 + e.2)).map fun (e : Nat × Nat) => (.pkg e.1, o - e.1, e.2)
  | .tile n o =>
    if o = 0x6E00 ∨ o = 0x6E01 then some (.tile n 0x6E00, o - 0x6E00, 2)
    else if o = 0x7014 ∨ o = 0x7015 then some (.tile n 0x7014, o - 0x7014, 2) else none
  | .lane k o => if 7 ≤ o ∧ o ≤ 9 then some (.lane k 7, o - 7, 3) else none
  | .rail r o => if 4 ≤ o ∧ o < 10 then some (.rail r 4, o - 4, 6) else if 10 ≤ o ∧ o < 16 then some (.rail r 10, o - 10, 6) else none
  | .string u o => if o = 0x1A ∨ o = 0x1B then some (.string u 0x1A, o - 0x1A, 2) else none
  | .pprf b o => if 0x10 ≤ o then some (.pprf b (o - o % 2), o % 2, 2) else none
  | .tprf n b o => if 0x10 ≤ o then some (.tprf n b (o - o % 2), o % 2, 2) else none
  | _ => none

/-- The place `k` words above a place of the same block. -/
def Loc.up (l : Loc) (k : Nat) : Loc :=
  match l with
  | .pkg o => .pkg (o + k)
  | .tile n o => .tile n (o + k)
  | .lane j o => .lane j (o + k)
  | .rail r o => .rail r (o + k)
  | .string u o => .string u (o + k)
  | .pprf b o => .pprf b (o + k)
  | .tprf n b o => .tprf n b (o + k)
  | x => x

/-- A read of the lowest word captures the higher ones (R8), for the peek path privately (R459). -/
def State.capture (s : State) (l : Loc) (peek : Bool) : State :=
  match wideOf l with
  | some (base, 0, n) =>
    let put (t : Tab (Option Word)) : Tab (Option Word) :=
      (List.range (n - 1)).foldl (fun t k => Tab.set none t (base.up (k + 1)).addr (some (s.live (base.up (k + 1))))) t
    if peek then { s with dbg := { s.dbg with capt := put s.dbg.capt } } else { s with capt := put s.capt }
  | _ => s

/-- The word that a read returns: a captured one for a higher word of a wide quantity, once one is captured (R8). -/
def State.shown (s : State) (l : Loc) (peek : Bool) : Word :=
  match wideOf l with
  | some (_, _ + 1, _) => (Tab.get none (if peek then s.dbg.capt else s.capt) l.addr).getD (s.live l)
  | _ => if peek then (Tab.get none s.dbg.capt l.addr).getD (s.live l) else s.live l

/-! ### Reserved encodings (R7) -/

/-- The events that a block's class lists (R450). -/
def evtOk (l : Loc) (e : Nat) : Bool :=
  let r (a b : Nat) : Bool := decide (a ≤ e) && decide (e ≤ b)
  e ≤ 1 || (match l with
    | .tprf _ b _ =>
      if b < 16 then r 0x0C 0x1C else if b < 32 then r 0x20 0x25 else if b = 32 then r 0x30 0x34 else if b = 33 then r 0x40 0x44
      else if b = 34 then r 0x50 0x53 else r 0x60 0x61
    | .pprf b _ =>
      if b < 6 then r 0x70 0x74 else if b < 8 then r 0x80 0x82 else if b < 12 then r 0x90 0x92 else if b = 12 then r 0xA0 0xA1 else r 0xB0 0xB1
    | _ => false)

/-- Reserved encodings of the package region. -/
def reservedPkg (l : Loc) (w : Word) : Bool :=
  if l = MER_CTL then MER_CTL_SRC.get w == 3
  else if l = FUS_STG_CTL then decide (1 < FUS_STG_CTL_SRC.get w)
  else if l = HLD_CTL then decide (16 < HLD_CTL_AVG.get w)
  else if l = HLD_ETA then decide (w.toInt ≤ 0)
  else if l = ENV_OTP_ADDR then decide (1025 < ENV_OTP_ADDR_ADDR.get w)
  else if l = TRP_CTL then decide (6 ≤ TRP_CTL_THRU.get w)
  else if l = CAP_WV_LEAD then decide (CAP_WV_LEAD_LEAD.get w < 16)
  else if l = CAP_WV_CMD then CAP_WV_CMD_OP.get w == 3
  else if l = MGT_CTL then MGT_CTL_REVERT.get w == 0
  else if l = MGT_CMP then MGT_CMP_MISS.get w == 0 || MGT_CMP_WIN.get w == 0
  else if l = MGT_PROBE then
    MGT_PROBE_PASS.get w == 0 || MGT_PROBE_FAIL.get w == 0 || MGT_PROBE_TMO.get w == 0 || decide (100 ≤ MGT_PROBE_TMO.get w)
  else if l = MGT_PTP then MGT_PTP_PATH.get w == 3
  else if l = WDG_CTL then WDG_CTL_ACT.get w == 3
  else if l = WDG_PERIOD then decide (WDG_PERIOD_P.get w < 10) || decide (100000 < WDG_PERIOD_P.get w)
  else if l = WDG_PULSE then decide (WDG_PULSE_WIDTH.get w < 1) || decide (200 < WDG_PULSE_WIDTH.get w)
  else if l = REC_CTL then decide (20 < REC_CTL_HDIV.get w)
  else if l = REC_RL then REC_RL_BURST.get w == 0 || REC_RL_PER.get w == 0
  else if l = REC_RD_SEL then REC_RD_SEL_AREA.get w == 3
  else if l = AGE_AVS_BUS then AGE_AVS_BUS_BUS.get w == 0
  else if l = UPD_WIN then decide (UPD_WIN_SEC.get w < 1) || decide (3600 < UPD_WIN_SEC.get w)
  else if l = PRF_CEN_CTL then decide (16 < PRF_CEN_CTL_K.get w)
  else if l = DBG_MEM_SEL then decide (6 ≤ DBG_MEM_SEL_SPACE.get w)
  else match l with
    | .pkg o => decide (0x2D80 ≤ o) && decide (o < 0x2DC0) && decide (23 < REC_HSH_SH.get w)
    | _ => false

/-- Reserved encodings of a port block. -/
def reservedPort (o : Nat) (w : Word) : Bool :=
  if o = 0x0 then decide (4 < STG_CTL_PERS.get w)
  else if o = 0x2 then STG_PWM_MODE.get w == 3 || STG_PWM_MULT.get w == 0 || decide (10 < STG_PWM_MULT.get w)
  else if o = 0x4 then STG_DT_DT.get w == 255
  else if o = 0x5 then decide (STG_SNS_OPEN_INT.get w < 4)
  else if o = 0x40 then PHS_GS_CTL_SRC.get w == 7
  else if o = 0x50 then FUS_CTL_COOL.get w == 0 || decide (25 ≤ FUS_CTL_COOL.get w)
  else if o = 0x56 then w == 0
  else if o = 0x59 then FUS_RETRY_TON.get w == 0 || FUS_RETRY_TOFF.get w == 0 || FUS_RETRY_CLEAN.get w == 0
  else false

/-- Reserved encodings of a bus block (R312, R316, R327, R331). -/
def State.reservedBus (s : State) (b o : Nat) (w : Word) : Bool :=
  let a := TWB_ADDR_ADDR.get w
  if o = 0 then TWB_CTL_MODE.get w == 3 || TWB_CTL_ROLE.get w == 3 || (b == 0 && TWB_CTL_ROLE.get w != 0)
  else if o = 1 then decide (a < 9) || a == 0xC || decide (0x78 ≤ a)
  else if 2 ≤ o ∧ o ≤ 5 then !twbTimingOk (s.getF (TWB_CTL b) TWB_CTL_MODE) (o - 2) w
  else if o = 8 then
    decide (63 < TWB_XFER_WCNT.get w) || decide (63 < TWB_XFER_RCNT.get w) || (TWB_XFER_WCNT.get w == 0 && TWB_XFER_RCNT.get w == 0)
  else false

/-- Does a write place a reserved encoding in a field (R7)? -/
def State.reserved (s : State) (l : Loc) (w : Word) : Bool :=
  match l with
  | .pkg _ => reservedPkg l w
  | .tile _ o =>
    if o = 0x6E10 then decide (PRF_TAG_CTL_K.get w < 1) || decide (20 < PRF_TAG_CTL_K.get w)
    else if 0x7008 ≤ o ∧ o ≤ 0x700F then TRC_NODE_KIND.get w == 7
    else if o = 0x7010 then decide (6 ≤ TRC_TRIG_COND.get w)
    else false
  | .port _ o => reservedPort o w
  | .rail _ o =>
    if o = 0 then decide (4 < PHS_RAIL_CTL_STATE.get w) || PHS_RAIL_CTL_ODIV.get w == 7
    else if o = 0x1C then
      [PHS_RAIL_OVL_A_A0, PHS_RAIL_OVL_A_A1, PHS_RAIL_OVL_A_A2, PHS_RAIL_OVL_A_A3].any fun (f : Fld) => decide (20 < f.get w)
    else if o = 0x20 then decide (16 < PHS_TLM_CTL_K.get w)
    else false
  | .string _ o =>
    if o = 0 then BAT_CTL_CELLS.get w == 0
    else if o = 0x17 then BAT_EOC_DIV.get w == 0 || BAT_EOC_TIME.get w == 0
    else if o = 0x18 then BAT_EOD_DIV.get w == 0 || BAT_EOD_TIME.get w == 0
    else false
  | .bus b o => s.reservedBus b o w
  | .probe _ o => o == 0 && (AGE_CAP_CTL_EVERY.get w == 0 || AGE_CAP_CTL_H.get w == 0)
  | .fcls _ => FLT_CLS_N.get w == 0 || FLT_CLS_W.get w == 0 || (FLT_CLS_WUNIT.on w && decide (10000 < FLT_CLS_W.get w))
  | .tprf _ _ o => decide (o < 8) && !evtOk l (PRF_SEL_EVT.get w)
  | .pprf _ o => decide (o < 8) && !evtOk l (PRF_SEL_EVT.get w)
  | _ => false

end Sys2Proof.Machine
end

