-- ==== Sys2Proof/Machine/Gazetteer.lean ====
section
/-! DEFINITION. The shared operation of a gazetteer access: its checks, its words, its report (R20 to R22, R26, R333, R339, R340, R402,
R467 to R475, R498). -/

namespace Sys2Proof.Machine

/-- The outcome of an access: 0 OK, 2 RIGHTS, 3 ACCESS_ERR; the words read; the places of written words that ended with error status,
as bits (R246, R340, R498). -/
structure Ans where
  status : Nat
  vals : List Word := []
  bad : Nat := 0
  deriving DecidableEq, Repr

/-- The tile at which an access of an arrival port enters the fabric (R17, R334). -/
def portTile (p : Nat) : Nat :=
  if p < 4 then busTile p else if p = 4 then 0 else if p = 5 then 7 else if p < 12 then p - 5 else if p = 12 then 0 else p - 13

/-- The tile that owns an address (R467); the reserved region is answered by tile 0. -/
def ownerTile (a : Nat) : Nat := if a < 0x10000 ∨ 0x90000 ≤ a then 0 else a / 0x10000 - 1

/-- The tiles that own the words of an access. -/
def Access.owners (x : Access) : List Nat := (x.words.map fun e => ownerTile e.1).eraseDups

/-- First address of an access. -/
def Access.first (x : Access) : Nat := match x.words with | e :: _ => e.1 | [] => 0

/-! ### Reading a word -/

/-- A read clears the RC fields of a register to their reset values (R9). -/
def State.clearRc (s : State) (l : Loc) (d : RegDesc) : State :=
  if d.fields.any fun f => f.acc == .rc then
    s.wr l (d.fields.foldl (fun (v : Word) f => if f.acc = .rc then f.fld.put v f.rst else v) (s.rd l))
  else s

/-- A read of a word, with its side effects but for the peek path (R8, R9, R452, R453, R456, R459, R464). False: error status. -/
def State.readWord (s : State) (l : Loc) (d : RegDesc) (peek : Bool) : State × Word × Bool :=
  let s := s.capture l peek
  let w := s.shown l peek
  match l with
  | .pkg o =>
    if o = 0x3803 then
      match s.dbgRead with
      | (t, some v) =>
        if peek then
          let c := Tab.set none (Tab.set none s.dbg.capt DBG_MEM_DATA1.addr (some (t.rd DBG_MEM_DATA1))) DBG_MEM_DATA2.addr (some (t.rd DBG_MEM_DATA2))
          ({ s with dbg := { s.dbg with capt := c } }, v, true)
        else (t.dbgAdvance, v, true)
      | (_, none) => (s, 0, false)
    else (if peek then s else s.clearRc l d, w, true)
  | .tile n o =>
    if o = 0x6E11 then (if peek then s else s.tagPop n, w, true)
    else if o = 0x6E05 then (if peek then s else s.cenAdvance n, w, true)
    else if 0x7018 ≤ o ∧ o ≤ 0x7020 then
      let r := s.traceRead n (o - 0x7018)
      ({ s with free := s.free + 1 }, if r.2 then r.1 else 0, r.2)
    else (if peek then s else s.clearRc l d, w, true)
  | _ => (if peek then s else s.clearRc l d, w, true)

/-! ### Writing a word -/

/-- The word written, in the fields that a write reaches (R6, R9). -/
def RegDesc.taken (d : RegDesc) (w : Word) : Word :=
  d.fields.foldl (fun (v : Word) f => if f.acc.writable then f.fld.put v (f.fld.get w) else v) 0

/-- What a register holds after a plain write (R6, R9): a 1 clears a W1C bit. -/
def RegDesc.merge (d : RegDesc) (old w : Word) : Word :=
  d.fields.foldl (fun (v : Word) f =>
    match f.acc with
    | .ro => v
    | .rc => v
    | .w1c => f.fld.put v (f.fld.get v - (f.fld.get v &&& f.fld.get w))
    | _ => f.fld.put v (f.fld.get w)) old

/-- A write with no effect beyond its register. -/
def State.plainWrite (s : State) (l : Loc) (w : Word) : State :=
  match l.desc with
  | some d => s.wr l (d.merge (s.rd l) w)
  | none => s

/-- An effect that its register never refuses. -/
def accepted (s : State) : State × Bool := (s, true)

/-- The write of a word of the package region, in the fields that a write reaches. False: its register refuses it. -/
def State.writePkg (s : State) (x : Access) (o : Nat) (w : Word) (cyc : Nat) : State × Bool :=
  let l := Loc.pkg o
  let flash : Bool × State := match x.flash with | some b => (b, s) | none => s.takeBool
  let elapsed := x.elapsed.getD s.wdg.elapsed
  let live := decide (x.rights / 32 % 2 = 1)
  if o = 0x41 then accepted (s.tileRstWrite w)
  else if o = 0x100 then accepted (s.merCtlWrite w)
  else if o = 0x103 then accepted (s.rateRequest w)
  else if o = 0x200 then s.switchWrite w
  else if o = 0x1002 then accepted (s.envProgram w)
  else if o = 0x1003 then accepted (s.envCmd w)
  else if o = 0x1400 then
    let r := s.trpCtlWrite w
    if r.2 && TRP_CTL_RESURVEY.on w && r.1.isRing then accepted (r.1.resurvey cyc) else r
  else if o = 0x1802 then accepted (s.capLocalWrite w)
  else if o = 0x1C00 then accepted (s.mgtCtlWrite w cyc)
  else if o = 0x1809 then s.waveWrite w
  else if 0x2200 ≤ o ∧ o ≤ 0x2214 then s.mapProgram (o - 0x2200) w
  else if 0x2220 ≤ o ∧ o ≤ 0x2234 then accepted (s.rgtTighten (o - 0x2220) w)
  else if o = 0x2241 then s.rgtCmd w
  else if 0x2600 ≤ o ∧ o ≤ 0x2602 then s.wdgConfig l w elapsed cyc
  else if o = 0x2603 then accepted (s.wdgKey w elapsed cyc)
  else if o = 0x2C00 then accepted (s.recCtlWrite w cyc)
  else if o = 0x2C03 then accepted (s.recCmd x.port w)
  else if o = 0x2C04 then accepted (s.recRlWrite w)
  else if 0x2D00 ≤ o ∧ o ≤ 0x2DBF then s.hqWrite l (if o < 0x2D80 then (o - 0x2D00) / 2 else o - 0x2D80) w
  else if o = 0x300D then accepted (s.ageCmd w cyc)
  else if o = 0x3205 then accepted (if PWS_CMD_WAKE.on w then s.lullWake false cyc else s)
  else if o = 0x3402 then accepted (s.bootCmd w)
  else if o = 0x3601 then flash.2.updCmd w flash.1 cyc
  else if o = 0x3603 then s.updConfirm x.port w
  else if o = 0x360B then accepted (flash.2.dlDataWrite w flash.1 cyc)
  else if o = 0x3611 then s.keyProgram w
  else if o = 0x3613 then s.keyRevoke w
  else if o = 0x3800 then accepted (s.sessionWrite x.port w cyc)
  else if o = 0x3803 then s.dbgWrite w live cyc
  else if o = 0x3900 then accepted (s.prfCtlWrite w)
  else accepted (s.plainWrite l w)

/-- A write of DBG_LCTL (R462, R463): a halt, a step or a breakpoint at a port that is not OFF needs the live-debug right. -/
def State.lctlAccess (s : State) (x : Access) (l : Nat) (w : Word) (cyc : Nat) : State × Bool :=
  let needs := DBG_LCTL_HALT.on w || DBG_LCTL_HARD.on w || DBG_LCTL_STEP.on w || DBG_LCTL_BP_EN.on w
  if needs ∧ s.pstate l ≠ 0 ∧ x.rights / 32 % 2 = 0 then (s.raise (tileSrc (l / 16) DBG_LIVE_REFUSED) (l / 16) cyc, false)
  else
    let s := s.lctlWrite l w cyc
    accepted (if DBG_LCTL_STEP.on w then s.stepCore l cyc else s)

/-- The write of a word outside the package region proper. False: its register refuses it. -/
def State.writeUnit (s : State) (x : Access) (l : Loc) (w : Word) (cyc : Nat) : State × Bool :=
  match l with
  | .pkg o => s.writePkg x o w cyc
  | .tile n o =>
    if 0x10 ≤ o ∧ o < 0x18 then
      let s := s.plainWrite l w
      accepted (if x.port = 13 + n then s else s.irq n 7)
    else if o = 0x40 then
      let s := s.sctlWrite n w cyc
      accepted (if DBG_SCTL_STEP.on w then s.stepCore (128 + n) cyc else s)
    else if o = 0x6E10 then accepted (s.tagCtlWrite n w)
    else if o = 0x7000 then accepted (s.trcCtlWrite n w)
    else accepted (s.plainWrite l w)
  | .port p o =>
    if o = 0x0 then s.stgCtlWrite p w cyc
    else if o = 0x51 then accepted (if FUS_CMD_CLEAR.on w then s.fuseClear p cyc else s)
    else if 0x80 ≤ o ∧ o ≤ 0x87 then accepted (s.writeEnv p o w cyc)
    else if o = 0x40 then accepted ((s.plainWrite l w).gsShow p)
    else accepted (s.plainWrite l w)
  | .lane k o =>
    if o = 0xA then accepted (if LAN_LOAD_CHECK.on w then s.loadStart k else s)
    else if o = 0x10 then s.lctlAccess x k w cyc
    else accepted (s.plainWrite l w)
  | .rail r o => if o = 0 then s.railCtlWrite r w else if o = 1 then s.railLeadWrite r w else accepted (s.plainWrite l w)
  | .string u o =>
    if o = 0 then s.batCtlWrite u w
    else if o = 3 then accepted (s.batQfullWrite u w)
    else if o = 4 then accepted (s.batQnomWrite u w)
    else accepted (s.plainWrite l w)
  | .entry _ _ => accepted (s.capTableWrite l w)
  | .bus b o => if o = 0 then accepted (s.twbCtlWrite b w cyc) else if o = 8 then s.twbXferWrite b w else accepted (s.plainWrite l w)
  | .fcls k => accepted (s.fltClsWrite k w)
  | .fsrc k => accepted (s.fltSrcWrite k w cyc)
  | .cram n k => accepted (s.cramPut n (s.windowAddr n k) w cyc)
  | _ => accepted (s.plainWrite l w)

/-- The words of a wide quantity, once its highest word is written: the held ones and that one (R8). -/
def State.wideWords (s : State) (base : Loc) (n : Nat) (w : Word) : List Word :=
  (List.range (n - 1)).map (fun k => (Tab.get none s.wide (base.up k).addr).getD (s.rd (base.up k))) ++ [w]

/-- A write of a wide quantity takes effect (R8). False: refused. -/
def State.wideWrite (s : State) (base : Loc) (n : Nat) (w : Word) (cyc : Nat) : State × Bool :=
  let ws := s.wideWords base n w
  let s := (List.range n).foldl (fun (s : State) k => { s with wide := Tab.set none s.wide (base.up k).addr none }) s
  let all (s : State) : State := ws.zipIdx.foldl (fun (s : State) e => s.plainWrite (base.up e.2) e.1) s
  match base with
  | .lane k _ =>
    let s := (s.plainWrite base (ws.getD 0 0)).plainWrite (base.up 1) (ws.getD 1 0)
    s.pgmStore k w cyc
  | .rail r o =>
    if o = 4 then s.railMaskWrite r (ws.foldr (fun v m => v.toNat + m * 2 ^ 24) 0) else accepted (all s)
  | .pkg o =>
    if o = 0x2215 then
      let a := s.mapProgram 21 (ws.getD 0 0)
      let b := a.1.mapProgram 22 w
      (b.1, a.2 && b.2)
    else if o = 0x2C12 then accepted (all s).recFetch
    else accepted (all s)
  | _ => accepted (all s)

/-- Has a register several write classes (R333)? -/
def RegDesc.manyClasses (d : RegDesc) (l : Loc) : Bool :=
  match (d.fields.filter fun f => f.acc.writable).map fun f => fieldClass l f.fld with
  | [] => false
  | c :: t => t.any fun k => k != c

/-- A word is written (R6 to R9, R333, R498): a write that changes no field of a register with several write classes has no effect; a
register without a field that a write reaches is not affected, a reserved encoding
leaves it unchanged with an event, the lower words of a wide quantity are held. False: its register refuses it. -/
def State.writeWord (s : State) (x : Access) (l : Loc) (d : RegDesc) (w : Word) (cyc : Nat) : State × Bool :=
  let t := d.taken w
  if !d.writable then accepted s
  else if s.reserved l t then accepted (s.raise PKG_RSVD_WRITE 0xFF cyc)
  else if d.manyClasses l && (s.changedFields l d w).isEmpty then accepted s
  else match wideOf l with
    | some (base, k, n) =>
      if k + 1 < n then
        if s.otp.rightsSealed ∧ base = .pkg 0x2215 then (s, false) else accepted { s with wide := Tab.set none s.wide l.addr (some t) }
      else s.wideWrite base n t cyc
    | none => s.writeUnit x l t cyc

/-! ### Serving an access -/

/-- The words of a read, in ascending order, and whether all ended without error status. -/
def State.readWords (s : State) (peek : Bool) : List Nat → State × List Word × Bool
  | [] => (s, [], true)
  | a :: t =>
    match locate a with
    | none => (s, [], false)
    | some l =>
      match l.desc with
      | none => (s, [], false)
      | some d =>
        let r := s.readWord l d peek
        let q := r.1.readWords peek t
        (q.1, r.2.1 :: q.2.1, r.2.2 && q.2.2)

/-- The words of a write, one by one in ascending order, and the places that ended with error status (R498). -/
def State.writeWords (s : State) (x : Access) (cyc k : Nat) : List (Nat × Word) → State × Nat
  | [] => (s, 0)
  | e :: t =>
    match locate e.1 with
    | none => (s, 0)
    | some l =>
      match l.desc with
      | none => (s, 0)
      | some d =>
        let r := s.writeWord x l d e.2 cyc
        let q := r.1.writeWords x cyc (k + 1) t
        (q.1, q.2 + if r.2 then 0 else 2 ^ k)

/-- An access refused for a hole (R469). -/
def State.holeRefuse (s : State) (x : Access) : State :=
  let s := s.bump PKG_HOLE_CNT
  let s := s.wr PKG_HOLE_LAST (BitVec.ofNat 24 (2 ^ 23 + b2n x.write * 2 ^ 22 + x.port))
  s.wr PKG_HOLE_ADDR (BitVec.ofNat 24 x.first)

/-- An access refused for rights (R339). -/
def State.rightsRefuse (s : State) (x : Access) (straddle : Bool) (cyc : Nat) : State :=
  let s := if straddle then (s.bump RGT_STR_CNT).raise RGT_STRADDLE x.port cyc else (s.bump RGT_DENY_CNT).raise RGT_DENIED x.port cyc
  let s := s.wr RGT_LAST (BitVec.ofNat 24 (2 ^ 7 + b2n straddle * 2 ^ 6 + x.port))
  s.wr RGT_LAST_ADDR (BitVec.ofNat 24 x.first)

/-- An access that touches a tile in reset (R26). -/
def State.downRefuse (s : State) (x : Access) (cyc : Nat) : Option State :=
  (x.owners.find? s.tileDown).map fun n => s.raise PKG_TILE_DOWN_ACCESS n cyc

/-- The transfers that an access makes over the fabric (R450). -/
def State.fabricCount (s : State) (x : Access) : State :=
  forList x.owners (fun n s => if n = portTile x.port then s else (s.countT (portTile x.port) 33 0x40 1).countT n 33 0x41 1) s

/-- Before a read of ENV_ registers, the tightenings that are due at lane cycle `cyc` take effect (R122). -/
def State.settleEnv (s : State) (x : Access) (cyc : Nat) : State :=
  forList x.words (fun e s => match locate e.1 with
    | some (.port p o) => if 0x80 ≤ o ∧ o ≤ 0x88 then s.envSettle p cyc else s
    | _ => s) s

/-- An access reaches its registers: the check for a tile in reset, the hole check, then its words (R26, R469, R498). -/
def State.serve (s : State) (x : Access) (cyc : Nat) : State × Ans :=
  match s.downRefuse x cyc with
  | some t => (t, { status := 3 })
  | none =>
    let s := s.fabricCount x
    if x.words.any fun e => isHole e.1 then (s.holeRefuse x, { status := 3 })
    else if x.write then
      let r := s.writeWords x cyc 0 x.words
      (r.1, { status := if r.2 = 0 then 0 else 3, bad := r.2 })
    else
      let r := (s.settleEnv x cyc).readWords x.peek (x.words.map fun e => e.1)
      (r.1, { status := if r.2.2 then 0 else 3, vals := r.2.1 })

/-! ### Reports (R340, R469, R498) -/

/-- The data words of a RESULT (R246): the words read, or the mask of refused words of a write. -/
def Ans.words (r : Ans) (write : Bool) : List Word :=
  if write then (if r.bad = 0 then [] else [BitVec.ofNat 24 r.bad]) else if r.status = 0 then r.vals else []

/-- The RESULT of a CMD cell: sent, and kept with its status (R246, R253). -/
def State.cellResult (s : State) (c : Cell) (status : Nat) (ws : List Word) (cyc : Nat) : State :=
  let s := { s with trp := { s.trp with streams := keepResult s.trp.streams c.src c.seq (BitVec.ofNat 24 status :: ws) } }
  s.sendResult c.src c.seq status ws cyc

/-- A steward's access is over: it goes on, or a halt that waited takes place. -/
def State.stewardGoes (s : State) (n : Nat) : State :=
  s.modCore (128 + n) fun c =>
    let c := { c with access := none }
    if c.haltPend ∧ c.snap.isNone ∧ c.lock.isNone then { c with halted := true, haltPend := false } else c

/-- A held steward goes on (R101): LDG loads its word, or 0 with GERR set; a halt that waited takes place. -/
def State.stewardDone (s : State) (n : Nat) (r : Ans) (cyc : Nat) : State :=
  let k := 128 + n
  match (s.core k).access with
  | none => s
  | some a =>
    let s := s.countCore k 0x34 (cyc - (s.core k).lastIssue)
    let s := match a with
      | .ldg d _ => s.modRegs k fun g => g.setD d (if r.status = 0 then r.vals.headD 0 else 0)
      | _ => s
    let s := if r.status = 0 then s else s.modRegs k fun g => { g with c0 := C0_GERR.put g.c0 1 }
    s.stewardGoes n

/-- An access ends with an outcome, which its asker learns. -/
def State.finish (s : State) (x : Access) (r : Ans) (cyc : Nat) : State :=
  match x.who with
  | .plain => { s with ans := (r.status, if r.status = 0 then r.vals else []) }
  | .steward n => s.stewardDone n r cyc
  | .cell c => s.cellResult c r.status (r.words x.write) cyc
  | .dgram d => s.dgramResult d r.status (r.words x.write)
  | .prefetch b => s.modBus b fun t => { t with fetching := false, buf := if r.status = 0 then r.vals else [] }
  | .busWrite b => if r.status = 0 then s else s.cmlSet b 1
  | .jtag => { s with dbg := { s.dbg with status := r.status, addr := x.first, data := if r.status = 0 ∧ !x.write then r.vals.headD 0 else s.dbg.data } }

/-- A register transfer from tile `src` fails its check at tile `dst`'s stop, which discards it (R21). -/
def State.transferFails (s : State) (src dst cyc : Nat) : State :=
  let s := (s.countT dst 33 0x44 1).setF PKG_TILE_STAT PKG_TILE_STAT_FAB_ERR (s.getF PKG_TILE_STAT PKG_TILE_STAT_FAB_ERR ||| 2 ^ src)
  s.raise PKG_FABRIC_ERR src cyc

/-- A register transfer crosses the fabric: one that fails its check is resent once. False: that one fails too (R21). -/
def State.transfer (s : State) (src dst cyc : Nat) : State × Bool :=
  let go (s : State) (l : List Bool) : State := { s with mer := { s.mer with fab := l } }
  match s.mer.fab with
  | [] => (s, true)
  | false :: t => (go s t, true)
  | true :: t => let s := s.transferFails src dst cyc
    match t with
    | true :: u => ((go s u).transferFails src dst cyc, false)
    | _ => (go s t.tail, true)

/-- Transfers cross the fabric one by one, to the first that is lost. -/
def State.transfers (s : State) (cyc : Nat) : List (Nat × Nat) → State × Bool
  | [] => (s, true)
  | e :: t => let r := s.transfer e.1 e.2 cyc
    if r.2 then r.1.transfers cyc t else r

/-- The tiles that an access must cross the fabric to. -/
def Access.far (x : Access) : List Nat := x.owners.filter fun n => n != portTile x.port

/-- An access that passed its rights check is served and ends. Its transfers, and those of the replies, cross the fabric; where one is
lost the access ends with error status (R21). -/
def State.complete (s : State) (x : Access) (cyc : Nat) : State :=
  if (s.downRefuse x cyc).isSome then
    let r := s.serve x cyc
    r.1.finish x r.2 cyc
  else
    let q := s.transfers cyc (x.far.map fun n => (portTile x.port, n))
    if !q.2 then q.1.finish x { status := 3 } cyc
    else
      let p := q.1.transfers cyc (x.far.map fun n => (n, portTile x.port))
      let r := p.1.serve x cyc
      r.1.finish x (if p.2 then r.2 else { status := 3 }) cyc

/-! ### Arrival -/

/-- The words that a write puts into the write buffer of tile `n`'s coefficient and table RAM. -/
def Access.cramWords (x : Access) (n : Nat) : Nat :=
  if x.write then (x.words.filter fun e => match locate e.1 with | some (.cram m _) => m == n | _ => false).length else 0

/-- A write for which a tile's write buffer has no room waits at its stop (R63). -/
def State.cramWaits (s : State) (x : Access) : Option Nat := x.owners.find? fun n => x.cramWords n != 0 && s.cramFull n (x.cramWords n)

/-- The tile at whose stop an access waits: a dozed one that owns a word (R402), one whose write buffer is full (R63), or, in the exchange
window, one that it must cross the fabric to (R20). -/
def State.waitsAt (s : State) (x : Access) : Option Nat :=
  match x.owners.find? fun n => (s.tile n).dozed with
  | some n => some n
  | none => match s.cramWaits x with
    | some n => some n
    | none => if s.mer.phase = .exchange then x.owners.find? fun n => n != portTile x.port else none

/-- Is a gazetteer access of an arrival port served (R405, R417)? -/
def State.serves (s : State) (port : Nat) : Bool :=
  !s.pws.keeper && (!s.recovering || port == 0 || port == 12 || (decide (6 ≤ port) && decide (port ≤ 11)))

/-- An access arrives: rights, tiles in reset, then it waits or is served (R20, R26, R339, R402, R469). Nothing answers in Keeper
(R405), and in recovery TWB0, JTAG and the troupe links alone are served (R417). -/
def State.arrive (s : State) (x : Access) (cyc : Nat) : State :=
  if !s.serves x.port then s
  else match s.rightsRefusal x with
    | some str => (s.rightsRefuse x str cyc).finish x { status := 2 } cyc
    | none =>
      match s.downRefuse x cyc with
      | some t => t.finish x { status := 3 } cyc
      | none =>
        match s.waitsAt x with
        | some n => (s.countT n 33 0x42 1).modTile n fun t => { t with held := t.held ++ [x] }
        | none => s.complete x cyc

/-- An access that waited at the stop of tile `n` is served, or waits on for its write buffer (R63). -/
def State.unhold (s : State) (n cyc : Nat) (x : Access) : State :=
  if (s.cramWaits x).isSome then s.modTile n fun t => { t with held := t.held ++ [x] } else s.complete x cyc

/-- FABRIC_HOLD_RELEASE (R20, R63, R402): accesses held at the stops are served in the order in which they wait, those at a dozed tile's
stop once the tile runs; in the exchange window none is. -/
def execFabricHoldRelease (cyc : Nat) (s : State) : Host.Outcome State Fault Refusal :=
  .next (
    if s.mer.phase = .exchange then s
    else forEach 8 (fun n s =>
      if (s.tile n).dozed then s
      else
        let l := (s.tile n).held
        let s := s.modTile n fun t => { t with held := [] }
        forList l (fun x s => s.unhold n cyc x) s) s)

/-! ### Accesses of the arrival ports -/

/-- Rights and LIVE of a local arrival port; LIVE never travels through links or management ports (R334, R341). -/
def State.portRights (s : State) (p : Nat) : Nat := if 4 ≤ p ∧ p < 12 then s.rightsOf p else (s.rd (RGT_PORT p)).toNat % 64

/-- The words of an access from an address on. -/
def wordsFrom (a : Nat) (l : List Word) : List (Nat × Word) := l.zipIdx.map fun e => (a + e.2, e.1)

/-- A write arrives at a port, with its words. -/
def State.hostWrite (s : State) (a : Arr) (l : List (Nat × Word)) : State :=
  s.arrive { who := .plain, port := a.port, rights := s.portRights a.port, write := true, words := l } a.cyc

/-- A read arrives at a port. -/
def State.hostRead (s : State) (a : Arr) (l : List Nat) : State :=
  s.arrive { who := .plain, port := a.port, rights := s.portRights a.port, write := false, words := l.map fun k => (k, 0) } a.cyc

/-- A write of one register arrives at a port. -/
def State.hostPut (s : State) (a : Arr) (l : Loc) (w : Word) : State := s.hostWrite a [(l.addr, w)]

/-- The word that a write leaves a register with all its fields as they read: a 0 in the W1C bits. -/
def State.heldWord (s : State) (l : Loc) : Word :=
  match l.desc with
  | some d => d.fields.foldl (fun (v : Word) f => if f.acc = .w1c then f.fld.put v 0 else v) (s.live l)
  | none => s.live l

/-- A write that changes one field of a register and leaves the others as they are. -/
def State.hostField (s : State) (a : Arr) (l : Loc) (f : Fld) (v : Nat) : State := s.hostPut a l (f.put (s.heldWord l) v)

/-- REGISTER_TRANSFER (R21, R22): an access of consecutive words arrives. `bad`: what the checks of the next register transfers over the
fabric find, those of this access and, where it makes fewer, of the accesses after it. -/
def execRegisterTransfer (a : Arr) (write : Bool) (addr : Nat) (ws : List Word) (bad : List Bool) (s : State) :
    Host.Outcome State Fault Refusal :=
  .next (
    let s := { s with mer := { s.mer with fab := s.mer.fab ++ bad } }
    if write then s.hostWrite a (wordsFrom addr ws)
    else s.hostRead a ((wordsFrom addr ws).map fun e => e.1))

/-- REGISTER_WRITE (R333): a write to one register arrives at a port. -/
def execRegisterWrite (a : Arr) (addr : Nat) (w : Word) (s : State) : Host.Outcome State Fault Refusal := .next (s.hostWrite a [(addr, w)])

end Sys2Proof.Machine
end

