-- ==== Sys2Proof/Machine/Commands.lean ====
section
/-! DEFINITION. Commands that arrive as cells and datagrams, queries, telemetry, downloads, the JTAG debug access, and the accesses of
stewards (R101, R246 to R256, R296, R297, R430, R431, R458, R459). -/

namespace Sys2Proof.Machine

/-! ### CMD (R246, R251 to R256, R296) -/

/-- The access that a CMD payload names (R246): none where its operation or its count is reserved. -/
def cmdAccess (who : Asker) (port rights : Nat) (ws : List Word) : Option Access :=
  let h := (ws.headD 0).toNat
  let n := h / 2 ^ 16 % 16
  let a := (ws.getD 1 0).toNat % 2 ^ 20
  match h / 2 ^ 20 with
  | 0 => if n = 0 then none else some { who := who, port := port, rights := rights, write := false, words := wordsFrom a (List.replicate n 0) }
  | 1 =>
    if n = 0 ∨ 14 < n then none
    else some { who := who, port := port, rights := rights, write := true, words := wordsFrom a ((List.range n).map fun k => ws.getD (k + 2) 0) }
  | _ => none

/-- A command runs; one with a reserved operation or count ends with error status (log entry 68). -/
def State.cmdRun (s : State) (who : Asker) (port rights : Nat) (ws : List Word) (cyc : Nat) : State :=
  match cmdAccess who port rights ws with
  | some x => s.arrive x cyc
  | none => s.finish { who := who, port := port, rights := rights, write := false, words := [] } { status := 3 } cyc

/-- A held access belongs to an asker: its command has no result yet. -/
def State.waiting (s : State) (f : Asker → Bool) : Bool := s.tiles.any fun t => t.2.held.any fun x => f x.who

/-- A repeat of a command (R253): the result kept is sent again; one that has left the cache is gone; one that still waits sends its
result when it ends. -/
def repeatResult (t : Option Stream) (seq : Nat) : Nat × List Word :=
  match t.bind fun t => t.results.find? fun r => r.1 == seq with
  | some (_, w :: ws) => (w.toNat, ws)
  | _ => (5, [])

/-- A CMD cell (R246, R254): CRC, epoch, sequence, rights, execution. -/
def State.cmdCell (s : State) (l : Nat) (c : Cell) (cyc : Nat) : State :=
  s.cellIn l cyc c fun s =>
    if !c.bcast ∧ c.epoch ≠ s.myEpoch then s.roleStale c cyc
    else
      let r := (s.ackIn c).streamIn c
      let s := r.1
      match r.2 with
      | 0 => s.cmdRun (.cell c) (6 + l) (c.rights &&& s.rightsOf (6 + l)) c.payload cyc
      | 1 =>
        if s.waiting fun a => match a with | .cell d => d.src == c.src && d.seq == c.seq | _ => false then s
        else let q := repeatResult (s.stream c.src) c.seq; s.sendResult c.src c.seq q.1 q.2 cyc
      | k => s.sendResult c.src c.seq k [] cyc

/-- CMD_READ (R246): a CMD cell with operation READ arrives. -/
def execCmdRead (l : Nat) (c : Cell) (cyc : Nat) (s : State) : Host.Outcome State Fault Refusal := .next (s.cmdCell l c cyc)

/-- CMD_WRITE (R246): a CMD cell with operation WRITE arrives. -/
def execCmdWrite (l : Nat) (c : Cell) (cyc : Nat) (s : State) : Host.Outcome State Fault Refusal := .next (s.cmdCell l c cyc)

/-- A CMD or QUERY datagram with another epoch than the device's is not executed (R256, R295). -/
def State.dgStale (s : State) (d : Dgram) (cyc : Nat) : State :=
  let s := (s.bump TRP_STALE_CNT).raise TRP_ROLE_STALE 0xFF cyc
  s.dgResult d 1 [BitVec.ofNat 24 s.role, BitVec.ofNat 24 s.myAddr, BitVec.ofNat 24 s.myEpoch]

/-- A CMD datagram for another device enters the troupe as a CMD cell (R296, R247). -/
def State.dgRelay (s : State) (f : Frame) (d : Dgram) (cyc : Nat) : State :=
  match s.routeTo d.target with
  | none => s.dgramResult d 7 []
  | some m =>
    let n := s.number { s.cellOf 3 d.target d.words with port := d.port, epoch := d.epoch, rights := s.dgRights f }
    (n.2.modMgt fun x => { x with relay := (x.relay ++ [(d.target, n.1.seq, d)]) }).enqueue m ⟨n.1, false, s.mer.count, cyc, false⟩ cyc

/-- A CMD datagram (R296): its stream, then execution here, or its way into the troupe. -/
def State.cmdDgram (s : State) (f : Frame) (d : Dgram) (cyc : Nat) : State :=
  s.dgIn f d cyc fun s =>
    let here := decide (d.target = s.myAddr)
    if here ∧ d.epoch ≠ s.myEpoch then s.dgStale d cyc
    else
      let r := s.dgStream d
      let s := r.1
      match r.2 with
      | 0 => if here then s.cmdRun (.dgram d) (4 + f.path) (s.dgRights f) d.words cyc else s.dgRelay f d cyc
      | 1 =>
        if s.waiting (fun a => match a with | .dgram e => e.key == d.key && e.seq == d.seq | _ => false)
            || s.mgt.relay.any fun x => x.2.2.key == d.key && x.2.2.seq == d.seq then s
        else let q := repeatResult (s.mgt.streams.find? fun t => t.src == d.key) d.seq; s.dgResult d q.1 q.2
      | k => s.dgResult d k []

/-- DGRAM_CMD_READ (R296): a CMD datagram with operation READ arrives. -/
def execDgramCmdRead (f : Frame) (d : Dgram) (cyc : Nat) (s : State) : Host.Outcome State Fault Refusal := .next (s.cmdDgram f d cyc)

/-- DGRAM_CMD_WRITE (R296): a CMD datagram with operation WRITE arrives. -/
def execDgramCmdWrite (f : Frame) (d : Dgram) (cyc : Nat) (s : State) : Host.Outcome State Fault Refusal := .next (s.cmdDgram f d cyc)

/-! ### QUERY and TLM (R250, R297) -/

/-- A word that the telemetry mirror serves. -/
def mirrorServes (a : Nat) : Bool := match locate a with | some l => mirrored l && l.desc.isSome | none => false

/-- The value that the mirror gives for an address: 0 where it serves none (R250). -/
def State.mirrorWord (s : State) (a : Nat) : Word :=
  if mirrorServes a then match locate a with | some l => s.mirRd l | none => 0 else 0

/-- The addresses of a query (R242). -/
def queryAddrs (ws : List Word) : List Nat :=
  (List.range ((ws.headD 0).toNat % 16)).map fun k => (ws.getD (k + 1) 0).toNat % 2 ^ 20

/-- The words of an ANSWER (R242, R250). -/
def State.answerWords (s : State) (l : List Nat) : List Word :=
  BitVec.ofNat 24 (l.zipIdx.foldl (fun n e => n + if mirrorServes e.1 then 0 else 2 ^ e.2) 0) :: l.map s.mirrorWord

/-- A query is checked for its rights, and answered by `k` (R250, R339, R340). -/
def State.queryRun (s : State) (port rights : Nat) (ws : List Word) (cyc : Nat) (k : State → List Word → State) : State :=
  let l := queryAddrs ws
  let x : Access := { who := .plain, port := port, rights := rights, write := false, words := l.map fun a => (a, 0) }
  match s.rightsRefusal x with
  | some str => s.rightsRefuse x str cyc
  | none => k s (s.answerWords l)

/-- QUERY_CELL (R250): a QUERY is answered from the telemetry mirror. -/
def execQueryCell (l : Nat) (c : Cell) (cyc : Nat) (s : State) : Host.Outcome State Fault Refusal :=
  .next (s.cellIn l cyc c fun s =>
    if !c.bcast ∧ c.epoch ≠ s.myEpoch then s.roleStale c cyc
    else (s.ackIn c).queryRun (6 + l) (c.rights &&& s.rightsOf (6 + l)) c.payload cyc
      fun s ws => s.originate (s.cellOf 6 c.src ws) cyc)

/-- DGRAM_QUERY (R250, R296): a QUERY datagram for this device is answered from the telemetry mirror. -/
def execDgramQuery (f : Frame) (d : Dgram) (cyc : Nat) (s : State) : Host.Outcome State Fault Refusal :=
  .next (s.dgIn f d cyc fun s =>
    if d.target ≠ s.myAddr then s
    else if d.epoch ≠ s.myEpoch then s.dgStale d cyc
    else s.queryRun (4 + f.path) (s.dgRights f) d.words cyc
      fun s ws => s.sendBoth d.ip (.dgram { s.dgramOf 4 d.ip d.sport d.session ws with seq := d.seq }))

/-- The words of a TLM (R297). -/
def State.tlmWords (s : State) : List Word :=
  let n := s.getF MGT_TLM MGT_TLM_N
  let a (k : Nat) : Nat := s.getF (MGT_TLM_ADDR k) MGT_TLM_ADDR_ADDR
  (List.range 16).map fun w =>
    if w = 0 then BitVec.ofNat 24 n
    else if w ≤ 7 then (if w ≤ n then BitVec.ofNat 24 (a (w - 1)) else 0)
    else if w < 15 then (if w - 8 < n then s.mirrorWord (a (w - 8)) else 0)
    else s.mirRd MER_COUNT_LO

/-- TLM_SEND (R297): a device with MGT_TLM.EN sends a TLM: a member as a cell to address 0, the ringmaster as a datagram to the
peer. -/
def execTlmSend (cyc : Nat) (s : State) : Host.Outcome State Fault Refusal :=
  .next (
    if !s.flag MGT_TLM MGT_TLM_EN then s
    else if s.isRing then s.sendBoth s.peerIp (.dgram (s.toPeer 6 s.tlmWords))
    else s.originate (s.cellOf 0xA 0 s.tlmWords) cyc)

/-! ### Downloads (R430, R431) -/

/-- The settings area that the running image uses (R438, R443). -/
def State.settingsArea (s : State) : Nat :=
  match s.upd.bootRec with
  | some r => if r.trial ∧ s.updState = 6 then r.tset else r.cset
  | none => 0

/-- Bytes of an image download (R430, R431): with offset 0 they open a download first. False: not the next byte expected, or no
download. -/
def State.imageBytes (s : State) (ofs : Nat) (l : List Nat) (ok : Bool) (cyc : Nat) : State × Bool :=
  if ofs = 0 then
    let r := s.updOpen ok cyc
    if r.2 ∧ r.1.updState = 1 then r.1.dlWrite 0 l ok cyc else (r.1, false)
  else s.dlWrite ofs l ok cyc

/-- A download by BULK is refused for want of MAINTAIN rights (R332, R339, log entry 72). -/
def State.bulkDenied (s : State) (port rights cyc : Nat) : State :=
  s.rightsRefuse { who := .plain, port := port, rights := rights, write := true, words := [(UPD_DL_DATA.addr, 0)] } false cyc

/-- The data bytes of a BULK cell (R430). -/
def bulkBytes (ws : List Word) : List Nat := ((ws.drop 2).flatMap wordBytes).take (min 42 ((ws.getD 1 0).toNat % 64))

/-- BULK_CELL (R430, R431): image bytes reach the download; the device answers with the durable offset. `ok`: the boot flash takes
them. -/
def execBulkCell (l : Nat) (c : Cell) (ok : Bool) (cyc : Nat) (s : State) : Host.Outcome State Fault Refusal :=
  .next (s.cellIn l cyc c fun s => s.streamCell c fun s =>
    let flags := (c.payload.getD 1 0).toNat / 2 ^ 16
    let rights := c.rights &&& s.rightsOf (6 + l)
    if !holds rights clsMaintain then s.bulkDenied (6 + l) rights cyc
    else
      let s := if flags / 2 % 2 = 1 then (s.imageBytes (c.payload.headD 0).toNat (bulkBytes c.payload) ok cyc).1 else s
      s.originate (s.cellOf 0xC c.src [lo24 s.durable, BitVec.ofNat 24 (2 ^ 16)]) cyc)

/-- Bytes of a settings transfer (R302, log entry 71): in order, they go to the settings area in use, which is erased first. -/
def State.settingsBytes (s : State) (live ofs : Nat) (l : List Nat) : State × Bool :=
  let base := settingsBase s.settingsArea
  if ofs ≠ live ∨ 0x40000 < ofs + l.length then (s, false)
  else ((if ofs = 0 then s.flashErase base 0x40000 else s).flashPut (base + ofs) l, true)

/-- DGRAM_BULK (R296, R302, R430, R431): bytes of the bulk session; the device acknowledges with the durable offset, and with RESUME
where it discards them. -/
def execDgramBulk (f : Frame) (d : Dgram) (ok : Bool) (cyc : Nat) (s : State) : Host.Outcome State Fault Refusal :=
  .next (s.dgIn f d cyc fun s =>
    let r := s.dgStream d
    let s := r.1
    let rights := s.dgRights f
    let image := decide (d.flags / 2 % 2 = 1)
    let mine := match s.mgt.bulk with | some b => b.ip == d.ip && b.num == d.session | none => true
    if r.2 ≠ 0 ∨ d.target ≠ s.myAddr ∨ !mine then s
    else if !holds rights clsMaintain then s.bulkDenied (4 + f.path) rights cyc
    else
      let live := match s.mgt.bulk with | some b => b.live | none => 0
      let r := if image then s.imageBytes d.off d.bytes ok cyc else s.settingsBytes live d.off d.bytes
      let s := r.1
      let dur := if image then s.durable else if r.2 then d.off + d.bytes.length else live
      let goes := if image then decide (s.updState = 1) else decide (dur < 0x40000)
      let s := if s.mgt.bulk.isNone then s.sessionPath MGT_STAT_BULK else s
      let s := (s.modMgt fun m => { m with bulk := if goes then some ⟨d.session, d.ip, d.sport, false, dur, dur⟩ else none }).pathsSettle cyc
      let p := s.getF MGT_STAT MGT_STAT_BULK
      let ack : Dgram := { s.dgramOf 0x11 d.ip d.sport d.session [] with off := dur, flags := if r.2 then 0 else 1 }
      s.sendPath (if p < 2 then p else f.path) d.ip (.dgram ack))

/-! ### The JTAG debug access (R458, R459) -/

/-- The debug access register is in force and an access starts, unless one still runs (log entry 68). -/
def State.jtagStart (s : State) (write : Bool) (a : Nat) (w : Word) (peek : Bool) (cyc : Nat) : State :=
  let s := { s with dbg := { s.dbg with ir := 0x10, extest := false } }
  if s.pws.keeper ∨ s.dbg.status = 1 then s
  else
    let s := { s with dbg := { s.dbg with status := 1, addr := a } }
    s.arrive { who := .jtag, port := 12, rights := s.portRights 12, write := write, words := [(a, w)], peek := peek } cyc

/-- DBGACC_READ (R458, R459): a JTAG READ, through the peek path where CONSUME is 0. -/
def execDbgaccRead (addr : Nat) (consume : Bool) (cyc : Nat) (s : State) : Host.Outcome State Fault Refusal :=
  .next (s.jtagStart false addr 0 (!consume) cyc)

/-- DBGACC_WRITE (R458): a JTAG WRITE. -/
def execDbgaccWrite (addr : Nat) (w : Word) (cyc : Nat) (s : State) : Host.Outcome State Fault Refusal :=
  .next (s.jtagStart true addr w false cyc)

/-- DBGACC_NOP (R458): no access starts; the next capture shows the status of the access before, its address and its data. -/
def execDbgaccNop (s : State) : Host.Outcome State Fault Refusal := .next { s with dbg := { s.dbg with ir := 0x10, extest := false } }

/-! ### Accesses of stewards (R101, R125, R340) -/

/-- STEWARD_ACCESS_COMPLETE (R101): the access of LDG, of STG, or of the writes that a sequence commits is served and releases the
steward; where it must wait for the fabric or for a tile, it is held, and ends when it is released. -/
def execStewardAccessComplete (n cyc : Nat) (s : State) : Host.Outcome State Fault Refusal :=
  .next (
    if s.waiting fun a => match a with | .steward m => m == n | _ => false then s
    else
      let acc (write : Bool) (l : List (Nat × Word)) : Access :=
        { who := .steward n, port := 13 + n, rights := s.portRights (13 + n), write := write, words := l }
      match (s.core (128 + n)).access with
      | none => s
      | some (.ldg _ a) => s.arrive (acc false [(a, 0)]) cyc
      | some (.stg a w) => s.arrive (acc true [(a, w)]) cyc
      | some (.commit l) => s.arrive (acc true l) cyc
      | some (.stc a w) => if s.cramFull n 1 then s else (s.cramPut n a w cyc).stewardGoes n)

end Sys2Proof.Machine
end

