-- ==== Sys2Proof/Machine/HostRows.lean ====
section
/-! DEFINITION. The register accesses that have rows of their own: each arrives at a port like any other access (R333, R339). -/

namespace Sys2Proof.Machine

/-- STG_PERS_WRITE (R129, R349): a write of STG_CTL.PERS. -/
def execStgPersWrite (a : Arr) (p pers : Nat) (s : State) : Host.Outcome State Fault Refusal :=
  .next (s.hostField a (STG_CTL p) STG_CTL_PERS pers)

/-- STG_EN_WRITE (R131, R227): a write of STG_CTL.EN. -/
def execStgEnWrite (a : Arr) (p : Nat) (en : Bool) (s : State) : Host.Outcome State Fault Refusal :=
  .next (s.hostField a (STG_CTL p) STG_CTL_EN (b2n en))

/-- PHS_RAIL_MASK_WRITE (R155): a write of the six words of the member mask, bit l for lane l. -/
def execPhsRailMaskWrite (a : Arr) (r m : Nat) (s : State) : Host.Outcome State Fault Refusal :=
  .next (s.hostWrite a (wordsFrom (PHS_RAIL_MASK0 r).addr ((List.range 6).map fun k => BitVec.ofNat 24 (m / 2 ^ (24 * k)))))

/-- PHS_RAIL_LEAD_WRITE (R156): a write of LEAD and ALT. -/
def execPhsRailLeadWrite (a : Arr) (r lead alt : Nat) (s : State) : Host.Outcome State Fault Refusal :=
  .next (s.hostPut a (PHS_RAIL_LEAD r) (PHS_RAIL_LEAD_ALT.put (PHS_RAIL_LEAD_LEAD.put 0 lead) alt))

/-- RAIL_STATE_WRITE (R166, R169): a write of PHS_RAIL_CTL.STATE, the other fields as they are. -/
def execRailStateWrite (a : Arr) (r st : Nat) (s : State) : Host.Outcome State Fault Refusal :=
  .next (s.hostField a (PHS_RAIL_CTL r) PHS_RAIL_CTL_STATE st)

/-- FUSE_CLEAR (R190): a write of FUS_CMD.CLEAR. -/
def execFuseClear (a : Arr) (p : Nat) (s : State) : Host.Outcome State Fault Refusal := .next (s.hostPut a (FUS_CMD p) 1)

/-- BAT_CTL_WRITE (R199): a write of BAT_CTL. -/
def execBatCtlWrite (a : Arr) (u : Nat) (w : Word) (s : State) : Host.Outcome State Fault Refusal := .next (s.hostPut a (BAT_CTL u) w)

/-- BAT_QNOM_WRITE (R203): a write of BAT_QNOM. -/
def execBatQnomWrite (a : Arr) (u : Nat) (w : Word) (s : State) : Host.Outcome State Fault Refusal := .next (s.hostPut a (BAT_QNOM u) w)

/-- ENV_WRITE (R221): a write of the `k`th ENV_ register of a port. -/
def execEnvWrite (a : Arr) (p k : Nat) (w : Word) (s : State) : Host.Outcome State Fault Refusal :=
  .next (s.hostPut a (.port p (0x80 + k)) w)

/-- ENV_OTP_PROGRAM (R229): a write of ENV_OTP_DATA. -/
def execEnvOtpProgram (a : Arr) (w : Word) (s : State) : Host.Outcome State Fault Refusal := .next (s.hostPut a ENV_OTP_DATA w)

/-- ENV_SEAL (R229): a write of ENV_OTP_CMD.SEAL. -/
def execEnvSeal (a : Arr) (s : State) : Host.Outcome State Fault Refusal := .next (s.hostPut a ENV_OTP_CMD 1)

/-- ENV_LOCK_FUSE (R230): a write of ENV_OTP_CMD.LOCK with a CONFIRM value. -/
def execEnvLockFuse (a : Arr) (confirm : Nat) (s : State) : Host.Outcome State Fault Refusal :=
  .next (s.hostPut a ENV_OTP_CMD (ENV_OTP_CMD_LOCK.put (ENV_OTP_CMD_CONFIRM.put 0 confirm) 1))

/-- TRP_RESURVEY (R265): a write of TRP_CTL.RESURVEY, the other fields as they are. -/
def execTrpResurvey (a : Arr) (s : State) : Host.Outcome State Fault Refusal := .next (s.hostField a TRP_CTL TRP_CTL_RESURVEY 1)

/-- TRP_CTL_WRITE (R235): a write of TRP_CTL. -/
def execTrpCtlWrite (a : Arr) (w : Word) (s : State) : Host.Outcome State Fault Refusal := .next (s.hostPut a TRP_CTL w)

/-- CAP_LOCAL_WRITE (R276): a write of CAP_LOCAL. -/
def execCapLocalWrite (a : Arr) (w : Word) (s : State) : Host.Outcome State Fault Refusal := .next (s.hostPut a CAP_LOCAL w)

/-- WAVE_SEND (R284): a write of CAP_WV_CMD with SEND. -/
def execWaveSend (a : Arr) (op ent mask : Nat) (s : State) : Host.Outcome State Fault Refusal :=
  .next (s.hostPut a CAP_WV_CMD (CAP_WV_CMD_SEND.put (CAP_WV_CMD_OP.put (CAP_WV_CMD_ENT.put (CAP_WV_CMD_MASK.put 0 mask) ent) op) 1))

/-- MER_CTL_WRITE (R42): a write of MER_CTL. -/
def execMerCtlWrite (a : Arr) (w : Word) (s : State) : Host.Outcome State Fault Refusal := .next (s.hostPut a MER_CTL w)

/-- RATE_CHANGE_REQUEST (R51): a write of MER_RATE_CTL. -/
def execRateChangeRequest (a : Arr) (w : Word) (s : State) : Host.Outcome State Fault Refusal := .next (s.hostPut a MER_RATE_CTL w)

/-- SWITCH_SCHEDULE (R77): a write of LAN_SW_CTL with SCHED. -/
def execSwitchSchedule (a : Arr) (stw atCount : Bool) (s : State) : Host.Outcome State Fault Refusal :=
  .next (s.hostPut a LAN_SW_CTL (LAN_SW_CTL_SCHED.put (LAN_SW_CTL_WHEN.put (LAN_SW_CTL_STW.put 0 (b2n stw)) (b2n atCount)) 1))

/-- SWITCH_CANCEL (R80): a write of LAN_SW_CTL.CANCEL. -/
def execSwitchCancel (a : Arr) (s : State) : Host.Outcome State Fault Refusal := .next (s.hostField a LAN_SW_CTL LAN_SW_CTL_CANCEL 1)

/-- LAN_PGM_DATA_WRITE (R72, R499): a write of LAN_PGM_DATA2. -/
def execLanPgmDataWrite (a : Arr) (l : Nat) (w : Word) (s : State) : Host.Outcome State Fault Refusal :=
  .next (s.hostPut a (LAN_PGM_DATA2 l) w)

/-- LOAD_CHECK_START (R72): a write of LAN_LOAD.CHECK. -/
def execLoadCheckStart (a : Arr) (l : Nat) (s : State) : Host.Outcome State Fault Refusal := .next (s.hostPut a (LAN_LOAD l) 1)

/-- RGT_MAP_PROGRAM (R336): a write of word `k` of the rights map, 21 and 22 its CRC. -/
def execRgtMapProgram (a : Arr) (k : Nat) (w : Word) (s : State) : Host.Outcome State Fault Refusal :=
  .next (s.hostPut a (.pkg (0x2200 + k)) w)

/-- RGT_SEAL (R336): a write of RGT_CMD.SEAL with a CONFIRM value. -/
def execRgtSeal (a : Arr) (confirm : Nat) (s : State) : Host.Outcome State Fault Refusal :=
  .next (s.hostPut a RGT_CMD (RGT_CMD_SEAL.put (RGT_CMD_CONFIRM.put 0 confirm) 1))

/-- RGT_PORT_TIGHTEN (R338): a write of RGT_PORT. -/
def execRgtPortTighten (a : Arr) (p : Nat) (w : Word) (s : State) : Host.Outcome State Fault Refusal := .next (s.hostPut a (RGT_PORT p) w)

/-- FLT_CLASS_WRITE (R350): a write of FLT_CLS and of FLT_SRC.TIER of a source. -/
def execFltClassWrite (a : Arr) (x n : Nat) (ms : Bool) (w tier : Nat) (s : State) : Host.Outcome State Fault Refusal :=
  .next (s.hostWrite a [((FLT_CLS x).addr, FLT_CLS_N.put (FLT_CLS_WUNIT.put (FLT_CLS_W.put 0 w) (b2n ms)) n),
    ((FLT_SRC x).addr, FLT_SRC_TIER.put (s.heldWord (FLT_SRC x)) tier)])

/-- FAULT_FORCE (R353): a write of FLT_SRC.FORCE. -/
def execFaultForce (a : Arr) (x : Nat) (s : State) : Host.Outcome State Fault Refusal := .next (s.hostField a (FLT_SRC x) FLT_SRC_FORCE 1)

/-- WDG_KEY_WRITE (R357): a write of WDG_KEY, `e` oscillator cycles after the service. -/
def execWdgKeyWrite (a : Arr) (w : Word) (e : Nat) (s : State) : Host.Outcome State Fault Refusal :=
  .next (s.arrive { who := .plain, port := a.port, rights := s.portRights a.port, write := true, words := [(WDG_KEY.addr, w)], elapsed := some e } a.cyc)

/-- WDG_CONFIG_WRITE (R358): a write of WDG_CTL (0), WDG_PERIOD (1) or WDG_PULSE (2), `e` oscillator cycles after the service. -/
def execWdgConfigWrite (a : Arr) (k : Nat) (w : Word) (e : Nat) (s : State) : Host.Outcome State Fault Refusal :=
  .next (s.arrive { who := .plain, port := a.port, rights := s.portRights a.port, write := true, words := [(0x2600 + k, w)], elapsed := some e } a.cyc)

/-- REC_FLUSH_CMD (R370): a write of REC_CMD.FLUSH. -/
def execRecFlushCmd (a : Arr) (s : State) : Host.Outcome State Fault Refusal := .next (s.hostPut a REC_CMD 1)

/-- REC_CLEAR (R376): a write of REC_CMD.CLEAR. -/
def execRecClear (a : Arr) (s : State) : Host.Outcome State Fault Refusal := .next (s.hostPut a REC_CMD 2)

/-- REC_FETCH (R375): a write of REC_RD_IDX_HI. -/
def execRecFetch (a : Arr) (w : Word) (s : State) : Host.Outcome State Fault Refusal := .next (s.hostPut a REC_RD_IDX_HI w)

/-- REC_HQ_WRITE (R369): a write of the first word of REC_HQ. -/
def execRecHqWrite (a : Arr) (q : Nat) (w : Word) (s : State) : Host.Outcome State Fault Refusal := .next (s.hostPut a (REC_HQ0 q) w)

/-- TWB_XFER_GO (R327): a write of TWB_XFER with GO. -/
def execTwbXferGo (a : Arr) (b : Nat) (w : Word) (s : State) : Host.Outcome State Fault Refusal :=
  .next (s.hostPut a (TWB_XFER b) (TWB_XFER_GO.put w 1))

/-- TWB_CTL_WRITE (R312): a write of TWB_CTL. -/
def execTwbCtlWrite (a : Arr) (b : Nat) (w : Word) (s : State) : Host.Outcome State Fault Refusal := .next (s.hostPut a (TWB_CTL b) w)

/-- AGE_BASELINE_RESET (R389): a write of AGE_CMD.BASE for a port or for all. -/
def execAgeBaselineReset (a : Arr) (p : Nat) (every : Bool) (s : State) : Host.Outcome State Fault Refusal :=
  .next (s.hostPut a AGE_CMD (AGE_CMD_BASE.put (AGE_CMD_ALL.put (AGE_CMD_PORT.put 0 p) (b2n every)) 1))

/-- PWS_WAKE_CMD (R404): a write of PWS_CMD.WAKE. -/
def execPwsWakeCmd (a : Arr) (s : State) : Host.Outcome State Fault Refusal := .next (s.hostPut a PWS_CMD 1)

/-- PACKAGE_RESET_REQUEST (R420): a write of BOOT_CMD.PKG_RST with a CONFIRM value. -/
def execPackageResetRequest (a : Arr) (confirm : Nat) (s : State) : Host.Outcome State Fault Refusal :=
  .next (s.hostPut a BOOT_CMD (BOOT_CMD_PKG_RST.put (BOOT_CMD_CONFIRM.put 0 confirm) 1))

/-- TILE_RESET_REQUEST (R24): a write of PKG_TILE_RST. -/
def execTileResetRequest (a : Arr) (w : Word) (s : State) : Host.Outcome State Fault Refusal := .next (s.hostPut a PKG_TILE_RST w)

/-- UPD_OPEN (R430): a write of UPD_CMD.OPEN; `ok`: the boot flash erases the sector. -/
def execUpdOpen (a : Arr) (ok : Bool) (s : State) : Host.Outcome State Fault Refusal :=
  .next (s.arrive { who := .plain, port := a.port, rights := s.portRights a.port, write := true, words := [(UPD_CMD.addr, 1)], flash := some ok } a.cyc)

/-- UPD_ABORT (R429): a write of UPD_CMD.ABORT. -/
def execUpdAbort (a : Arr) (s : State) : Host.Outcome State Fault Refusal := .next (s.hostPut a UPD_CMD 8)

/-- UPD_VERIFY (R432): a write of UPD_CMD.VERIFY. -/
def execUpdVerify (a : Arr) (s : State) : Host.Outcome State Fault Refusal := .next (s.hostPut a UPD_CMD 2)

/-- UPD_ACTIVATE (R433, R434): a write of UPD_CMD.ACTIVATE. -/
def execUpdActivate (a : Arr) (s : State) : Host.Outcome State Fault Refusal := .next (s.hostPut a UPD_CMD 4)

/-- UPD_REJECT (R440): a write of UPD_CMD.REJECT. -/
def execUpdReject (a : Arr) (s : State) : Host.Outcome State Fault Refusal := .next (s.hostPut a UPD_CMD 16)

/-- UPD_DL_DATA_WRITE (R430): a write of UPD_DL_DATA; `ok`: the boot flash takes what is written. -/
def execUpdDlDataWrite (a : Arr) (w : Word) (ok : Bool) (s : State) : Host.Outcome State Fault Refusal :=
  .next (s.arrive { who := .plain, port := a.port, rights := s.portRights a.port, write := true, words := [(UPD_DL_DATA.addr, w)], flash := some ok } a.cyc)

/-- UPD_CONFIRM (R439): a write of UPD_CONFIRM. -/
def execUpdConfirm (a : Arr) (w : Word) (s : State) : Host.Outcome State Fault Refusal := .next (s.hostPut a UPD_CONFIRM w)

/-- KEY_PROGRAM (R445): a write of UPD_KEY_DATA. -/
def execKeyProgram (a : Arr) (w : Word) (s : State) : Host.Outcome State Fault Refusal := .next (s.hostPut a UPD_KEY_DATA w)

/-- KEY_REVOKE (R446): a write of UPD_REVOKE.GO with a CONFIRM value. -/
def execKeyRevoke (a : Arr) (slot confirm : Nat) (s : State) : Host.Outcome State Fault Refusal :=
  .next (s.hostPut a UPD_REVOKE (UPD_REVOKE_GO.put (UPD_REVOKE_CONFIRM.put (UPD_REVOKE_SLOT.put 0 slot) confirm) 1))

/-- PRF_TAG_CTL_WRITE (R452): a write of PRF_TAG_CTL. -/
def execPrfTagCtlWrite (a : Arr) (n : Nat) (w : Word) (s : State) : Host.Outcome State Fault Refusal :=
  .next (s.hostPut a (PRF_TAG_CTL n) w)

/-- TAG_POP (R452): a read of PRF_TAG_POP. -/
def execTagPop (a : Arr) (n : Nat) (s : State) : Host.Outcome State Fault Refusal := .next (s.hostRead a [(PRF_TAG_POP n).addr])

/-- TRACE_ARM (R455): a write of TRC_CTL.ARM. -/
def execTraceArm (a : Arr) (n : Nat) (s : State) : Host.Outcome State Fault Refusal := .next (s.hostField a (TRC_CTL n) TRC_CTL_ARM 1)

/-- TRACE_FORCE (R455): a write of TRC_CTL.FORCE, with ARM at 0: ARM reads 1 while the tile is armed, and a 1 would arm it anew. -/
def execTraceForce (a : Arr) (n : Nat) (s : State) : Host.Outcome State Fault Refusal :=
  .next (s.hostPut a (TRC_CTL n) (TRC_CTL_FORCE.put (TRC_CTL_ARM.put (s.heldWord (TRC_CTL n)) 0) 1))

/-- DEBUG_SESSION_WRITE (R460): a write of DBG_CTL.SESSION. -/
def execDebugSessionWrite (a : Arr) (on : Bool) (s : State) : Host.Outcome State Fault Refusal :=
  .next (s.hostPut a DBG_CTL (BitVec.ofNat 24 (b2n on)))

/-- STEWARD_HALT (R461, R463): a write of DBG_SCTL.HALT. -/
def execStewardHalt (a : Arr) (n : Nat) (s : State) : Host.Outcome State Fault Refusal :=
  .next (s.hostField a (DBG_SCTL n) DBG_SCTL_HALT 1)

/-- STEWARD_STEP (R461, R463): a write of DBG_SCTL.STEP. -/
def execStewardStep (a : Arr) (n : Nat) (s : State) : Host.Outcome State Fault Refusal :=
  .next (s.hostField a (DBG_SCTL n) DBG_SCTL_STEP 1)

/-- STEWARD_RESUME (R461, R463): a write of DBG_SCTL.RESUME. -/
def execStewardResume (a : Arr) (n : Nat) (s : State) : Host.Outcome State Fault Refusal :=
  .next (s.hostField a (DBG_SCTL n) DBG_SCTL_RESUME 1)

/-- STEWARD_DEBUG_REQ (R461, R463): a write of DBG_SCTL.REQ. -/
def execStewardDebugReq (a : Arr) (n : Nat) (s : State) : Host.Outcome State Fault Refusal :=
  .next (s.hostField a (DBG_SCTL n) DBG_SCTL_REQ 1)

/-- STEWARD_HARD_HALT (R461, R463): a write of DBG_SCTL.HARD. -/
def execStewardHardHalt (a : Arr) (n : Nat) (s : State) : Host.Outcome State Fault Refusal :=
  .next (s.hostField a (DBG_SCTL n) DBG_SCTL_HARD 1)

/-- LANE_HALT (R462, R463): a write of DBG_LCTL.HALT. -/
def execLaneHalt (a : Arr) (l : Nat) (s : State) : Host.Outcome State Fault Refusal := .next (s.hostField a (DBG_LCTL l) DBG_LCTL_HALT 1)

/-- LANE_STEP (R462, R463): a write of DBG_LCTL.STEP. -/
def execLaneStep (a : Arr) (l : Nat) (s : State) : Host.Outcome State Fault Refusal := .next (s.hostField a (DBG_LCTL l) DBG_LCTL_STEP 1)

/-- LANE_RESUME (R462, R463): a write of DBG_LCTL.RESUME. -/
def execLaneResume (a : Arr) (l : Nat) (s : State) : Host.Outcome State Fault Refusal :=
  .next (s.hostField a (DBG_LCTL l) DBG_LCTL_RESUME 1)

/-- LANE_HARD_HALT (R462, R463): a write of DBG_LCTL.HARD. -/
def execLaneHardHalt (a : Arr) (l : Nat) (s : State) : Host.Outcome State Fault Refusal :=
  .next (s.hostField a (DBG_LCTL l) DBG_LCTL_HARD 1)

/-- DEBUG_MEM_ACCESS (R464): a write or a read of DBG_MEM_DATA0. -/
def execDebugMemAccess (a : Arr) (write : Bool) (w : Word) (s : State) : Host.Outcome State Fault Refusal :=
  .next (if write then s.hostPut a DBG_MEM_DATA0 w else s.hostRead a [DBG_MEM_DATA0.addr])

/-- MAILBOX_WRITE (R475): a write of a mailbox word. -/
def execMailboxWrite (a : Arr) (n i : Nat) (w : Word) (s : State) : Host.Outcome State Fault Refusal :=
  .next (s.hostPut a (LAN_MBOX n i) w)

end Sys2Proof.Machine
end

