-- ==== Sys2Proof/Machine/PmBus.lean ====
section
/-! DEFINITION. The PMBus commands and the gazetteer access of the two-wire buses (R315 to R325, R337 to R340). -/

namespace Sys2Proof.Machine

/-! ### Transactions -/

/-- The command codes of R318. -/
def pmCodes : List Nat :=
  [0x00, 0x01, 0x03, 0x19, 0x20, 0x78, 0x79, 0x7A, 0x7B, 0x7C, 0x7E, 0x80, 0x88, 0x8B, 0x8C, 0x8D, 0x90, 0x96, 0x98, 0x99, 0x9A, 0xD0, 0xD1]

/-- The bus answers a byte of a transaction with a NACK. -/
def State.nackAt (s : State) (b k : Nat) : State := (s.countP (8 + b) 0x91 1).modBus b fun x => { x with nack := some k, sent := [] }

/-- A bus that answers: an enabled target of a running part, its tile powered, and in recovery TWB0 alone (R310, R316, R397, R417). -/
def State.busAnswers (s : State) (b : Nat) : Bool :=
  s.busTarget b && !s.pws.keeper && (b == 0 || !s.recovering)

/-- The page in force (R318). -/
def State.page (s : State) (b : Nat) : Nat := s.getF (TWB_STAT b) TWB_STAT_PAGE

/-- The access that stands for a command in the rights registers: STG_CTL of the page's first port, STATUS_CML of the bus under an
out-of-range page (log entry 45). -/
def State.cmdPlace (s : State) (b : Nat) : Nat := if s.page b < 128 then (STG_CTL (s.page b)).addr else (TWB_CML b).addr

/-- A command that lacks its class is refused at the command code (R318, R339, R340). -/
def State.pmDenied (s : State) (t : Txn) (write : Bool) : State :=
  (s.rightsRefuse { who := .plain, port := t.bus, rights := 0, write := write, words := [(s.cmdPlace t.bus, 0)] } false t.cyc).nackAt t.bus 1

/-- A transaction begins: a bus with a full queue refuses its address, another than the known command codes is refused with bit 7 of
STATUS_CML, one without its class is refused; else `k` goes on (R317, R318). -/
def State.pmBegin (s : State) (t : Txn) (write : Bool) (cls : Option Nat) (k : State → State) : State :=
  let b := t.bus
  if !s.busAnswers b then s
  else
    let s := (s.countP (8 + b) 0x90 1).riseCheck b false t.scl t.sda t.cyc
    let s := s.modBus b fun x => { x with nack := none, sent := [] }
    if s.flag (TWB_STAT b) TWB_STAT_QFULL then s.nackAt b 0
    else if !pmCodes.contains t.code then (s.cmlSet b 7).nackAt b 1
    else if cls.any fun c => !holds (s.portRights b) c then s.pmDenied t write
    else k s

/-- The bytes that the bus drives, with the PEC byte where the host asks for one (R325). -/
def State.pmSend (s : State) (t : Txn) (bytes : List Nat) : State :=
  let a := 2 * s.getF (TWB_ADDR t.bus) TWB_ADDR_ADDR
  let pec := if t.pec.isSome then [crc8 ([a, t.code, a + 1] ++ bytes)] else []
  s.modBus t.bus fun x => { x with sent := bytes ++ pec }

/-- A read command of the bus (R318). -/
def State.busRead (s : State) (t : Txn) (bytes : State → List Nat) : State := s.pmBegin t false (some clsObserve) fun s => s.pmSend t (bytes s)

/-- A read command of a port: under PAGE 0xFF it is no command (R318). -/
def State.portRead (s : State) (t : Txn) (bytes : State → Nat → List Nat) : State :=
  s.pmBegin t false (some clsObserve) fun s =>
    if 128 ≤ s.page t.bus then (s.cmlSet t.bus 7).nackAt t.bus 1 else s.pmSend t (bytes s (s.page t.bus))

/-- A write whose bytes passed: its PEC is checked, and at its STOP it takes effect; `n` bytes came before the PEC byte (R317, R325). -/
def State.pmEnd (s : State) (t : Txn) (n : Nat) (k : State → State) : State :=
  let b := t.bus
  if !t.stop then s
  else match t.pec with
    | some false => (((s.cmlSet b 5).bump (TWB_ERR_CNT b)).raise TWB_PEC b t.cyc).nackAt b n
    | some true => k s
    | none => if s.flag (TWB_CTL b) TWB_CTL_PEC_REQ then s.cmlSet b 5 else k s

/-- Invalid data: the byte is refused and bit 6 is set (R318). -/
def State.badData (s : State) (t : Txn) (k : Nat) : State := (s.cmlSet t.bus 6).nackAt t.bus k

/-- A write enters the queue of the bus (R317). -/
def State.enqueueWrite (s : State) (b : Nat) (w : TwbWrite) : State :=
  let s := s.modBus b fun x => { x with queue := x.queue ++ [w] }
  s.setF (TWB_STAT b) TWB_STAT_QFULL (b2n (decide (4 ≤ (s.bus b).queue.length)))

/-- The two bytes of a word, low byte first. -/
def le16 (n : Nat) : List Nat := [n % 256, n / 256 % 256]

/-! ### Commands (R318 to R320) -/

/-- PAGE_WRITE (R318): the page is in force at the STOP (log entry 43). -/
def execPageWrite (t : Txn) (v : Nat) (s : State) : Host.Outcome State Fault Refusal :=
  .next (s.pmBegin t true (some clsObserve) fun s =>
    if 128 ≤ v ∧ v ≠ 0xFF then s.badData t 2 else s.pmEnd t 3 fun s => s.setF (TWB_STAT t.bus) TWB_STAT_PAGE v)

/-- PAGE_READ (R318). -/
def execPageRead (t : Txn) (s : State) : Host.Outcome State Fault Refusal := .next (s.busRead t fun s => [s.page t.bus])

/-- OPERATION_WRITE (R318): 0x80 or 0x00 for the ports of the page. -/
def execOperationWrite (t : Txn) (v : Nat) (s : State) : Host.Outcome State Fault Refusal :=
  .next (s.pmBegin t true (some clsConfigure) fun s =>
    if v ≠ 0x80 ∧ v ≠ 0 then s.badData t 2
    else s.pmEnd t 3 fun s => s.enqueueWrite t.bus (.operation (s.page t.bus) (v == 0x80)))

/-- OPERATION_READ (R318): 0x80 while the port is ON or SAFE. -/
def execOperationRead (t : Txn) (s : State) : Host.Outcome State Fault Refusal :=
  .next (s.portRead t fun s p => [if STG_STAT_STATE.get (s.mirRd (STG_STAT p)) = 0 then 0 else 0x80])

/-- CLEAR_FAULTS (R318, R320, R323), under OPERATE. -/
def execClearFaults (t : Txn) (s : State) : Host.Outcome State Fault Refusal :=
  .next (s.pmBegin t true (some clsOperate) fun s => s.pmEnd t 2 fun s => s.enqueueWrite t.bus (.clear (s.page t.bus)))

/-- CAPABILITY (R318): PEC, 1 MHz, SMBALERT#, linear formats. -/
def execCapability (t : Txn) (s : State) : Host.Outcome State Fault Refusal := .next (s.busRead t fun _ => [0xD0])

/-- VOUT_MODE (R318): linear mode with exponent VEXP. -/
def execVoutMode (t : Txn) (s : State) : Host.Outcome State Fault Refusal :=
  .next (s.busRead t fun s => [TWB_CTL_VEXP.get (s.mirRd (TWB_CTL t.bus))])

/-- STATUS_BYTE (R320): the low byte of STATUS_WORD. -/
def execStatusByte (t : Txn) (s : State) : Host.Outcome State Fault Refusal :=
  .next (s.portRead t fun s p => [s.statusWord t.bus p % 256])

/-- STATUS_WORD (R320). -/
def execStatusWord (t : Txn) (s : State) : Host.Outcome State Fault Refusal :=
  .next (s.portRead t fun s p => le16 (s.statusWord t.bus p))

/-- STATUS_VOUT (R320). -/
def execStatusVout (t : Txn) (s : State) : Host.Outcome State Fault Refusal :=
  .next (s.portRead t fun s p => [(Tab.get {} s.mir.shown p).vout.toNat % 256])

/-- STATUS_IOUT (R320). -/
def execStatusIout (t : Txn) (s : State) : Host.Outcome State Fault Refusal :=
  .next (s.portRead t fun s p => [(Tab.get {} s.mir.shown p).iout.toNat % 256])

/-- STATUS_INPUT (R320). -/
def execStatusInput (t : Txn) (s : State) : Host.Outcome State Fault Refusal :=
  .next (s.portRead t fun s p => [(Tab.get {} s.mir.shown p).input.toNat % 256])

/-- STATUS_CML of the bus (R320). -/
def execStatusCml (t : Txn) (s : State) : Host.Outcome State Fault Refusal :=
  .next (s.busRead t fun s => [s.getF (TWB_CML t.bus) TWB_CML_CML])

/-- STATUS_MFR_SPECIFIC (R320). -/
def execStatusMfrSpecific (t : Txn) (s : State) : Host.Outcome State Fault Refusal :=
  .next (s.portRead t fun s p => [(Tab.get {} s.mir.shown p).mfr.toNat % 256])

/-- READ_VIN (R319): HLD_VBUS, in 10 mV and signed as the sample it comes from (log entry 80), on every page. -/
def execReadVin (t : Txn) (s : State) : Host.Outcome State Fault Refusal :=
  .next (s.portRead t fun s _ => le16 (lin11 (s.mirRd HLD_VBUS).toInt 100))

/-- READ_VOUT (R319). -/
def execReadVout (t : Txn) (s : State) : Host.Outcome State Fault Refusal :=
  .next (s.portRead t fun s p => le16 (lin16 (s.pmV p) (1000 * 2 ^ 23) (TWB_CTL_VEXP.get (s.mirRd (TWB_CTL t.bus)))))

/-- READ_IOUT (R319). -/
def execReadIout (t : Txn) (s : State) : Host.Outcome State Fault Refusal :=
  .next (s.portRead t fun s p => le16 (lin11 (s.pmI p) (1000 * 2 ^ 23)))

/-- READ_TEMPERATURE_1 (R319): TWB_PT_OFS + T × TWB_PT_SPAN, in 0.01 °C. -/
def execReadTemperature1 (t : Txn) (s : State) : Host.Outcome State Fault Refusal :=
  .next (s.portRead t fun s p =>
    le16 (lin11 ((s.mirRd (TWB_PT_OFS p)).toInt * 2 ^ 23 + (s.mirRd (STG_SMP_T p)).toInt * (s.mirRd (TWB_PT_SPAN p)).toInt) (100 * 2 ^ 23)))

/-- READ_FAN_SPEED_1 (R319): FAN_SPD in the fan personality, else 0. -/
def execReadFanSpeed1 (t : Txn) (s : State) : Host.Outcome State Fault Refusal :=
  .next (s.portRead t fun s p => le16 (lin11 (if s.mir.fans.contains p then ((s.mirRd (FAN_SPD p)).toNat : Int) else 0) 1))

/-- READ_POUT (R319): the product before rounding. -/
def execReadPout (t : Txn) (s : State) : Host.Outcome State Fault Refusal :=
  .next (s.portRead t fun s p => le16 (lin11 (s.pmV p * s.pmI p) (1000000 * 2 ^ 46)))

/-- PMBUS_REVISION (R318). -/
def execPmbusRevision (t : Txn) (s : State) : Host.Outcome State Fault Refusal := .next (s.busRead t fun _ => [0x44])

/-- MFR_ID (R318): "TAMHAUB". -/
def execMfrId (t : Txn) (s : State) : Host.Outcome State Fault Refusal :=
  .next (s.busRead t fun _ => [7, 0x54, 0x41, 0x4D, 0x48, 0x41, 0x55, 0x42])

/-- MFR_MODEL (R318): "TLM-8800". -/
def execMfrModel (t : Txn) (s : State) : Host.Outcome State Fault Refusal :=
  .next (s.busRead t fun _ => [8, 0x54, 0x4C, 0x4D, 0x2D, 0x38, 0x38, 0x30, 0x30])

/-! ### Gazetteer access (R321, R322) -/

/-- MFR_GZ_PTR (R321): the block count, then the four bytes of the pointer; at the STOP it is stored and a read's prefetch starts. -/
def execMfrGzPtr (t : Txn) (count addr top dir n : Nat) (s : State) : Host.Outcome State Fault Refusal :=
  .next (s.pmBegin t true (some clsObserve) fun s =>
    let b := t.bus
    if count ≠ 4 then s.badData t 2
    else if s.tileDown (ownerTile (addr % 2 ^ 20)) then (s.raise PKG_TILE_DOWN_ACCESS (ownerTile (addr % 2 ^ 20)) t.cyc).nackAt b 3
    else if top ≠ 0 then s.badData t 3
    else if n = 0 ∨ 32 < n then s.badData t 6
    else s.pmEnd t 7 fun s =>
      s.modBus b fun x => { x with ptr := some (addr % 2 ^ 20, dir == 1, n), fetching := dir == 1, buf := [] })

/-- The access that a bus's pointer describes (R322). -/
def State.ptrAccess (s : State) (b : Nat) (who : Asker) (a : Nat) (write : Bool) (ws : List Word) : Access :=
  { who := who, port := b, rights := s.portRights b, write := write, words := wordsFrom a ws }

/-- GZ_PREFETCH_DONE (R20, R321): the words are read from the live registers into the buffer of the bus; a read that MFR_GZ_DATA will
refuse reads nothing (log entry 68). -/
def execGzPrefetchDone (b cyc : Nat) (s : State) : Host.Outcome State Fault Refusal :=
  .next (
    match (s.bus b).ptr with
    | none => s
    | some (a, _, n) =>
      let x := s.ptrAccess b (.prefetch b) a false (List.replicate n 0)
      let waits := s.tiles.any fun t => t.2.held.any fun y => match y.who with | .prefetch k => k == b | _ => false
      if !(s.bus b).fetching || waits || (s.rightsRefusal x).isSome || x.owners.any s.tileDown || x.words.any (fun e => isHole e.1) then s
      else s.arrive x cyc)

/-- A write class that rights allow for some field of a word: what the command code of MFR_GZ_DATA can check before the data comes
(R322, log entry 73). -/
def mayTouch (rights a : Nat) : Bool :=
  match locate a with
  | none => holds rights clsConfigure
  | some l =>
    match l.desc with
    | none => holds rights clsConfigure
    | some d => if d.writable then d.fields.any fun f => f.acc.writable && holds rights (fieldClass l f.fld) else holds rights (writeClass l)

/-- The checks at the command code of MFR_GZ_DATA (R322, R339, R340, R469): none where they pass. -/
def State.gzRefuse (s : State) (t : Txn) (x : Access) : Option State :=
  let ok (e : Nat × Word) : Bool := if x.write then mayTouch x.rights e.1 else mayRead x.rights e.1
  match x.words.find? fun e => !ok e with
  | some e => some (s.rightsRefuse x (e.1 != x.first) t.cyc)
  | none =>
    match s.downRefuse x t.cyc with
    | some z => some z
    | none => if x.words.any fun e => isHole e.1 then some (s.holeRefuse x) else none

/-- MFR_GZ_DATA_READ (R322): the status byte and the words prefetched, or BUSY while the prefetch runs. -/
def execMfrGzDataRead (t : Txn) (s : State) : Host.Outcome State Fault Refusal :=
  .next (s.pmBegin t false none fun s =>
    let b := t.bus
    match (s.bus b).ptr with
    | some (a, true, n) =>
      match s.gzRefuse t (s.ptrAccess b .plain a false (List.replicate n 0)) with
      | some z => z.nackAt b 1
      | none =>
        if (s.bus b).fetching then s.pmSend t [1, 1]
        else if (s.bus b).buf.length = n then s.pmSend t ([1 + 3 * n, 0] ++ (s.bus b).buf.flatMap wordBytes)
        else s.nackAt b 1
    | _ => s.nackAt b 1)

/-- MFR_GZ_DATA_WRITE (R322): a block of words, written at the STOP. -/
def execMfrGzDataWrite (t : Txn) (count : Nat) (ws : List Word) (s : State) : Host.Outcome State Fault Refusal :=
  .next (s.pmBegin t true none fun s =>
    let b := t.bus
    match (s.bus b).ptr with
    | some (a, false, n) =>
      match s.gzRefuse t (s.ptrAccess b .plain a true (List.replicate n 0)) with
      | some z => z.nackAt b 1
      | none =>
        if count ≠ 3 * n ∨ ws.length ≠ n then s.badData t 2
        else s.pmEnd t (3 + 3 * n) fun s => s.enqueueWrite b (.words a ws)
    | _ => s.nackAt b 1)

/-! ### Applying the queued writes (R317, R338) -/

/-- A queued write that the rights in force refuse is discarded (R338). -/
def State.queueDenied (s : State) (b page cls cyc : Nat) (k : State → State) : State :=
  if holds (s.portRights b) cls then k s
  else
    let a := if page < 128 then (STG_CTL page).addr else (TWB_CML b).addr
    (s.rightsRefuse { who := .plain, port := b, rights := 0, write := true, words := [(a, 0)] } false cyc).cmlSet b 1

/-- A queued write is applied through the fabric. -/
def State.writeApply (s : State) (b cyc : Nat) : TwbWrite → State
  | .operation page on =>
    s.queueDenied b page clsConfigure cyc fun s =>
      forList (if page = 0xFF then List.range 128 else [page]) (fun p s =>
        s.arrive (s.ptrAccess b (.busWrite b) (STG_CTL p).addr true [STG_CTL_EN.put (s.rd (STG_CTL p)) (b2n on)]) cyc) s
  | .clear page =>
    s.queueDenied b page clsOperate cyc fun s =>
      let s := forList (if page = 0xFF then List.range 128 else [page]) (fun p s => s.latchClear p) s
      (s.wr (TWB_CML b) 0).alertClear b
  | .words a ws => s.arrive (s.ptrAccess b (.busWrite b) a true ws) cyc

/-- TWB_WRITE_APPLY (R317, R338, R498): the oldest write of the queue is applied. -/
def execTwbWriteApply (b cyc : Nat) (s : State) : Host.Outcome State Fault Refusal :=
  .next (
    match (s.bus b).queue with
    | [] => s
    | w :: t => ((s.modBus b fun x => { x with queue := t }).setF (TWB_STAT b) TWB_STAT_QFULL 0).writeApply b cyc w)

end Sys2Proof.Machine
end

