-- ==== Sys2Proof/Machine/Tick.lean ====
section
/-! DEFINITION. The steps of a meridian tick: sample instant, compute window, exchange window, mirror window, and a bank switch at its
boundary (R33, R45, R70, R79, R118, R119). -/

namespace Sys2Proof.Machine

open Sys2Proof

/-! ### The sample instant (R33) -/

/-- Do the sense channels of port `p` convert (R398, R399)? Those of a dozed tile only for a sensing port. -/
def State.senses (s : State) (p : Nat) : Bool :=
  let named := s.flag HLD_CTL HLD_CTL_EN && s.getF HLD_CTL HLD_CTL_VPORT == p
  let served := (List.range 32).any fun u => s.flag (BAT_CTL u) BAT_CTL_EN && s.strPort u == p
  !s.tileDown (p / 16) && (!(s.tile (p / 16)).dozed || (s.pstate p == 0 && (named || served)))

/-- The K conversions of a port in the interval of `n` lane cycles that ends at S (R132, log entry 24). -/
def convOf (l : List (Nat × PortConv)) (n p : Nat) : PortConv :=
  ((match l.find? fun e => e.1 == p with | some e => e.2 | none => ⟨[], [], []⟩) : PortConv).fill n

/-- Rails in which truncation or all-fire occurred in the running tick (R386). -/
def State.noisyRails (s : State) : List Nat :=
  (List.range 16).filter fun r => s.flag (PHS_RAIL_STAT r) PHS_RAIL_STAT_TRUNC ||
    s.flt.queue.any fun e => (e.src == railSrc r PHS_TRUNC || e.src == railSrc r PHS_ALLFIRE) && e.count == s.mer.count

/-- The count increments; the registers show it (R45). -/
def State.nextTick (s : State) : State :=
  let k := s.nextCount
  let s := s.srcBoundary k
  { s.wrPair MER_COUNT_LO MER_COUNT_HI k with mer := { s.mer with count := k, phase := .sample } }

/-- Lane cycles count from the new S in what waits at the ports and in the write buffers, `n` lane cycles after the last (R63, R116). -/
def State.shiftTick (s : State) (n : Nat) : State :=
  let s := forEach 128 (fun p s => s.modPort p fun x => x.nextTick n) s
  forEach 8 (fun t s =>
    match (s.tile t).fullAt with
    | some k => (s.countT t 34 0x53 (n - k)).modTile t fun x => { x with fullAt := some 0 }
    | none => s) s

/-- All sense channels sample (R132 to R140). -/
def State.senseAll (s : State) (old : Nat) (conv : List (Nat × PortConv)) : State :=
  forEach 128 (fun p s => if s.senses p then s.sensePort old (convOf conv s.mer.tickN p) p else s) s

/-- Lanes and ports at the boundary: a lane resumes, RUN and the writes of PERS and EN take effect in the tiles that run; in Lull an EN
write waits for the first Run tick (R70, R129, R131, R402, R404, R462). -/
def State.boundaries (s : State) : State :=
  forEach 128 (fun p s =>
    if s.tileRuns (p / 16) ∧ s.pwState ≠ 3 then
      let s := s.resumeTick p
      let on := s.flag (LAN_CTL p) LAN_CTL_RUN
      let s := s.modCore p fun c => { c with runOn := on }
      ((s.fuseBoundary p).portBoundary p).fuseSettle p
    else s) s

/-- The gains of the tick: schedules, then what a rail or a string unit sets, from the conditions before this S (R160 to R162, R210). -/
def State.gainsTick (s : State) : State :=
  let s := forEach 128 (fun l s => if s.tileRuns (l / 16) then s.coeffLane l else s) s
  forEach 32 (fun u s => s.strGains u) (forEach 16 (fun r s => s.railG7 r) s)

/-- The fuse and envelope units of a port; a slow average above its limit is a trip of a fuse port (R185, R186, R223, R224). -/
def State.envelopeTick (s : State) (p : Nat) : State :=
  if s.tileDown (p / 16) then s
  else
    let s := (s.envSettle p 0).fuseTick p
    let r := s.slowAverage p
    let s := if r.2 then r.1.tripArises p 2 else r.1
    (s.voltWindow p).driverFaultTick p

/-- HOURS counts seconds of powered operation: `n` lane cycles have passed (R365). -/
def State.hoursTick (s : State) (n : Nat) : State :=
  let t := s.rcd.subSec + n
  s.modRec fun x => { x with subSec := t % 800000000, hours := min (2 ^ 32 - 1) (x.hours + t / 800000000) }

/-- Interrupt source 2 of the stewards that run (R68). -/
def State.irqTick (s : State) (k : Nat) : State := forEach 8 (fun n s => if s.tileRuns n then s.irq n k else s) s

/-- The units of the package at S, `n` lane cycles after the last. -/
def State.packageTick (s : State) (n : Nat) (wake : Bool) : State :=
  let s := (s.holdTick.holdCapTick.capBoundary).shedStep.shedPorts.waveTick
  let s := (s.ptpBoundary.alignedSettle.powerTick n wake).resetFlush.delayStep
  let s := (s.hoursTick n).trialTick n
  let on := s.syncOutNow
  { s with mer := { s.mer with syncOut := on, tickN := s.period }, flt := { s.flt with sSeen := true } }

/-- The step of S (R33): `conv` the conversions of the ports in the interval that ends, `wake` the level of WAKE. -/
def State.sampleStep (s : State) (conv : List (Nat × PortConv)) (wake : Bool) : State :=
  let old := s.mer.count
  let n := s.mer.tickN
  let noisy := s.noisyRails
  let s := (s.nextTick.shiftTick n).senseAll old conv
  let s := s.classify
  let s := if s.flt.top = 4 ∧ s.flag UPD_CTL UPD_CTL_FB_T3 then s.fallBack 3 0 else s
  let s := forEach 8 (fun t s => s.traceTick t) s.perfTick
  let s := forEach 128 (fun p s => if s.senses p then s.tracePort p else s) s
  let s := s.boundaries.gainsTick
  let s := forEach 128 (fun p s => s.envelopeTick p) s
  let s := (forEach 32 (fun u s => s.strTick u) s).noUnitCheck
  let s := forEach 128 (fun p s => s.genTick p) (forEach 16 (fun r s => (s.railTick r).burstTick noisy r) s)
  let s := forEach 128 (fun p s => if s.senses p then (s.rdsTick (convOf conv n p) p).fanTick p else s) s
  (s.packageTick n wake).irqTick 2

/-- SAMPLE_INSTANT (R33, R45): S, once the tick runs. -/
def execSampleInstant (conv : List (Nat × PortConv)) (wake : Bool) (s : State) : Host.Outcome State Fault Refusal :=
  .next (if s.boot.running then s.sampleStep conv wake else s)

/-! ### The compute window (R70) -/

/-- Does the lane start in this tick (R70, R49, R35, R462)? -/
def State.laneStarts (s : State) (l : Nat) : Bool :=
  s.tileRuns (l / 16) && s.pwState != 3 && !s.laneIdle l && !s.flag (LAN_STAT l) LAN_STAT_HELD && !(s.core l).halted

/-- A lane at S + 0.4 µs: one that starts stands at bundle 0 of its active bank. -/
def State.laneOpen (s : State) (l : Nat) : State :=
  let on := s.laneStarts l
  let s := s.modCore l fun c =>
    if on then { c with pc := 0, running := true, retired := false, loops := [], memStop := false, lastIssue := 319 }
    else { c with retired := false }
  if s.tileRuns (l / 16) then s.traceGains l else s

/-- COMPUTE_WINDOW_OPEN (R70): the lanes start. -/
def execComputeWindowOpen (s : State) : Host.Outcome State Fault Refusal :=
  .next (
    if !s.boot.running then s
    else forEach 128 (fun l s => s.laneOpen l) { s with mer := { s.mer with phase := .compute } })

/-! ### The exchange window (R48, R118) -/

/-- Does the lane send its cell (R118)? -/
def State.sendsCell (s : State) (l : Nat) : Bool :=
  let c := s.core l
  s.tileRuns (l / 16) && c.retired && c.runOn && !c.halted && !s.flag (LAN_STAT l) LAN_STAT_HELD

/-- A cell that fails its check at a tile is discarded there (R21). -/
def State.cellBad (s : State) (n l : Nat) : State :=
  if Tab.get false s.cells (n * 128 + l) then
    let s := { s with cells := Tab.set false s.cells (n * 128 + l) false }
    let s := s.setF PKG_TILE_STAT PKG_TILE_STAT_FAB_ERR (s.getF PKG_TILE_STAT PKG_TILE_STAT_FAB_ERR ||| 2 ^ (l / 16))
    (s.raise PKG_FABRIC_ERR (l / 16) (s.period - 1120)).countT n 33 0x44 1
  else s

/-- EXCHANGE_WINDOW (R33, R48, R118): every lane is checked for an overrun, and the cells of the lanes that retired cross the fabric;
`bad`: the cells that fail their check, each with the tile that discards it. -/
def execExchangeWindow (bad : List (Nat × Nat)) (s : State) : Host.Outcome State Fault Refusal :=
  .next (
    if !s.boot.running then s
    else
      let s := { s with mer := { s.mer with phase := .exchange } }
      let s := forEach 128 (fun l s => if s.tileRuns (l / 16) then s.overrunCheck l else s) s
      let ls := (List.range 128).filter s.sendsCell
      let s := forList ls (fun l s => s.countT (l / 16) 33 0x43 1) s
      let tiles := (List.range 8).filter s.tileRuns
      let s := { s with cells := tiles.foldl (fun t n => ls.foldl (fun t l => Tab.set false t (n * 128 + l) true) t) [] }
      forList bad (fun e s => s.cellBad e.1 e.2) s)

/-! ### The mirror window (R33) -/

/-- Word `w` of the cell of lane `l` as the exchange delivers it (R158). -/
def State.cellWord (s : State) (l w : Nat) : Word :=
  if w = 1 ∧ (s.railOf l).isSome ∧ s.pstate l ≠ 1 then 0 else Tab.get 0 s.send (l * 8 + w)

/-- The receive buffers are replaced as a whole (R119). -/
def State.receive (s : State) : State :=
  let recv := s.cells.foldl (fun (t : Tab Word) e =>
    (List.range 8).foldl (fun (t : Tab Word) w => Tab.set 0 t (e.1 * 8 + w) (s.cellWord (e.1 % 128) w)) t) []
  { s with recv := recv, present := s.cells, cells := [] }

/-- The first 64 writes of a tile's write buffer are applied in order; those that waited behind enter it (R63). -/
def State.cramApply (s : State) (n : Nat) : State :=
  let cyc := s.period - 480
  let t := s.tile n
  if t.cramBuf.isEmpty then s
  else
    let now := t.cramBuf.take 64
    let rest := t.cramBuf.drop 64
    let s := match t.fullAt with | some k => s.countT n 34 0x53 (cyc - k) | none => s
    let s := s.countT n 34 0x52 now.length
    let s := { s with cram := now.foldl (fun (c : Tab Word) (e : Nat × Word) => Tab.set 0 c (n * 65536 + e.1) e.2) s.cram }
    s.modTile n fun x => { x with cramBuf := rest, fullAt := if 64 ≤ rest.length then some cyc else none }

/-- The sample registers that host software sees (R136). -/
def State.showSamples (s : State) (p : Nat) : State :=
  if s.tileDown (p / 16) then s
  else
    let x := s.port p
    ((s.wr (STG_SMP_I p) x.smpI).wr (STG_SMP_V p) x.smpV).wr (STG_SMP_T p) x.smpT

/-- A rail's sharing word at the close of the exchange window of its outer ticks (R176, R271, R290): the lead's word as its own tile
received it; an epoch that the survey map does not give is open (log entry 77). -/
def State.shareSend (s : State) (r : Nat) : State :=
  let o := TRP_SHR_OUT r
  if s.flag o TRP_SHR_OUT_EN ∧ s.mer.count % 2 ^ s.getF (PHS_RAIL_CTL r) PHS_RAIL_CTL_ODIV = 0 then
    let lead := s.activeLead r
    let v := s.recvWord (lead / 16) lead (s.getF o TRP_SHR_OUT_WORD)
    let capped := decide ((s.rd (PHS_RAIL_CAPLIM r)).toInt < 0x7FFFFF)
    let dst := s.getF o TRP_SHR_OUT_DEST
    let e : Nat × State := match s.trp.map.find? fun m => m.addr == dst with
      | some m => (m.epoch, s)
      | none => let f := s.takeWord; (f.1.toNat % 256, f.2)
    let c := e.2.cellOf 9 dst [BitVec.ofNat 24 (s.getF o TRP_SHR_OUT_SLOT + b2n capped * 2 ^ 23), v, lo24 s.mer.count]
    e.2.originate { c with epoch := e.1 } (s.period - 480)
  else s

/-- The step of the mirror window. -/
def State.mirrorStep (s : State) : State :=
  let s := { s with mer := { s.mer with phase := .mirror } }.receive.irqTick 3
  let s := forEach 8 (fun n s => s.cramApply n) s
  let s := forEach 16 (fun r s => s.shareSend r) s
  let s := forEach 16 (fun r s => s.railForm r (s.period - 480)) s
  let s := forEach 128 (fun p s => s.showSamples p) s
  let s := (forEach 16 (fun r s => s.railTelemetry r) s).holdupReserve
  let s := s.mirrorRefresh.histograms.census
  let s := forEach 8 (fun n s => s.traceCommit n) s
  { s with mir := { s.mir with news := [] } }.dbgMirror

/-- MIRROR_WINDOW (R33): the exchange window closes; the receive buffers and the coefficient RAM take their words, rails, telemetry and
the hold-up reserve are formed, the telemetry mirror, the histograms, the census and the trace take the tick. -/
def execMirrorWindow (s : State) : Host.Outcome State Fault Refusal := .next (if s.boot.running then s.mirrorStep else s)

/-! ### A bank switch at its boundary (R79, R437, R441) -/

/-- BANK_SWITCH (R79): at the S that begins the scheduled tick. An activation's switch starts the trial, a reverse switch ends it. -/
def execBankSwitch (s : State) : Host.Outcome State Fault Refusal :=
  .next (
    match s.switch with
    | none => s
    | some r =>
      let k := s.boundary
      if r.tick = some k then
        let s := s.switchApply r k
        if r.kind = 1 then s.trialStart k else if r.kind = 2 then s.trialOver else s
      else s)

end Sys2Proof.Machine
end

