-- ==== Sys2Proof/Machine/TileReset.lean ====
section
/-! DEFINITION. The reset of one tile: its effect, its end, and a tile that no longer acknowledges (R25 to R28, R44, R421, R423). -/

namespace Sys2Proof.Machine

/-- A port at the reset of its tile: what its analog front end and its PWM generator hold stays, with the comparators', the fault input's and
the safe action's hold on the gates; values, samples, averages and waiting writes are lost (R25, R152, R154, R181, R233, log entry 99). -/
def PortSt.tileReset (x : PortSt) : PortSt :=
  { persNow := x.persNow, fltLow := x.fltLow, drvHold := x.drvHold, ocHold := x.ocHold, rcActive := x.rcActive, ga := x.ga, gb := x.gb,
    gen := x.gen, start := x.start, tail := x.tail, edges := x.edges, sync := x.sync, carOfs := x.carOfs }

/-- The fuse or OR-ing unit of a port at the reset of its tile: the reference that GB carries stands, the rest is as after any reset (R25,
R185, R186, R198). -/
def FuseSt.tileReset (x : FuseSt) : FuseSt := { gb := x.gb }

/-- The ports of a tile at its reset; their sources take the defaults of the personality in force (R197, R349). -/
def State.portsReset (s : State) (n : Nat) : State :=
  forEach 16 (fun i s =>
    let p := 16 * n + i
    let s := (s.modPort p PortSt.tileReset).modFuse p FuseSt.tileReset
    if s.pers p = 0 then s else s.persClasses p (s.pers p)) s

/-- The state and the first cause of a port's safe action, which a tile reset does not end, and the level of its fault input (R148, R226,
R227). -/
def State.keepSafe (s z : State) (p : Nat) : State :=
  let z := z.setF (STG_STAT p) STG_STAT_DRV_FLT (b2n (z.port p).fltLow)
  (z.setF (STG_STAT p) STG_STAT_STATE 2).setF (ENV_STAT p) ENV_STAT_CAUSE (s.getF (ENV_STAT p) ENV_STAT_CAUSE)

/-- TILE_RESET_EFFECT (R25, R26, R421): at the boundary the tile's lanes, steward, collector, counters and trace are reset, its ports'
envelope and its steward's rights are loaded, a transfer of its two-wire bus ends, and accesses that waited for it end with error
status. -/
def execTileResetEffect (n : Nat) (s : State) : Host.Outcome State Fault Refusal :=
  .next (
    if !(s.tile n).rstPend ∨ !s.boot.running then s
    else
      let works := !(s.tile n).lost
      let s := s.collectorReset n works
      let s := s.modTile n fun t => { t with inReset := true }
      let s := s.switchTile n
      let s := if works then s.tileGone n 0 else s
      let s := s.setF PWS_STAT PWS_STAT_DOZED
        (if n = 0 then s.getF PWS_STAT PWS_STAT_DOZED else s.getF PWS_STAT PWS_STAT_DOZED &&& (127 - 2 ^ (n - 1)))
      let s := forEach 4 (fun b s => if busTile b = n then s.xferAbort b 0 else s) s
      let held := (s.tile n).held
      let s := { s with tiles := Tab.set {} s.tiles n { inReset := true } }
      let s := forEach 16 (fun i s => s.setCore (16 * n + i) {}) (s.setCore (128 + n) {})
      let s := { s with send := s.send.filter fun e => e.1 / 128 != n, gains := s.gains.filter fun e => e.1 / 128 != n,
                        recv := s.recv.filter fun e => e.1 / 1024 != n, present := s.present.filter fun e => e.1 / 128 != n,
                        dbg := { s.dbg with writes := s.dbg.writes.filter fun e => e.1 / 65536 / 16 != n } }
      let z := ((s.tileRegs n).portsReset n).envLoad ((List.range 16).map (16 * n + ·))
      let s := forEach 16 (fun i z => s.keepSafe z (16 * n + i)) z
      forList held (fun x s => s.complete x 0) (s.rightsLoadTile n))

/-- TILE_REJOIN (R27, R44, R423): `ms` after the request the tile has its code from the confirmed image (log entry 92), its coefficients, its fault
classification from the settings (R350) and empty data memories, its fabric delay `dly` is measured, and it rejoins the tick at the boundary at hand. -/
def execTileRejoin (n ms dly : Nat) (s : State) : Host.Outcome State Fault Refusal :=
  .next (
    if !(s.tile n).inReset ∨ !s.boot.running then s
    else
      let slot := s.confSlot
      let s := { s with dmem := s.dmem.filter fun e => !(e.1 / 65536 == 128 + n || e.1 / 65536 / 16 == n && decide (e.1 / 65536 < 128)),
                        cram := s.cram.filter fun e => e.1 / 65536 != n,
                        code := s.code.filter fun e => !(e.1 / 65536 == 128 + n || e.1 / 65536 / 16 == n && decide (e.1 / 65536 < 128)),
                        extent := s.extent.filter fun e => !(e.1 / 2 == 128 + n || e.1 / 2 / 16 == n && decide (e.1 / 2 < 128)) }
      let s := (s.loadTile slot s.loadBudget n).tileClasses n
      let s := forEach 16 (fun i s => s.setRun (16 * n + i)) s
      let s := (s.wr (MER_TILE_DLY n) (BitVec.ofNat 24 (dly % 4096))).alignCheck n dly 0
      let s := { s.modTile n fun t => { t with inReset := false } with mer := { s.mer with dlyTarget := Tab.set none s.mer.dlyTarget n none } }
      let s := s.setF PKG_TILE_STAT PKG_TILE_STAT_RUN (s.getF PKG_TILE_STAT PKG_TILE_STAT_RUN ||| 2 ^ n)
      let s := if n = 0 then s else s.setF PKG_TILE_RST PKG_TILE_RST_TILE (s.getF PKG_TILE_RST PKG_TILE_RST_TILE &&& (127 - 2 ^ (n - 1)))
      let s := forEach 16 (fun i s => s.atlasApply true 0 (16 * n + i)) s
      s.recordAt s.boundary 0x044 n 0 ms)

/-- TILE_ACK_LOST (R28): a tile that is not in reset has missed its acknowledgement in two consecutive ticks. -/
def execTileAckLost (n cyc : Nat) (s : State) : Host.Outcome State Fault Refusal :=
  .next (
    if !s.tileRuns n ∨ !s.boot.running then s else (s.modTile n fun t => { t with lost := true }).tileGone n cyc)

end Sys2Proof.Machine
end

