-- ==== Sys2Proof/Machine/AllMeanings.lean ====
section
/-! DEFINITION. Every meaning that the dispatch calls, in one import. -/
end

