-- ==== Sys2Proof/Machine/Dispatch.lean ====
section
/-! DEFINITION. The meaning of every command. -/

namespace Sys2Proof.Machine

open Sys2Proof

/-- The effect of a command on everything but the queue. -/
def exec (i : Instr) (s : State) : Host.Outcome State Fault Refusal :=
  match i with
  | .sampleInstant conv wake => Sys2Proof.Machine.execSampleInstant conv wake s
  | .computeWindowOpen => Sys2Proof.Machine.execComputeWindowOpen s
  | .exchangeWindow bad => Sys2Proof.Machine.execExchangeWindow bad s
  | .mirrorWindow => Sys2Proof.Machine.execMirrorWindow s
  | .guard => Sys2Proof.Machine.execGuard s
  | .tickMarkerArrival n came crcOk waited cyc => Sys2Proof.Machine.execTickMarkerArrival n came crcOk waited cyc s
  | .fabricDelayMeasure n dly cyc => Sys2Proof.Machine.execFabricDelayMeasure n dly cyc s
  | .registerTransfer a write addr ws bad => Sys2Proof.Machine.execRegisterTransfer a write addr ws bad s
  | .fabricHoldRelease cyc => Sys2Proof.Machine.execFabricHoldRelease cyc s
  | .registerWrite a addr w => Sys2Proof.Machine.execRegisterWrite a addr w s
  | .tileResetRequest a w => Sys2Proof.Machine.execTileResetRequest a w s
  | .tileResetEffect n => Sys2Proof.Machine.execTileResetEffect n s
  | .tileRejoin n ms dly => Sys2Proof.Machine.execTileRejoin n ms dly s
  | .tileAckLost n cyc => Sys2Proof.Machine.execTileAckLost n cyc s
  | .syncInEdge pos gap => Sys2Proof.Machine.execSyncInEdge pos gap s
  | .lockAchieved cyc => Sys2Proof.Machine.execLockAchieved cyc s
  | .lockHoldover cyc => Sys2Proof.Machine.execLockHoldover cyc s
  | .merCtlWrite a w => Sys2Proof.Machine.execMerCtlWrite a w s
  | .rateChangeRequest a w => Sys2Proof.Machine.execRateChangeRequest a w s
  | .rateCheckComplete => Sys2Proof.Machine.execRateCheckComplete s
  | .rateChangeApply => Sys2Proof.Machine.execRateChangeApply s
  | .lanPgmDataWrite a l w => Sys2Proof.Machine.execLanPgmDataWrite a l w s
  | .loadCheckStart a l => Sys2Proof.Machine.execLoadCheckStart a l s
  | .loadCheckComplete l => Sys2Proof.Machine.execLoadCheckComplete l s
  | .switchSchedule a stw atCount => Sys2Proof.Machine.execSwitchSchedule a stw atCount s
  | .switchCheckComplete => Sys2Proof.Machine.execSwitchCheckComplete s
  | .switchCancel a => Sys2Proof.Machine.execSwitchCancel a s
  | .bankSwitch => Sys2Proof.Machine.execBankSwitch s
  | .memDoubleError k cyc => Sys2Proof.Machine.execMemDoubleError k cyc s
  | .interruptEntry n => Sys2Proof.Machine.execInterruptEntry n s
  | .preciseException n cause a cyc => Sys2Proof.Machine.execPreciseException n cause a cyc s
  | .stewardAccessComplete n cyc => Sys2Proof.Machine.execStewardAccessComplete n cyc s
  | .nop u => Sys2Proof.Machine.execNop u s
  | .add u d a b => Sys2Proof.Machine.execAdd u d a b s
  | .adds u d a b => Sys2Proof.Machine.execAdds u d a b s
  | .sub u d a b => Sys2Proof.Machine.execSub u d a b s
  | .subs u d a b => Sys2Proof.Machine.execSubs u d a b s
  | .addu u d a b => Sys2Proof.Machine.execAddu u d a b s
  | .subu u d a b => Sys2Proof.Machine.execSubu u d a b s
  | .neg u d a => Sys2Proof.Machine.execNeg u d a s
  | .negs u d a => Sys2Proof.Machine.execNegs u d a s
  | .abs u d a => Sys2Proof.Machine.execAbs u d a s
  | .abss u d a => Sys2Proof.Machine.execAbss u d a s
  | .min u d a b => Sys2Proof.Machine.execMin u d a b s
  | .max u d a b => Sys2Proof.Machine.execMax u d a b s
  | .clip u d a b => Sys2Proof.Machine.execClip u d a b s
  | .norm u d a => Sys2Proof.Machine.execNorm u d a s
  | .and u d a b => Sys2Proof.Machine.execAnd u d a b s
  | .or u d a b => Sys2Proof.Machine.execOr u d a b s
  | .xor u d a b => Sys2Proof.Machine.execXor u d a b s
  | .not u d a => Sys2Proof.Machine.execNot u d a s
  | .asr u d a b => Sys2Proof.Machine.execAsr u d a b s
  | .lsr u d a b => Sys2Proof.Machine.execLsr u d a b s
  | .lsl u d a b => Sys2Proof.Machine.execLsl u d a b s
  | .lsls u d a b => Sys2Proof.Machine.execLsls u d a b s
  | .cmp u p1 a b c => Sys2Proof.Machine.execCmp u p1 a b c s
  | .addi u d a imm => Sys2Proof.Machine.execAddi u d a imm s
  | .addis u d a imm => Sys2Proof.Machine.execAddis u d a imm s
  | .andi u d a imm => Sys2Proof.Machine.execAndi u d a imm s
  | .ori u d a imm => Sys2Proof.Machine.execOri u d a imm s
  | .xori u d a imm => Sys2Proof.Machine.execXori u d a imm s
  | .asri u d a n => Sys2Proof.Machine.execAsri u d a n s
  | .lsri u d a n => Sys2Proof.Machine.execLsri u d a n s
  | .lsli u d a n => Sys2Proof.Machine.execLsli u d a n s
  | .lslis u d a n => Sys2Proof.Machine.execLslis u d a n s
  | .cmpi u p1 a c imm => Sys2Proof.Machine.execCmpi u p1 a c imm s
  | .paddi u pd ps imm => Sys2Proof.Machine.execPaddi u pd ps imm s
  | .trap u imm => Sys2Proof.Machine.execTrap u imm s
  | .mpy u ad a b m => Sys2Proof.Machine.execMpy u ad a b m s
  | .mac u ad a b m => Sys2Proof.Machine.execMac u ad a b m s
  | .msu u ad a b m => Sys2Proof.Machine.execMsu u ad a b m s
  | .mpyd u d a b m k => Sys2Proof.Machine.execMpyd u d a b m k s
  | .macd u d a b m k => Sys2Proof.Machine.execMacd u d a b m k s
  | .aclr u ad => Sys2Proof.Machine.execAclr u ad s
  | .aadd u ad aa ab => Sys2Proof.Machine.execAadd u ad aa ab s
  | .asub u ad aa ab => Sys2Proof.Machine.execAsub u ad aa ab s
  | .ash u ad aa b => Sys2Proof.Machine.execAsh u ad aa b s
  | .mvda u ad a m => Sys2Proof.Machine.execMvda u ad a m s
  | .satw u d aa k => Sys2Proof.Machine.execSatw u d aa k s
  | .wrw u d aa k => Sys2Proof.Machine.execWrw u d aa k s
  | .satg u d aa k => Sys2Proof.Machine.execSatg u d aa k s
  | .satc u d aa => Sys2Proof.Machine.execSatc u d aa s
  | .aget u d aa part => Sys2Proof.Machine.execAget u d aa part s
  | .aput u ad a part => Sys2Proof.Machine.execAput u ad a part s
  | .mov u d a => Sys2Proof.Machine.execMov u d a s
  | .mvp u pd a => Sys2Proof.Machine.execMvp u pd a s
  | .mpd u d pa => Sys2Proof.Machine.execMpd u d pa s
  | .mvc u c7 a => Sys2Proof.Machine.execMvc u c7 a s
  | .mcd u d c => Sys2Proof.Machine.execMcd u d c s
  | .movl u d imm => Sys2Proof.Machine.execMovl u d imm s
  | .movh u d imm => Sys2Proof.Machine.execMovh u d imm s
  | .movp u pd imm => Sys2Proof.Machine.execMovp u pd imm s
  | .ld u d pb m ofs ce => Sys2Proof.Machine.execLd u d pb m ofs ce s
  | .st u d pb m ofs => Sys2Proof.Machine.execSt u d pb m ofs s
  | .ldc u d pb m ofs ce => Sys2Proof.Machine.execLdc u d pb m ofs ce s
  | .stc u d pb m ofs => Sys2Proof.Machine.execStc u d pb m ofs s
  | .ldg u d b ofs => Sys2Proof.Machine.execLdg u d b ofs s
  | .stg u d b ofs => Sys2Proof.Machine.execStg u d b ofs s
  | .ldp u pd pb m ofs ce => Sys2Proof.Machine.execLdp u pd pb m ofs ce s
  | .stp u ps pb m ofs => Sys2Proof.Machine.execStp u ps pb m ofs s
  | .br u ofs => Sys2Proof.Machine.execBr u ofs s
  | .call u ofs => Sys2Proof.Machine.execCall u ofs s
  | .loop u creg count len => Sys2Proof.Machine.execLoop u creg count len s
  | .jmp u a => Sys2Proof.Machine.execJmp u a s
  | .callr u a => Sys2Proof.Machine.execCallr u a s
  | .ret u => Sys2Proof.Machine.execRet u s
  | .reti u => Sys2Proof.Machine.execReti u s
  | .wait u => Sys2Proof.Machine.execWait u s
  | .mvs u sd a => Sys2Proof.Machine.execMvs u sd a s
  | .msv u d sa => Sys2Proof.Machine.execMsv u d sa s
  | .mpuw u a b => Sys2Proof.Machine.execMpuw u a b s
  | .smp u d other src => Sys2Proof.Machine.execSmp u d other src s
  | .out u a tgt => Sys2Proof.Machine.execOut u a tgt s
  | .xchs u a w => Sys2Proof.Machine.execXchs u a w s
  | .xchr u d lane idx p1 w => Sys2Proof.Machine.execXchr u d lane idx p1 w s
  | .sco u d g => Sys2Proof.Machine.execSco u d g s
  | .tbl u d x pb signed => Sys2Proof.Machine.execTbl u d x pb signed s
  | .envt u a field p1 => Sys2Proof.Machine.execEnvt u a field p1 s
  | .lock u => Sys2Proof.Machine.execLock u s
  | .unlock u => Sys2Proof.Machine.execUnlock u s
  | .tickend u => Sys2Proof.Machine.execTickend u s
  | .slowAdcConversion n uv => Sys2Proof.Machine.execSlowAdcConversion n uv s
  | .stgPersWrite a p pers => Sys2Proof.Machine.execStgPersWrite a p pers s
  | .stgEnWrite a p en => Sys2Proof.Machine.execStgEnWrite a p en s
  | .pwmUpdatePoint p u mid pos => Sys2Proof.Machine.execPwmUpdatePoint p u mid pos s
  | .ocComparatorFire p u cyc => Sys2Proof.Machine.execOcComparatorFire p u cyc s
  | .rcComparatorFire p raw cyc => Sys2Proof.Machine.execRcComparatorFire p raw cyc s
  | .driverFaultInput p cyc => Sys2Proof.Machine.execDriverFaultInput p cyc s
  | .tachEdge p per => Sys2Proof.Machine.execTachEdge p per s
  | .fanStandstill p => Sys2Proof.Machine.execFanStandstill p s
  | .fanStallCheck p cyc => Sys2Proof.Machine.execFanStallCheck p cyc s
  | .pwmSyncHoldover p cyc => Sys2Proof.Machine.execPwmSyncHoldover p cyc s
  | .phsRailMaskWrite a r m => Sys2Proof.Machine.execPhsRailMaskWrite a r m s
  | .phsRailLeadWrite a r lead alt => Sys2Proof.Machine.execPhsRailLeadWrite a r lead alt s
  | .railStateWrite a r st => Sys2Proof.Machine.execRailStateWrite a r st s
  | .railDetectConversion r code excl cyc => Sys2Proof.Machine.execRailDetectConversion r code excl cyc s
  | .fuseGridPoint p cyc conv => Sys2Proof.Machine.execFuseGridPoint p cyc conv s
  | .fuseInrushTimeout p cyc => Sys2Proof.Machine.execFuseInrushTimeout p cyc s
  | .fuseRetryProgressCheck p cyc => Sys2Proof.Machine.execFuseRetryProgressCheck p cyc s
  | .fuseOfftimeExpire p => Sys2Proof.Machine.execFuseOfftimeExpire p s
  | .fuseCleanExpire p => Sys2Proof.Machine.execFuseCleanExpire p s
  | .fuseClear a p => Sys2Proof.Machine.execFuseClear a p s
  | .oringGridPoint p cyc conv => Sys2Proof.Machine.execOringGridPoint p cyc conv s
  | .staggerExpire => Sys2Proof.Machine.execStaggerExpire s
  | .stringInsertion u cyc => Sys2Proof.Machine.execStringInsertion u cyc s
  | .stringRemoval u cyc => Sys2Proof.Machine.execStringRemoval u cyc s
  | .restCorrection u cyc => Sys2Proof.Machine.execRestCorrection u cyc s
  | .endOfCharge u => Sys2Proof.Machine.execEndOfCharge u s
  | .endOfDischarge u cyc => Sys2Proof.Machine.execEndOfDischarge u cyc s
  | .stringRecordWrite u => Sys2Proof.Machine.execStringRecordWrite u s
  | .stringRecordWriteDone u ok cyc => Sys2Proof.Machine.execStringRecordWriteDone u ok cyc s
  | .batCtlWrite a u w => Sys2Proof.Machine.execBatCtlWrite a u w s
  | .batQnomWrite a u w => Sys2Proof.Machine.execBatQnomWrite a u w s
  | .pfailAssert => Sys2Proof.Machine.execPfailAssert s
  | .holdEntry => Sys2Proof.Machine.execHoldEntry s
  | .holdExit => Sys2Proof.Machine.execHoldExit s
  | .envWrite a p k w => Sys2Proof.Machine.execEnvWrite a p k w s
  | .envOtpProgram a w => Sys2Proof.Machine.execEnvOtpProgram a w s
  | .envSeal a => Sys2Proof.Machine.execEnvSeal a s
  | .envSealComplete => Sys2Proof.Machine.execEnvSealComplete s
  | .envLockFuse a confirm => Sys2Proof.Machine.execEnvLockFuse a confirm s
  | .linkSlot l j => Sys2Proof.Machine.execLinkSlot l j s
  | .alarmFoldBack q => Sys2Proof.Machine.execAlarmFoldBack q s
  | .idleCell l c cyc => Sys2Proof.Machine.execIdleCell l c cyc s
  | .markerCell l m t2 gap cyc => Sys2Proof.Machine.execMarkerCell l m t2 gap cyc s
  | .echoCell l m t4 cyc => Sys2Proof.Machine.execEchoCell l m t4 cyc s
  | .alarmCell l c cyc => Sys2Proof.Machine.execAlarmCell l c cyc s
  | .cmdRead l c cyc => Sys2Proof.Machine.execCmdRead l c cyc s
  | .cmdWrite l c cyc => Sys2Proof.Machine.execCmdWrite l c cyc s
  | .resultCell l c cyc => Sys2Proof.Machine.execResultCell l c cyc s
  | .queryCell l c cyc => Sys2Proof.Machine.execQueryCell l c cyc s
  | .answerCell l c cyc => Sys2Proof.Machine.execAnswerCell l c cyc s
  | .surveyDiscover l c cyc => Sys2Proof.Machine.execSurveyDiscover l c cyc s
  | .surveyFound l c cyc => Sys2Proof.Machine.execSurveyFound l c cyc s
  | .surveyEnd l c ms cyc => Sys2Proof.Machine.execSurveyEnd l c ms cyc s
  | .surveyAssign l c cyc => Sys2Proof.Machine.execSurveyAssign l c cyc s
  | .surveyDone l c ms cyc => Sys2Proof.Machine.execSurveyDone l c ms cyc s
  | .surveyAssignReq l c cyc => Sys2Proof.Machine.execSurveyAssignReq l c cyc s
  | .surveyAssignAck l c cyc => Sys2Proof.Machine.execSurveyAssignAck l c cyc s
  | .surveyStart cyc => Sys2Proof.Machine.execSurveyStart cyc s
  | .trpResurvey a => Sys2Proof.Machine.execTrpResurvey a s
  | .trpCtlWrite a w => Sys2Proof.Machine.execTrpCtlWrite a w s
  | .surveyTimeout l ms cyc => Sys2Proof.Machine.execSurveyTimeout l ms cyc s
  | .surveyGapProbe l cyc => Sys2Proof.Machine.execSurveyGapProbe l cyc s
  | .measureComplete cyc => Sys2Proof.Machine.execMeasureComplete cyc s
  | .countAdopt cyc => Sys2Proof.Machine.execCountAdopt cyc s
  | .linkTrained l => Sys2Proof.Machine.execLinkTrained l s
  | .linkDown l cyc => Sys2Proof.Machine.execLinkDown l cyc s
  | .ackIdleSend a cyc => Sys2Proof.Machine.execAckIdleSend a cyc s
  | .shedApply l c cyc => Sys2Proof.Machine.execShedApply l c cyc s
  | .shedRelease l c cyc => Sys2Proof.Machine.execShedRelease l c cyc s
  | .shedSet l c cyc => Sys2Proof.Machine.execShedSet l c cyc s
  | .waveApply cyc => Sys2Proof.Machine.execWaveApply cyc s
  | .shareCell l c cyc => Sys2Proof.Machine.execShareCell l c cyc s
  | .tlmCell l c cyc => Sys2Proof.Machine.execTlmCell l c cyc s
  | .recCell l c cyc => Sys2Proof.Machine.execRecCell l c cyc s
  | .bulkCell l c ok cyc => Sys2Proof.Machine.execBulkCell l c ok cyc s
  | .logCell l c cyc => Sys2Proof.Machine.execLogCell l c cyc s
  | .capPinAssert cyc => Sys2Proof.Machine.execCapPinAssert cyc s
  | .capPinRelease => Sys2Proof.Machine.execCapPinRelease s
  | .capLocalWrite a w => Sys2Proof.Machine.execCapLocalWrite a w s
  | .waveSend a op ent mask => Sys2Proof.Machine.execWaveSend a op ent mask s
  | .wavePeriodicSet => Sys2Proof.Machine.execWavePeriodicSet s
  | .dgramCmdRead f d cyc => Sys2Proof.Machine.execDgramCmdRead f d cyc s
  | .dgramCmdWrite f d cyc => Sys2Proof.Machine.execDgramCmdWrite f d cyc s
  | .dgramResult f d cyc => Sys2Proof.Machine.execDgramResult f d cyc s
  | .dgramQuery f d cyc => Sys2Proof.Machine.execDgramQuery f d cyc s
  | .dgramAnswer f d cyc => Sys2Proof.Machine.execDgramAnswer f d cyc s
  | .dgramShed f d cyc => Sys2Proof.Machine.execDgramShed f d cyc s
  | .dgramTlm f d cyc => Sys2Proof.Machine.execDgramTlm f d cyc s
  | .dgramHealth f d cyc => Sys2Proof.Machine.execDgramHealth f d cyc s
  | .dgramBulk f d ok cyc => Sys2Proof.Machine.execDgramBulk f d ok cyc s
  | .dgramBulkAck f d cyc => Sys2Proof.Machine.execDgramBulkAck f d cyc s
  | .dgramRec f d cyc => Sys2Proof.Machine.execDgramRec f d cyc s
  | .dgramRecAck f d cyc => Sys2Proof.Machine.execDgramRecAck f d cyc s
  | .probe f d cyc => Sys2Proof.Machine.execProbe f d cyc s
  | .probeEcho f d rtt cyc => Sys2Proof.Machine.execProbeEcho f d rtt cyc s
  | .probeSend => Sys2Proof.Machine.execProbeSend s
  | .probeLost p n cyc => Sys2Proof.Machine.execProbeLost p n cyc s
  | .arpRequest f ip cyc => Sys2Proof.Machine.execArpRequest f ip cyc s
  | .neighbourSolicitation f ip cyc => Sys2Proof.Machine.execNeighbourSolicitation f ip cyc s
  | .icmpEchoRequest f ip dst id cyc => Sys2Proof.Machine.execIcmpEchoRequest f ip dst id cyc s
  | .prpSupervisionFrame f => Sys2Proof.Machine.execPrpSupervisionFrame f s
  | .prpSupervisionSend => Sys2Proof.Machine.execPrpSupervisionSend s
  | .dupEntryExpire mac seq cyc => Sys2Proof.Machine.execDupEntryExpire mac seq cyc s
  | .compareWindowEnd cyc => Sys2Proof.Machine.execCompareWindowEnd cyc s
  | .sgmiiLinkChange p sync link speedOk cyc => Sys2Proof.Machine.execSgmiiLinkChange p sync link speedOk cyc s
  | .bothDownRepeat cyc => Sys2Proof.Machine.execBothDownRepeat cyc s
  | .sessionSave ok => Sys2Proof.Machine.execSessionSave ok s
  | .healthSend => Sys2Proof.Machine.execHealthSend s
  | .tlmSend cyc => Sys2Proof.Machine.execTlmSend cyc s
  | .ptpSync p domain v6 ident c sec ns rate ofs => Sys2Proof.Machine.execPtpSync p domain v6 ident c sec ns rate ofs s
  | .ptpFollowUp p domain v6 ident c sec ns rate ofs => Sys2Proof.Machine.execPtpFollowUp p domain v6 ident c sec ns rate ofs s
  | .ptpAnnounce p domain v6 d => Sys2Proof.Machine.execPtpAnnounce p domain v6 d s
  | .ptpDelayResp p domain v6 ident c sec ns rate ofs => Sys2Proof.Machine.execPtpDelayResp p domain v6 ident c sec ns rate ofs s
  | .ptpLost cyc => Sys2Proof.Machine.execPtpLost cyc s
  | .pageWrite t v => Sys2Proof.Machine.execPageWrite t v s
  | .pageRead t => Sys2Proof.Machine.execPageRead t s
  | .operationWrite t v => Sys2Proof.Machine.execOperationWrite t v s
  | .operationRead t => Sys2Proof.Machine.execOperationRead t s
  | .clearFaults t => Sys2Proof.Machine.execClearFaults t s
  | .capability t => Sys2Proof.Machine.execCapability t s
  | .voutMode t => Sys2Proof.Machine.execVoutMode t s
  | .statusByte t => Sys2Proof.Machine.execStatusByte t s
  | .statusWord t => Sys2Proof.Machine.execStatusWord t s
  | .statusVout t => Sys2Proof.Machine.execStatusVout t s
  | .statusIout t => Sys2Proof.Machine.execStatusIout t s
  | .statusInput t => Sys2Proof.Machine.execStatusInput t s
  | .statusCml t => Sys2Proof.Machine.execStatusCml t s
  | .statusMfrSpecific t => Sys2Proof.Machine.execStatusMfrSpecific t s
  | .readVin t => Sys2Proof.Machine.execReadVin t s
  | .readVout t => Sys2Proof.Machine.execReadVout t s
  | .readIout t => Sys2Proof.Machine.execReadIout t s
  | .readTemperature1 t => Sys2Proof.Machine.execReadTemperature1 t s
  | .readFanSpeed1 t => Sys2Proof.Machine.execReadFanSpeed1 t s
  | .readPout t => Sys2Proof.Machine.execReadPout t s
  | .pmbusRevision t => Sys2Proof.Machine.execPmbusRevision t s
  | .mfrId t => Sys2Proof.Machine.execMfrId t s
  | .mfrModel t => Sys2Proof.Machine.execMfrModel t s
  | .mfrGzPtr t count addr top dir n => Sys2Proof.Machine.execMfrGzPtr t count addr top dir n s
  | .mfrGzDataRead t => Sys2Proof.Machine.execMfrGzDataRead t s
  | .mfrGzDataWrite t count ws => Sys2Proof.Machine.execMfrGzDataWrite t count ws s
  | .gzPrefetchDone b cyc => Sys2Proof.Machine.execGzPrefetchDone b cyc s
  | .alertResponseRead b won => Sys2Proof.Machine.execAlertResponseRead b won s
  | .twbWriteApply b cyc => Sys2Proof.Machine.execTwbWriteApply b cyc s
  | .twbTimeout b cyc => Sys2Proof.Machine.execTwbTimeout b cyc s
  | .whistle b => Sys2Proof.Machine.execWhistle b s
  | .whistleRelease b => Sys2Proof.Machine.execWhistleRelease b s
  | .whistleAbort b => Sys2Proof.Machine.execWhistleAbort b s
  | .whistleRepeat b => Sys2Proof.Machine.execWhistleRepeat b s
  | .whistleSeen b => Sys2Proof.Machine.execWhistleSeen b s
  | .twbXferGo a b w => Sys2Proof.Machine.execTwbXferGo a b w s
  | .twbXferDone b err nb bytes scl sda cyc => Sys2Proof.Machine.execTwbXferDone b err nb bytes scl sda cyc s
  | .twbArbRetry b => Sys2Proof.Machine.execTwbArbRetry b s
  | .twbCtlWrite a b w => Sys2Proof.Machine.execTwbCtlWrite a b w s
  | .rgtMapProgram a k w => Sys2Proof.Machine.execRgtMapProgram a k w s
  | .rgtSeal a confirm => Sys2Proof.Machine.execRgtSeal a confirm s
  | .rgtSealComplete => Sys2Proof.Machine.execRgtSealComplete s
  | .rgtPortTighten a p w => Sys2Proof.Machine.execRgtPortTighten a p w s
  | .fltClassWrite a x n ms w tier => Sys2Proof.Machine.execFltClassWrite a x n ms w tier s
  | .faultForce a x => Sys2Proof.Machine.execFaultForce a x s
  | .aliveChangeInstant e => Sys2Proof.Machine.execAliveChangeInstant e s
  | .wdgKeyWrite a w e => Sys2Proof.Machine.execWdgKeyWrite a w e s
  | .wdgConfigWrite a k w e => Sys2Proof.Machine.execWdgConfigWrite a k w e s
  | .wdgExpiry e cyc => Sys2Proof.Machine.execWdgExpiry e cyc s
  | .wdoPulseEnd => Sys2Proof.Machine.execWdoPulseEnd s
  | .oscLost cyc => Sys2Proof.Machine.execOscLost cyc s
  | .clkLost e => Sys2Proof.Machine.execClkLost e s
  | .recorderFlush => Sys2Proof.Machine.execRecorderFlush s
  | .flushComplete failed ok cyc => Sys2Proof.Machine.execFlushComplete failed ok cyc s
  | .flushPeriodic => Sys2Proof.Machine.execFlushPeriodic s
  | .recFlushCmd a => Sys2Proof.Machine.execRecFlushCmd a s
  | .tokenRefill => Sys2Proof.Machine.execTokenRefill s
  | .recClear a => Sys2Proof.Machine.execRecClear a s
  | .recFetch a w => Sys2Proof.Machine.execRecFetch a w s
  | .recFetchDone => Sys2Proof.Machine.execRecFetchDone s
  | .recHqWrite a q w => Sys2Proof.Machine.execRecHqWrite a q w s
  | .recStreamSend cyc => Sys2Proof.Machine.execRecStreamSend cyc s
  | .roMonitorReport n m0 m1 m2 m3 tj cyc => Sys2Proof.Machine.execRoMonitorReport n m0 m1 m2 m3 tj cyc s
  | .avsStep cyc => Sys2Proof.Machine.execAvsStep cyc s
  | .capProbeBurstStart r => Sys2Proof.Machine.execCapProbeBurstStart r s
  | .capProbeComplete r rev => Sys2Proof.Machine.execCapProbeComplete r rev s
  | .atlasRevision cyc => Sys2Proof.Machine.execAtlasRevision cyc s
  | .ageBaselineReset a p every => Sys2Proof.Machine.execAgeBaselineReset a p every s
  | .dozeEntry n => Sys2Proof.Machine.execDozeEntry n s
  | .dozeWakeEvent n cyc => Sys2Proof.Machine.execDozeWakeEvent n cyc s
  | .dozeExit n => Sys2Proof.Machine.execDozeExit n s
  | .lullEntry ok => Sys2Proof.Machine.execLullEntry ok s
  | .lullWakeEvent pin cyc => Sys2Proof.Machine.execLullWakeEvent pin cyc s
  | .lullExit => Sys2Proof.Machine.execLullExit s
  | .pwsWakeCmd a => Sys2Proof.Machine.execPwsWakeCmd a s
  | .keeperEntry ok => Sys2Proof.Machine.execKeeperEntry ok s
  | .keeperWake => Sys2Proof.Machine.execKeeperWake s
  | .powerOnReset => Sys2Proof.Machine.execPowerOnReset s
  | .pinReset => Sys2Proof.Machine.execPinReset s
  | .packageResetRequest a confirm => Sys2Proof.Machine.execPackageResetRequest a confirm s
  | .packageReset => Sys2Proof.Machine.execPackageReset s
  | .boot b => Sys2Proof.Machine.execBoot b s
  | .bootTimeout => Sys2Proof.Machine.execBootTimeout s
  | .updOpen a ok => Sys2Proof.Machine.execUpdOpen a ok s
  | .updAbort a => Sys2Proof.Machine.execUpdAbort a s
  | .updVerify a => Sys2Proof.Machine.execUpdVerify a s
  | .updVerifyComplete cyc => Sys2Proof.Machine.execUpdVerifyComplete cyc s
  | .updActivate a => Sys2Proof.Machine.execUpdActivate a s
  | .activationChecksDone => Sys2Proof.Machine.execActivationChecksDone s
  | .updReject a => Sys2Proof.Machine.execUpdReject a s
  | .updDlDataWrite a w ok => Sys2Proof.Machine.execUpdDlDataWrite a w ok s
  | .updConfirm a w => Sys2Proof.Machine.execUpdConfirm a w s
  | .confirmWindowExpire cyc => Sys2Proof.Machine.execConfirmWindowExpire cyc s
  | .fallback cyc => Sys2Proof.Machine.execFallback cyc s
  | .fallbackTimeout => Sys2Proof.Machine.execFallbackTimeout s
  | .keyProgram a w => Sys2Proof.Machine.execKeyProgram a w s
  | .keyRevoke a slot confirm => Sys2Proof.Machine.execKeyRevoke a slot confirm s
  | .prfTagCtlWrite a n w => Sys2Proof.Machine.execPrfTagCtlWrite a n w s
  | .tagPop a n => Sys2Proof.Machine.execTagPop a n s
  | .censusDrainDone n => Sys2Proof.Machine.execCensusDrainDone n s
  | .traceArm a n => Sys2Proof.Machine.execTraceArm a n s
  | .traceForce a n => Sys2Proof.Machine.execTraceForce a n s
  | .traceCrossTrigger n cyc => Sys2Proof.Machine.execTraceCrossTrigger n cyc s
  | .tapReset => Sys2Proof.Machine.execTapReset s
  | .extest bits => Sys2Proof.Machine.execExtest bits s
  | .samplePreload bits => Sys2Proof.Machine.execSamplePreload bits s
  | .idcode => Sys2Proof.Machine.execIdcode s
  | .bypass => Sys2Proof.Machine.execBypass s
  | .dbgaccRead addr consume cyc => Sys2Proof.Machine.execDbgaccRead addr consume cyc s
  | .dbgaccWrite addr w cyc => Sys2Proof.Machine.execDbgaccWrite addr w cyc s
  | .dbgaccNop => Sys2Proof.Machine.execDbgaccNop s
  | .debugSessionWrite a on => Sys2Proof.Machine.execDebugSessionWrite a on s
  | .stewardHalt a n => Sys2Proof.Machine.execStewardHalt a n s
  | .stewardBreakpoint n => Sys2Proof.Machine.execStewardBreakpoint n s
  | .stewardStep a n => Sys2Proof.Machine.execStewardStep a n s
  | .stewardResume a n => Sys2Proof.Machine.execStewardResume a n s
  | .stewardDebugReq a n => Sys2Proof.Machine.execStewardDebugReq a n s
  | .stewardHardHalt a n => Sys2Proof.Machine.execStewardHardHalt a n s
  | .laneHalt a l => Sys2Proof.Machine.execLaneHalt a l s
  | .laneBreakpoint l => Sys2Proof.Machine.execLaneBreakpoint l s
  | .laneStep a l => Sys2Proof.Machine.execLaneStep a l s
  | .laneResume a l => Sys2Proof.Machine.execLaneResume a l s
  | .laneHardHalt a l => Sys2Proof.Machine.execLaneHardHalt a l s
  | .debugMemAccess a write w => Sys2Proof.Machine.execDebugMemAccess a write w s
  | .mailboxWrite a n u w => Sys2Proof.Machine.execMailboxWrite a n u w s
  | .stewardTimerExpiry n t => Sys2Proof.Machine.execStewardTimerExpiry n t s
  | .pfailRelease => Sys2Proof.Machine.execPfailRelease s
  | .driverFaultRelease p => Sys2Proof.Machine.execDriverFaultRelease p s
  | .atlasRevisionComplete ok cyc => Sys2Proof.Machine.execAtlasRevisionComplete ok cyc s
  | .updConfirmComplete => Sys2Proof.Machine.execUpdConfirmComplete s

end Sys2Proof.Machine
end

