-- ==== Sys2Proof/Machine/Step.lean ====
section
/-! DEFINITION. The block's step: the command at the front of the queue runs. -/

namespace Sys2Proof.Machine

/-- One step: the command that has waited longest runs on the state with the rest of the queue; with no command
waiting the block idles (log entry 1). -/
def step (s : State) : Host.Outcome State Fault Refusal :=
  match s.pending with
  | [] => .next s
  | c :: q => exec c { s with pending := q }

/-- The state with the command that a table word spells in front of its queue. The table gives its rows no bits, so no
word spells a command and the state stays as it is (log entry 1). -/
def State.withFetchWord (s : State) (nbits w : Nat) : State :=
  match decodeTableWord nbits w with
  | some c => { s with pending := c :: s.pending }
  | none => s

end Sys2Proof.Machine
end

