-- ==== Sys2Proof/WellFormed.lean ====
section
/-! DEFINITION. Which commands are well formed: the ranges that the spec gives their operands. -/

namespace Sys2Proof

open Sys2Proof.Machine

/-- An optional number that lies below a bound where there is one. -/
def optBelow (b : Nat) : Option Nat → Bool
  | none => true
  | some n => decide (n < b)

/-- A core of 136 (R56), a predicate code of eight (R86), a stall cause of eight (R452). -/
def Machine.Issue.wf (i : Issue) : Bool := decide (i.core < 136) && decide (i.pred < 8) && decide (i.wait < 8)

/-- An arrival port of 21 (R334). -/
def Machine.Arr.wf (a : Arr) : Bool := decide (a.port < 21)

/-- A bus of four and a command code of one byte (R316, R325). -/
def Machine.Txn.wf (t : Txn) : Bool := decide (t.bus < 4) && decide (t.code < 256)

/-- The field widths of a cell's header and its 16 payload words (R241). -/
def Machine.Cell.wf (c : Cell) : Bool :=
  decide (c.ty < 16) && decide (c.dst < 16384) && decide (c.src < 16384) && decide (c.port < 256) && decide (c.epoch < 256) &&
    decide (c.rights < 32) && decide (c.seq < 4096) && decide (c.ack < 4096) && decide (c.payload.length = 16)

/-- The field widths of a marker or an echo (R244). -/
def Machine.Marker.wf (m : Marker) : Bool :=
  decide (m.src < 16384) && decide (m.sysEpoch < 256) && decide (m.hops < 256) && decide (m.count < 2 ^ 48) &&
    decide (m.n < 2 ^ 17) && decide (m.rateAt < 2 ^ 48) && decide (m.newN < 2 ^ 17) &&
    decide (-(2 ^ 31 : Int) ≤ m.rx ∧ m.rx < 2 ^ 31) && decide (m.almAck < 4096) && decide (m.tCount < 2 ^ 48) &&
    decide (m.tSec < 2 ^ 48) && decide (m.tNs < 2 ^ 32)

/-- A management path of two, a MAC address, a 16-bit redundancy sequence number (R293, R298). -/
def Machine.Frame.wf (f : Frame) : Bool := decide (f.path < 2) && decide (f.mac < 2 ^ 48) && optBelow 65536 f.rct

/-- The field widths of a datagram's header, and at most 1,024 bytes of data (R295, R296). -/
def Machine.Dgram.wf (d : Dgram) : Bool :=
  decide (d.ver < 16) && decide (d.op < 256) && decide (d.session < 65536) && decide (d.seq < 4096) && decide (d.ack < 4096) &&
    decide (d.target < 16384) && decide (d.port < 256) && decide (d.epoch < 256) && decide (d.off < 2 ^ 48) &&
    decide (d.bytes.length ≤ 1024) && d.bytes.all (fun b => decide (b < 256))

/-- Is the command one that the block can be sent? The meanings are total and do not ask; a statement may. -/
def Instr.wf : Instr → Bool
  | .sampleInstant conv _ => conv.all (fun x => decide (x.1 < 128))
  | .computeWindowOpen => true
  | .exchangeWindow bad => bad.all (fun x => decide (x.1 < 8) && decide (x.2 < 128))
  | .mirrorWindow => true
  | .guard => true
  | .tickMarkerArrival n _ _ _ _ => decide (n < 8)
  | .fabricDelayMeasure n _ _ => decide (n < 8)
  | .registerTransfer a _ addr _ _ => a.wf && decide (addr < 1048576)
  | .fabricHoldRelease _ => true
  | .registerWrite a addr _ => a.wf && decide (addr < 1048576)
  | .tileResetRequest a _ => a.wf
  | .tileResetEffect n => decide (n < 8)
  | .tileRejoin n _ _ => decide (1 ≤ n ∧ n < 8)
  | .tileAckLost n _ => decide (n < 8)
  | .syncInEdge _ _ => true
  | .lockAchieved _ => true
  | .lockHoldover _ => true
  | .merCtlWrite a _ => a.wf
  | .rateChangeRequest a _ => a.wf
  | .rateCheckComplete => true
  | .rateChangeApply => true
  | .lanPgmDataWrite a l _ => a.wf && decide (l < 128)
  | .loadCheckStart a l => a.wf && decide (l < 128)
  | .loadCheckComplete l => decide (l < 128)
  | .switchSchedule a _ _ => a.wf
  | .switchCheckComplete => true
  | .switchCancel a => a.wf
  | .bankSwitch => true
  | .memDoubleError k _ => decide (k < 136)
  | .interruptEntry n => decide (n < 8)
  | .preciseException n cause a _ => decide (n < 8) && decide (cause < 4) && decide (a < 1048576)
  | .stewardAccessComplete n _ => decide (n < 8)
  | .nop i => i.wf
  | .add i d a b => i.wf && decide (d < 16) && decide (a < 16) && decide (b < 16)
  | .adds i d a b => i.wf && decide (d < 16) && decide (a < 16) && decide (b < 16)
  | .sub i d a b => i.wf && decide (d < 16) && decide (a < 16) && decide (b < 16)
  | .subs i d a b => i.wf && decide (d < 16) && decide (a < 16) && decide (b < 16)
  | .addu i d a b => i.wf && decide (d < 16) && decide (a < 16) && decide (b < 16)
  | .subu i d a b => i.wf && decide (d < 16) && decide (a < 16) && decide (b < 16)
  | .neg i d a => i.wf && decide (d < 16) && decide (a < 16)
  | .negs i d a => i.wf && decide (d < 16) && decide (a < 16)
  | .abs i d a => i.wf && decide (d < 16) && decide (a < 16)
  | .abss i d a => i.wf && decide (d < 16) && decide (a < 16)
  | .min i d a b => i.wf && decide (d < 16) && decide (a < 16) && decide (b < 16)
  | .max i d a b => i.wf && decide (d < 16) && decide (a < 16) && decide (b < 16)
  | .clip i d a b => i.wf && decide (d < 16) && decide (a < 16) && decide (b < 16)
  | .norm i d a => i.wf && decide (d < 16) && decide (a < 16)
  | .and i d a b => i.wf && decide (d < 16) && decide (a < 16) && decide (b < 16)
  | .or i d a b => i.wf && decide (d < 16) && decide (a < 16) && decide (b < 16)
  | .xor i d a b => i.wf && decide (d < 16) && decide (a < 16) && decide (b < 16)
  | .not i d a => i.wf && decide (d < 16) && decide (a < 16)
  | .asr i d a b => i.wf && decide (d < 16) && decide (a < 16) && decide (b < 16)
  | .lsr i d a b => i.wf && decide (d < 16) && decide (a < 16) && decide (b < 16)
  | .lsl i d a b => i.wf && decide (d < 16) && decide (a < 16) && decide (b < 16)
  | .lsls i d a b => i.wf && decide (d < 16) && decide (a < 16) && decide (b < 16)
  | .cmp i _ a b _ => i.wf && decide (a < 16) && decide (b < 16)
  | .addi i d a _ => i.wf && decide (d < 16) && decide (a < 16)
  | .addis i d a _ => i.wf && decide (d < 16) && decide (a < 16)
  | .andi i d a _ => i.wf && decide (d < 16) && decide (a < 16)
  | .ori i d a _ => i.wf && decide (d < 16) && decide (a < 16)
  | .xori i d a _ => i.wf && decide (d < 16) && decide (a < 16)
  | .asri i d a n => i.wf && decide (d < 16) && decide (a < 16) && decide (n < 24)
  | .lsri i d a n => i.wf && decide (d < 16) && decide (a < 16) && decide (n < 24)
  | .lsli i d a n => i.wf && decide (d < 16) && decide (a < 16) && decide (n < 24)
  | .lslis i d a n => i.wf && decide (d < 16) && decide (a < 16) && decide (n < 24)
  | .cmpi i _ a _ _ => i.wf && decide (a < 16)
  | .paddi i pd ps _ => i.wf && decide (pd < 8) && decide (ps < 8)
  | .trap i _ => i.wf
  | .mpy i ad a b _ => i.wf && decide (ad < 4) && decide (a < 16) && decide (b < 16)
  | .mac i ad a b _ => i.wf && decide (ad < 4) && decide (a < 16) && decide (b < 16)
  | .msu i ad a b _ => i.wf && decide (ad < 4) && decide (a < 16) && decide (b < 16)
  | .mpyd i d a b _ _ => i.wf && decide (d < 16) && decide (a < 16) && decide (b < 16)
  | .macd i d a b _ _ => i.wf && decide (d < 16) && decide (a < 16) && decide (b < 16)
  | .aclr i ad => i.wf && decide (ad < 4)
  | .aadd i ad aa ab => i.wf && decide (ad < 4) && decide (aa < 4) && decide (ab < 4)
  | .asub i ad aa ab => i.wf && decide (ad < 4) && decide (aa < 4) && decide (ab < 4)
  | .ash i ad aa b => i.wf && decide (ad < 4) && decide (aa < 4) && decide (b < 16)
  | .mvda i ad a _ => i.wf && decide (ad < 4) && decide (a < 16)
  | .satw i d aa _ => i.wf && decide (d < 16) && decide (aa < 4)
  | .wrw i d aa _ => i.wf && decide (d < 16) && decide (aa < 4)
  | .satg i d aa _ => i.wf && decide (d < 16) && decide (aa < 4)
  | .satc i d aa => i.wf && decide (d < 16) && decide (aa < 4)
  | .aget i d aa part => i.wf && decide (d < 16) && decide (aa < 4) && decide (part < 3)
  | .aput i ad a part => i.wf && decide (ad < 4) && decide (a < 16) && decide (part < 3)
  | .mov i d a => i.wf && decide (d < 16) && decide (a < 16)
  | .mvp i pd a => i.wf && decide (pd < 8) && decide (a < 16)
  | .mpd i d pa => i.wf && decide (d < 16) && decide (pa < 8)
  | .mvc i _ a => i.wf && decide (a < 16)
  | .mcd i d c => i.wf && decide (d < 16) && decide (c < 8)
  | .movl i d _ => i.wf && decide (d < 16)
  | .movh i d _ => i.wf && decide (d < 16)
  | .movp i pd _ => i.wf && decide (pd < 8)
  | .ld i d pb _ ofs _ => i.wf && decide (d < 16) && decide (pb < 8) && decide (-4096 ≤ ofs ∧ ofs < 4096)
  | .st i d pb _ ofs => i.wf && decide (d < 16) && decide (pb < 8) && decide (-4096 ≤ ofs ∧ ofs < 4096)
  | .ldc i d pb _ ofs _ => i.wf && decide (d < 16) && decide (pb < 8) && decide (-4096 ≤ ofs ∧ ofs < 4096)
  | .stc i d pb _ ofs => i.wf && decide (d < 16) && decide (pb < 8) && decide (-4096 ≤ ofs ∧ ofs < 4096)
  | .ldg i d b ofs => i.wf && decide (d < 16) && decide (b < 16) && decide (-4096 ≤ ofs ∧ ofs < 4096)
  | .stg i d b ofs => i.wf && decide (d < 16) && decide (b < 16) && decide (-4096 ≤ ofs ∧ ofs < 4096)
  | .ldp i pd pb _ ofs _ => i.wf && decide (pd < 8) && decide (pb < 8) && decide (-4096 ≤ ofs ∧ ofs < 4096)
  | .stp i ps pb _ ofs => i.wf && decide (ps < 8) && decide (pb < 8) && decide (-4096 ≤ ofs ∧ ofs < 4096)
  | .br i ofs => i.wf && decide (-32768 ≤ ofs ∧ ofs < 32768)
  | .call i ofs => i.wf && decide (-32768 ≤ ofs ∧ ofs < 32768)
  | .loop i creg count len => i.wf && optBelow 16 creg && decide (count < 4096) && decide (1 ≤ len ∧ len < 512)
  | .jmp i a => i.wf && decide (a < 16)
  | .callr i a => i.wf && decide (a < 16)
  | .ret i => i.wf
  | .reti i => i.wf
  | .wait i => i.wf
  | .mvs i sd a => i.wf && decide (sd < 8) && decide (a < 16)
  | .msv i d sa => i.wf && decide (d < 16) && decide (sa < 8)
  | .mpuw i a b => i.wf && decide (a < 16) && decide (b < 14)
  | .smp i d other src => i.wf && decide (d < 16) && optBelow 16 other && decide (src < 8)
  | .out i a tgt => i.wf && decide (a < 16) && decide (tgt < 4)
  | .xchs i a w => i.wf && decide (a < 16) && decide (w < 8)
  | .xchr i d lane _ _ w => i.wf && decide (d < 16) && decide (lane < 128) && decide (w < 8)
  | .sco i d g => i.wf && decide (d < 16) && decide (g < 8)
  | .tbl i d x pb _ => i.wf && decide (d < 16) && decide (x < 16) && decide (pb < 8)
  | .envt i a field _ => i.wf && decide (a < 16) && decide (field < 7)
  | .lock i => i.wf
  | .unlock i => i.wf
  | .tickend i => i.wf
  | .slowAdcConversion n _ => decide (n < 8)
  | .stgPersWrite a p pers => a.wf && decide (p < 128) && decide (pers < 8)
  | .stgEnWrite a p _ => a.wf && decide (p < 128)
  | .pwmUpdatePoint p _ _ _ => decide (p < 128)
  | .ocComparatorFire p _ _ => decide (p < 128)
  | .rcComparatorFire p _ _ => decide (p < 128)
  | .driverFaultInput p _ => decide (p < 128)
  | .tachEdge p _ => decide (p < 128)
  | .fanStandstill p => decide (p < 128)
  | .fanStallCheck p _ => decide (p < 128)
  | .pwmSyncHoldover p _ => decide (p < 128)
  | .phsRailMaskWrite a r m => a.wf && decide (r < 16) && decide (m < 340282366920938463463374607431768211456)
  | .phsRailLeadWrite a r lead alt => a.wf && decide (r < 16) && decide (lead < 128) && decide (alt < 128)
  | .railStateWrite a r v => a.wf && decide (r < 16) && decide (v < 8)
  | .railDetectConversion r code _ _ => decide (r < 16) && decide (code < 65536)
  | .fuseGridPoint p _ _ => decide (p < 128)
  | .fuseInrushTimeout p _ => decide (p < 128)
  | .fuseRetryProgressCheck p _ => decide (p < 128)
  | .fuseOfftimeExpire p => decide (p < 128)
  | .fuseCleanExpire p => decide (p < 128)
  | .fuseClear a p => a.wf && decide (p < 128)
  | .oringGridPoint p _ _ => decide (p < 128)
  | .staggerExpire => true
  | .stringInsertion u _ => decide (u < 32)
  | .stringRemoval u _ => decide (u < 32)
  | .restCorrection u _ => decide (u < 32)
  | .endOfCharge u => decide (u < 32)
  | .endOfDischarge u _ => decide (u < 32)
  | .stringRecordWrite u => decide (u < 32)
  | .stringRecordWriteDone u _ _ => decide (u < 32)
  | .batCtlWrite a u _ => a.wf && decide (u < 32)
  | .batQnomWrite a u _ => a.wf && decide (u < 32)
  | .pfailAssert => true
  | .holdEntry => true
  | .holdExit => true
  | .envWrite a p k _ => a.wf && decide (p < 128) && decide (k < 8)
  | .envOtpProgram a _ => a.wf
  | .envSeal a => a.wf
  | .envSealComplete => true
  | .envLockFuse a _ => a.wf
  | .linkSlot l _ => decide (l < 6)
  | .alarmFoldBack _ => true
  | .idleCell l c _ => decide (l < 6) && c.wf
  | .markerCell l m _ _ _ => decide (l < 6) && m.wf
  | .echoCell l m _ _ => decide (l < 6) && m.wf
  | .alarmCell l c _ => decide (l < 6) && c.wf
  | .cmdRead l c _ => decide (l < 6) && c.wf
  | .cmdWrite l c _ => decide (l < 6) && c.wf
  | .resultCell l c _ => decide (l < 6) && c.wf
  | .queryCell l c _ => decide (l < 6) && c.wf
  | .answerCell l c _ => decide (l < 6) && c.wf
  | .surveyDiscover l c _ => decide (l < 6) && c.wf
  | .surveyFound l c _ => decide (l < 6) && c.wf
  | .surveyEnd l c _ _ => decide (l < 6) && c.wf
  | .surveyAssign l c _ => decide (l < 6) && c.wf
  | .surveyDone l c _ _ => decide (l < 6) && c.wf
  | .surveyAssignReq l c _ => decide (l < 6) && c.wf
  | .surveyAssignAck l c _ => decide (l < 6) && c.wf
  | .surveyStart _ => true
  | .trpResurvey a => a.wf
  | .trpCtlWrite a _ => a.wf
  | .surveyTimeout l _ _ => decide (l < 6)
  | .surveyGapProbe l _ => decide (l < 6)
  | .measureComplete _ => true
  | .countAdopt _ => true
  | .linkTrained l => decide (l < 6)
  | .linkDown l _ => decide (l < 6)
  | .ackIdleSend _ _ => true
  | .shedApply l c _ => decide (l < 6) && c.wf
  | .shedRelease l c _ => decide (l < 6) && c.wf
  | .shedSet l c _ => decide (l < 6) && c.wf
  | .waveApply _ => true
  | .shareCell l c _ => decide (l < 6) && c.wf
  | .tlmCell l c _ => decide (l < 6) && c.wf
  | .recCell l c _ => decide (l < 6) && c.wf
  | .bulkCell l c _ _ => decide (l < 6) && c.wf
  | .logCell l c _ => decide (l < 6) && c.wf
  | .capPinAssert _ => true
  | .capPinRelease => true
  | .capLocalWrite a _ => a.wf
  | .waveSend a _ _ _ => a.wf
  | .wavePeriodicSet => true
  | .dgramCmdRead f d _ => f.wf && d.wf
  | .dgramCmdWrite f d _ => f.wf && d.wf
  | .dgramResult f d _ => f.wf && d.wf
  | .dgramQuery f d _ => f.wf && d.wf
  | .dgramAnswer f d _ => f.wf && d.wf
  | .dgramShed f d _ => f.wf && d.wf
  | .dgramTlm f d _ => f.wf && d.wf
  | .dgramHealth f d _ => f.wf && d.wf
  | .dgramBulk f d _ _ => f.wf && d.wf
  | .dgramBulkAck f d _ => f.wf && d.wf
  | .dgramRec f d _ => f.wf && d.wf
  | .dgramRecAck f d _ => f.wf && d.wf
  | .probe f d _ => f.wf && d.wf
  | .probeEcho f d _ _ => f.wf && d.wf
  | .probeSend => true
  | .probeLost p _ _ => decide (p < 2)
  | .arpRequest f _ _ => f.wf
  | .neighbourSolicitation f _ _ => f.wf
  | .icmpEchoRequest f _ _ _ _ => f.wf
  | .prpSupervisionFrame f => f.wf
  | .prpSupervisionSend => true
  | .dupEntryExpire _ _ _ => true
  | .compareWindowEnd _ => true
  | .sgmiiLinkChange p _ _ _ _ => decide (p < 2)
  | .bothDownRepeat _ => true
  | .sessionSave _ => true
  | .healthSend => true
  | .tlmSend _ => true
  | .ptpSync p domain _ _ _ _ _ _ _ => decide (p < 2) && decide (domain < 256)
  | .ptpFollowUp p domain _ _ _ _ _ _ _ => decide (p < 2) && decide (domain < 256)
  | .ptpAnnounce p domain _ _ => decide (p < 2) && decide (domain < 256)
  | .ptpDelayResp p domain _ _ _ _ _ _ _ => decide (p < 2) && decide (domain < 256)
  | .ptpLost _ => true
  | .pageWrite t v => t.wf && decide (v < 256)
  | .pageRead t => t.wf
  | .operationWrite t v => t.wf && decide (v < 256)
  | .operationRead t => t.wf
  | .clearFaults t => t.wf
  | .capability t => t.wf
  | .voutMode t => t.wf
  | .statusByte t => t.wf
  | .statusWord t => t.wf
  | .statusVout t => t.wf
  | .statusIout t => t.wf
  | .statusInput t => t.wf
  | .statusCml t => t.wf
  | .statusMfrSpecific t => t.wf
  | .readVin t => t.wf
  | .readVout t => t.wf
  | .readIout t => t.wf
  | .readTemperature1 t => t.wf
  | .readFanSpeed1 t => t.wf
  | .readPout t => t.wf
  | .pmbusRevision t => t.wf
  | .mfrId t => t.wf
  | .mfrModel t => t.wf
  | .mfrGzPtr t count addr top dir n => t.wf && decide (count < 256) && decide (addr < 1048576) && decide (top < 8) && decide (dir < 2) && decide (n < 256)
  | .mfrGzDataRead t => t.wf
  | .mfrGzDataWrite t count _ => t.wf && decide (count < 256)
  | .gzPrefetchDone b _ => decide (b < 4)
  | .alertResponseRead b _ => decide (b < 4)
  | .twbWriteApply b _ => decide (b < 4)
  | .twbTimeout b _ => decide (b < 4)
  | .whistle b => decide (b < 4)
  | .whistleRelease b => decide (b < 4)
  | .whistleAbort b => decide (b < 4)
  | .whistleRepeat b => decide (b < 4)
  | .whistleSeen b => decide (b < 4)
  | .twbXferGo a b _ => a.wf && decide (b < 4)
  | .twbXferDone b _ _ _ _ _ _ => decide (b < 4)
  | .twbArbRetry b => decide (b < 4)
  | .twbCtlWrite a b _ => a.wf && decide (b < 4)
  | .rgtMapProgram a k _ => a.wf && decide (k < 21)
  | .rgtSeal a _ => a.wf
  | .rgtSealComplete => true
  | .rgtPortTighten a p _ => a.wf && decide (p < 21)
  | .fltClassWrite a x n _ w tier => a.wf && decide (x < 3584) && decide (n < 256) && decide (w < 16384) && decide (tier < 4)
  | .faultForce a x => a.wf && decide (x < 3584)
  | .aliveChangeInstant _ => true
  | .wdgKeyWrite a _ _ => a.wf
  | .wdgConfigWrite a k _ _ => a.wf && decide (k < 3)
  | .wdgExpiry _ _ => true
  | .wdoPulseEnd => true
  | .oscLost _ => true
  | .clkLost _ => true
  | .recorderFlush => true
  | .flushComplete _ _ _ => true
  | .flushPeriodic => true
  | .recFlushCmd a => a.wf
  | .tokenRefill => true
  | .recClear a => a.wf
  | .recFetch a _ => a.wf
  | .recFetchDone => true
  | .recHqWrite a q _ => a.wf && decide (q < 64)
  | .recStreamSend _ => true
  | .roMonitorReport n m0 m1 m2 m3 _ _ => decide (n < 8) && decide (m0 < 64) && decide (m1 < 64) && decide (m2 < 64) && decide (m3 < 64)
  | .avsStep _ => true
  | .capProbeBurstStart r => decide (r < 16)
  | .capProbeComplete r _ => decide (r < 16)
  | .atlasRevision _ => true
  | .ageBaselineReset a p _ => a.wf && decide (p < 128)
  | .dozeEntry n => decide (n < 8)
  | .dozeWakeEvent n _ => decide (n < 8)
  | .dozeExit n => decide (n < 8)
  | .lullEntry _ => true
  | .lullWakeEvent _ _ => true
  | .lullExit => true
  | .pwsWakeCmd a => a.wf
  | .keeperEntry _ => true
  | .keeperWake => true
  | .powerOnReset => true
  | .pinReset => true
  | .packageResetRequest a _ => a.wf
  | .packageReset => true
  | .boot _ => true
  | .bootTimeout => true
  | .updOpen a _ => a.wf
  | .updAbort a => a.wf
  | .updVerify a => a.wf
  | .updVerifyComplete _ => true
  | .updActivate a => a.wf
  | .activationChecksDone => true
  | .updReject a => a.wf
  | .updDlDataWrite a _ _ => a.wf
  | .updConfirm a _ => a.wf
  | .confirmWindowExpire _ => true
  | .fallback _ => true
  | .fallbackTimeout => true
  | .keyProgram a _ => a.wf
  | .keyRevoke a slot _ => a.wf && decide (slot < 16)
  | .prfTagCtlWrite a n _ => a.wf && decide (n < 8)
  | .tagPop a n => a.wf && decide (n < 8)
  | .censusDrainDone n => decide (n < 8)
  | .traceArm a n => a.wf && decide (n < 8)
  | .traceForce a n => a.wf && decide (n < 8)
  | .traceCrossTrigger n _ => decide (n < 8)
  | .tapReset => true
  | .extest _ => true
  | .samplePreload _ => true
  | .idcode => true
  | .bypass => true
  | .dbgaccRead addr _ _ => decide (addr < 1048576)
  | .dbgaccWrite addr _ _ => decide (addr < 1048576)
  | .dbgaccNop => true
  | .debugSessionWrite a _ => a.wf
  | .stewardHalt a n => a.wf && decide (n < 8)
  | .stewardBreakpoint n => decide (n < 8)
  | .stewardStep a n => a.wf && decide (n < 8)
  | .stewardResume a n => a.wf && decide (n < 8)
  | .stewardDebugReq a n => a.wf && decide (n < 8)
  | .stewardHardHalt a n => a.wf && decide (n < 8)
  | .laneHalt a l => a.wf && decide (l < 128)
  | .laneBreakpoint l => decide (l < 128)
  | .laneStep a l => a.wf && decide (l < 128)
  | .laneResume a l => a.wf && decide (l < 128)
  | .laneHardHalt a l => a.wf && decide (l < 128)
  | .debugMemAccess a _ _ => a.wf
  | .mailboxWrite a n i _ => a.wf && decide (n < 8) && decide (i < 8)
  | .stewardTimerExpiry n t => decide (n < 8) && decide (t < 2)
  | .pfailRelease => true
  | .driverFaultRelease p => decide (p < 128)
  | .atlasRevisionComplete _ _ => true
  | .updConfirmComplete => true

end Sys2Proof
end

