-- ==== Sys2Proof/Safety.lean ====
section
/-! DEFINITION. The terms that statements about the block use: when an instruction takes effect, what it leaves alone,
when an access from outside is admitted. -/

namespace Sys2Proof.Machine

open Sys2Proof

/-! ### Places of the map -/

/-- The places of R467 to R472: each block has its units, each unit its words. -/
def Loc.ok : Loc → Bool
  | .pkg o => decide (locate o = some (.pkg o))
  | .tile n o => decide (n < 8 ∧ (o < 0x1000 ∨ 0x2000 ≤ o ∧ o < 0x3000 ∨ 0x4000 ≤ o ∧ o < 0x5000 ∨ 0x5300 ≤ o ∧ o < 0x6000 ∨ 0x6480 ≤ o ∧ o < 0x8000))
  | .port p o => decide (p < 128 ∧ o < 0x100)
  | .lane l o => decide (l < 128 ∧ o < 0x100)
  | .rail r o => decide (r < 16 ∧ o < 0x40)
  | .string u o => decide (u < 32 ∧ o < 0x20)
  | .chem c o => decide (c < 4 ∧ o < 0x40)
  | .link l o => decide (l < 6 ∧ o < 8)
  | .entry e o => decide (e < 16 ∧ o < 0x20)
  | .path p o => decide (p < 2 ∧ o < 8)
  | .bus b o => decide (b < 4 ∧ o < 0x40)
  | .probe r o => decide (r < 16 ∧ o < 4)
  | .pprf b o => decide (b < 14 ∧ o < 0x20)
  | .tprf n b o => decide (n < 8 ∧ b < 36 ∧ o < 0x20)
  | .fcls x => decide (x < 3584)
  | .fsrc x => decide (x < 3584)
  | .cram n w => decide (n < 8 ∧ w < 0x8000)

/-! ### Instructions of a lane or a steward -/

/-- The registers that an instruction of a slot reads: those that the core held before its bundle (R92). -/
def Core.reads (c : Core) (slot1 : Bool) : CoreRegs := if slot1 then c.snap.getD c.r else c.r

/-- The instruction issues and its predicate holds: its core issues bundles, the predicate holds on c0 as it stood before the bundle
(R86, R92), and a steward may fetch the bundle (R69). -/
def State.fires (s : State) (i : Issue) : Bool :=
  let c := s.core i.core
  c.canIssue && predHolds (c.reads i.slot1).c0 i.pred && (!isSteward i.core || c.snap.isSome || c.mpuAllows 0 c.pc false true)

/-- The instruction breaks no rule of a LOCK sequence: a steward's open sequence is not full, and does not cross the end of a LOOP
body with this bundle (R124). -/
def State.lockFits (s : State) (i : Issue) : Bool :=
  let c := s.core i.core
  !isSteward i.core || c.lock.isNone || (!c.lockFull && !(i.slot1 && c.atLoopEnd))

/-- The instruction takes effect. -/
def State.issues (s : State) (i : Issue) : Bool := s.fires i && s.lockFits i

/-- The instruction is no reserved encoding and, in a steward, breaks no pairing rule of the bundle in progress (R85, R93). -/
def State.legal (s : State) (c : Instr) (i : Issue) : Bool := (s.core i.core).legal c i

/-- A register that the counting of events may change: a counter block, SEEN of a fault source, the count of lost tags (R450,
R452, R361), and the state of a lane's own port, which a halt that takes hold at the end of a bundle puts in SAFE (R462). -/
def Loc.counted (k : Nat) (l : Loc) : Bool :=
  match l with
  | .tprf _ _ _ => true
  | .pprf _ _ => true
  | .fsrc _ => true
  | .tile n o => Loc.tile n o == PRF_TAG_LOST n
  | .port p _ => p == k
  | _ => false

/-- A register of a counter block (R450). -/
def Loc.tally : Loc → Bool
  | .tprf _ _ _ => true
  | .pprf _ _ => true
  | _ => false

/-- From `s` to `t` only core `k` worked: every memory, every other core and every other unit stand as they were. What may differ
beside the core's own record is what accompanies every instruction: the counters, the tag buffers, and the core's port where a halt
takes hold. -/
structure Apart (k : Nat) (s t : State) : Prop where
  rest : t = { s with regs := t.regs, tiles := t.tiles, cores := t.cores, ports := t.ports, flt := t.flt }
  others : ∀ j, j ≠ k → t.core j = s.core j
  tiles : ∀ n, { t.tile n with tags := (s.tile n).tags } = s.tile n
  ports : ∀ p, p ≠ k → t.port p = s.port p
  regs : ∀ l : Loc, l.ok = true → l.counted k = false → t.rd l = s.rd l

/-- Beside that, of the core's own record only its registers and the bundle's bookkeeping may differ: its privileged registers, what
stops it and its held writes stand as they were. -/
structure Quiet (k : Nat) (s t : State) : Prop extends Apart k s t where
  priv : (t.core k).s = (s.core k).s ∧ (t.core k).mpu = (s.core k).mpu
  stops : (t.core k).running = (s.core k).running ∧ (t.core k).waiting = (s.core k).waiting ∧ (t.core k).dead = (s.core k).dead ∧
    (t.core k).access = (s.core k).access ∧ (t.core k).retired = (s.core k).retired
  held : (t.core k).heldWrites = (s.core k).heldWrites

/-- The command, where it may stand in its bundle, completes, its core's registers become `r`, and nothing else changes but what
accompanies every instruction. -/
def DoesRegs (c : Instr) (i : Issue) (s : State) (r : CoreRegs) : Prop :=
  s.legal c i = true → ∃ t, exec c s = .next t ∧ (t.core i.core).r = r ∧ Quiet i.core s t

/-- The same where the command also takes the state from `s` to `u` in the units that `Quiet` holds still. -/
def DoesMore (c : Instr) (i : Issue) (u : State) (s : State) (r : CoreRegs) : Prop :=
  s.legal c i = true → ∃ t, exec c s = .next t ∧ (t.core i.core).r = r ∧ Quiet i.core u t

/-- The instruction, where it may stand in its bundle, completes with a next state of which `P` holds. -/
def Runs (c : Instr) (i : Issue) (s : State) (P : State → Prop) : Prop := s.legal c i = true → ∃ t, exec c s = .next t ∧ P t

/-- The registers that an instruction reads, and those it writes on top of. -/
def State.srcOf (s : State) (i : Issue) : CoreRegs := (s.core i.core).reads i.slot1
def State.nowOf (s : State) (i : Issue) : CoreRegs := (s.core i.core).r

/-! ### Accesses from outside -/

/-- An access of words at arrival port `a.port`, as the rows of register accesses make it. -/
def Arr.access (a : Arr) (s : State) (write : Bool) (l : List (Nat × Word)) : Access :=
  { who := .plain, port := a.port, rights := s.portRights a.port, write := write, words := l }

/-- An access is admitted: the device is not in Keeper (R405), the port holds the rights that every word asks for (R339), no tile that
owns a word is in reset (R26) or dozes (R402), nothing holds the access at a fabric stop (R20, R63), no word is a hole (R469), and no
failure of a transfer is at hand where it must cross the fabric (R21). -/
def State.admits (s : State) (x : Access) : Bool :=
  s.serves x.port && (s.rightsRefusal x).isNone && !x.owners.any s.tileDown && (s.waitsAt x).isNone && (!x.words.any fun e => isHole e.1)
    && (x.far.isEmpty || s.mer.fab.isEmpty)

/-- A write of one register at an arrival port is admitted. -/
def State.admitsPut (s : State) (a : Arr) (l : Loc) (w : Word) : Bool := s.admits (a.access s true [(l.addr, w)])

/-- The same for a write that changes one field of the register and leaves the others. -/
def State.admitsField (s : State) (a : Arr) (l : Loc) (f : Fld) (v : Nat) : Bool := s.admitsPut a l (f.put (s.heldWord l) v)

/-- The command completes with a next state of which `P` holds. -/
def Completes (c : Instr) (s : State) (P : State → Prop) : Prop := ∃ t, exec c s = .next t ∧ P t

/-- An event of a source, with its argument, waits in the fault collectors and SEEN shows it. -/
def State.raised (t : State) (src arg : Nat) : Prop := (∃ e ∈ t.flt.queue, e.src = src ∧ e.arg = arg) ∧ t.flag (FLT_SRC src) FLT_SRC_SEEN = true

/-- From `s` to `t` the memories, the OTP, the boot flash and the queue stand as they were, and of the registers only those of `own`, the
counters and SEEN of the fault sources may differ. -/
structure Leaves (s t : State) (own : List Loc) : Prop where
  memories : t.dmem = s.dmem ∧ t.code = s.code ∧ t.cram = s.cram ∧ t.otp = s.otp ∧ t.flash = s.flash ∧ t.pending = s.pending
  regs : ∀ l : Loc, l.ok = true → l.counted 200 = false → l ∉ own → t.rd l = s.rd l

/-- A frame comes whole on an enabled path with a link: without a trailer, or as the first copy of its number, with room in the duplicate
table (R293, R294, R299). -/
def State.takes (s : State) (f : Frame) : Bool :=
  s.pathEn f.path && s.pathLink f.path && !f.bad && !f.frag && match f.rct with
    | none => true
    | some q => !(s.mgt.dup.any fun e => e.mac == f.mac && e.seq == q) && decide (s.mgt.dup.length < 1024)

/-- What the receiver notes of such a frame (R299, R300). -/
def State.noted (s : State) (f : Frame) (c : MFrame) : MgtSt :=
  match f.rct with
  | none => s.mgt
  | some q => { s.mgt with heard := if s.mgt.heard.contains (f.mac, f.path) then s.mgt.heard else (f.mac, f.path) :: s.mgt.heard,
                           dup := s.mgt.dup ++ [⟨f.mac, q, f.path, false, some c⟩] }

/-- The way of a frame that goes out on both paths: none stands for both, or it is the one whose port runs (R293, R298). -/
def State.goesBy (s : State) : Option Nat := if s.pathEn 0 && s.pathEn 1 then none else if s.pathEn 0 then some 0 else some 1

/-- A frame goes out on a way with the next trailer number (R298), or on one path, with one or without. -/
def MgtSt.sent (m : MgtSt) (by_ : Option Nat) (hop : Nat) (f : MFrame) : MgtSt :=
  { m with tx := m.tx ++ [⟨by_, some m.rct, hop, f.sealed⟩], rct := (m.rct + 1) % 65536 }
def MgtSt.sentTrailed (m : MgtSt) (p hop : Nat) (f : MFrame) : MgtSt := { m with tx := m.tx ++ [⟨some p, some m.rct, hop, f.sealed⟩], rct := (m.rct + 1) % 65536 }
def MgtSt.sentOn (m : MgtSt) (p hop : Nat) (f : MFrame) : MgtSt := { m with tx := m.tx ++ [⟨some p, none, hop, f.sealed⟩] }

/-- The next hop toward an address of either kind (R294). -/
def State.toward (s : State) (ip : Nat) : Nat := s.hop (isV6 ip) ip

/-- A datagram of the right version with a right CRC comes in such a frame (R295). -/
def State.takesDg (s : State) (f : Frame) (d : Dgram) : Bool := s.takes f && d.crcOk && d.ver == 1

/-- The clock listens to PTP messages of a path, a domain and an IP version (R306). -/
def State.listens (s : State) (p domain : Nat) (v6 : Bool) : Bool :=
  s.flag MGT_CTL MGT_CTL_PTP_EN && s.pathEn p && s.pathLink p && s.ptpPath == p && s.getF MGT_PTP MGT_PTP_DOMAIN == domain
    && s.flag MGT_PTP MGT_PTP_V6 == v6

/-- Register `l` counts one more, and saturates. -/
def State.counts1 (s t : State) (l : Loc) : Prop := (t.rd l).toNat = min 16777215 ((s.rd l).toNat + 1)

/-- A bus takes a transaction up to its command code: it answers, its queue has room, it knows the command, and its rights hold the class
that the command needs, where it needs one (R316 to R318). -/
def State.pmTakes (s : State) (t : Txn) (cls : Option Nat) : Bool :=
  s.busAnswers t.bus && !s.flag (TWB_STAT t.bus) TWB_STAT_QFULL && pmCodes.contains t.code && !(cls.any fun c => !holds (s.portRights t.bus) c)

/-- The transaction ends with its STOP and a right PEC, or none where none is asked for (R317, R325). -/
def State.pecPasses (s : State) (t : Txn) : Bool :=
  t.stop && match t.pec with | some b => b | none => !s.flag (TWB_CTL t.bus) TWB_CTL_PEC_REQ

/-- The bytes with the PEC byte where the host asks for one (R325). -/
def State.withPec (s : State) (t : Txn) (bytes : List Nat) : List Nat :=
  let a := 2 * s.getF (TWB_ADDR t.bus) TWB_ADDR_ADDR
  if t.pec.isSome then bytes ++ [crc8 ([a, t.code, a + 1] ++ bytes)] else bytes

/-- The registers that a record may change. -/
def recordLocs : List Loc := [REC_SUPP, REC_STAT, REC_STAT2]

/-- Cell `c` of this device, or with `fwd` a forwarded one, joins the control queue of link `m`. -/
def Queues (s t : State) (m : Nat) (c : Cell) (fwd : Bool) (cyc : Nat) : Prop := (t.link m).ctl = (s.link m).ctl ++ [⟨c, fwd, s.mer.count, cyc, false⟩]

/-- A cell comes on a link that carries traffic, with a right CRC and is meant for this device alone (R242, R247). -/
def State.delivers (s : State) (l : Nat) (c : Cell) : Bool :=
  s.carries l && c.crcOk && decide (c.ty < 0xE) && !c.bcast && s.addressed && c.dst == s.myAddr

/-- A register whose read has no side effect and returns the register itself: no RC field, no wide quantity, no unit behind it. -/
def Loc.readsPlain (l : Loc) : Bool :=
  (match l.desc with | some d => !(d.fields.any fun f => f.acc == .rc) | none => false) && (wideOf l).isNone && l.commandBits == 0 &&
    (match l with
      | .tile _ o => o != 0x41 && o != 0x6E05 && o != 0x6E11 && !(decide (0x7018 ≤ o) && decide (o ≤ 0x7020))
      | .lane _ o => o != 0x11
      | .port _ o => !(decide (0xB1 ≤ o) && decide (o ≤ 0xB6))
      | .pkg _ => false
      | .tprf _ _ _ => false
      | .pprf _ _ => false
      | .cram _ _ => false
      | .fsrc _ => false
      | _ => true)

/-- A register whose write has no effect beyond it: one write class, no wide quantity, no unit behind it. -/
def Loc.writesPlain (l : Loc) : Bool :=
  (match l.desc with | some d => d.writable && !d.manyClasses l | none => false) && (wideOf l).isNone &&
    (match l with
      | .tile _ o => !(decide (0x10 ≤ o) && decide (o < 0x18)) && o != 0x40 && o != 0x6E10 && o != 0x7000
      | .lane _ o => o != 0xA && o != 0x10
      | .port _ o => o != 0 && o != 0x51 && !(decide (0x80 ≤ o) && decide (o ≤ 0x87))
      | .rail _ o => o != 0 && o != 1
      | .string _ o => o != 0 && o != 3 && o != 4
      | .bus _ o => o != 0 && o != 8
      | .chem _ _ => true
      | .link _ _ => true
      | .path _ _ => true
      | .probe _ _ => true
      | _ => false)

/-- What a register's fields hold after a plain write (R6, R9). -/
def State.mergedWord (s : State) (l : Loc) (w : Word) : Word :=
  match l.desc with | some d => d.merge (s.rd l) (d.taken w) | none => s.rd l

/-- A write places no reserved encoding (R7). -/
def State.legalWord (s : State) (l : Loc) (w : Word) : Bool := match l.desc with | some d => !s.reserved l (d.taken w) | none => false

/-! ### The one-time-programmable memory -/

/-- Every bit of a table's words is still 1 where it was. -/
def keepsBits (old new : Tab Word) : Prop := ∀ k b, (Tab.get 0 old k).getLsbD b = true → (Tab.get 0 new k).getLsbD b = true

/-- The OTP grew from an older one: programmed bits stay 1, what is sealed, locked, complete or revoked stays so, and its words stand. -/
structure OtpSt.grownFrom (n o : OtpSt) : Prop where
  env : keepsBits o.env n.env
  sealedWords : ∀ k, k < o.sealed * 1026 → Tab.get 0 n.env k = Tab.get 0 o.env k
  generations : o.sealed ≤ n.sealed
  lock : o.lock = true → n.lock = true
  rights : keepsBits o.rights n.rights
  rightsWords : o.rightsSealed = true → n.rightsSealed = true ∧ ∀ k, Tab.get 0 n.rights k = Tab.get 0 o.rights k
  keys : keepsBits o.keys n.keys
  keyWords : ∀ k, o.prog.testBit (k / 16) = true → Tab.get 0 n.keys k = Tab.get 0 o.keys k
  slots : ∀ k, o.prog.testBit k = true → n.prog.testBit k = true
  revoked : ∀ k, o.revoked.testBit k = true → n.revoked.testBit k = true

end Sys2Proof.Machine
end

