-- ==== Sys2Proof/Certificates/Slice0/Obligations.lean ====
section
/-! DEFINITION. The statements about the block. -/

open Sys2Proof Sys2Proof.Machine

namespace Sys2Proof.Machine

/-! ### Rows of one shape -/

/-- The ALU instructions of two data registers, with the result of their operands (R95). -/
def aluTwoRows : List ((Issue → Nat → Nat → Nat → Instr) × (Word → Word → Res)) :=
  [(.add, aluAdd), (.adds, aluAdds), (.sub, aluSub), (.subs, aluSubs), (.addu, aluAddu), (.subu, aluSubu), (.min, aluMin),
   (.max, aluMax), (.clip, aluClip), (.and, aluAnd), (.or, aluOr), (.xor, aluXor)]

/-- The ALU instructions of one data register (R95). -/
def aluOneRows : List ((Issue → Nat → Nat → Instr) × (Word → Res)) :=
  [(.neg, aluNeg), (.negs, aluNegs), (.abs, aluAbs), (.abss, aluAbss), (.norm, aluNorm), (.not, aluNot)]

/-- The shifts by a register count (R95). -/
def aluShiftRows : List ((Issue → Nat → Nat → Nat → Instr) × (Word → Nat → Res)) :=
  [(.asr, aluAsr), (.lsr, aluLsr), (.lsl, aluLsl), (.lsls, aluLsls)]

/-- The immediate instructions with a result in a data register: signed immediates are extended by sign, logical ones with zeros (R97). -/
def immRows : List ((Issue → Nat → Nat → BitVec 12 → Instr) × (Word → BitVec 12 → Res)) :=
  [(.addi, fun x m => aluAdd x (m.signExtend 24)), (.addis, fun x m => aluAdds x (m.signExtend 24)),
   (.andi, fun x m => aluAnd x (m.zeroExtend 24)), (.ori, fun x m => aluOr x (m.zeroExtend 24)),
   (.xori, fun x m => aluXor x (m.zeroExtend 24))]

/-- The shifts by an immediate count (R97). -/
def immShiftRows : List ((Issue → Nat → Nat → Nat → Instr) × (Word → Nat → Res)) :=
  [(.asri, aluAsr), (.lsri, aluLsr), (.lsli, aluLsl), (.lslis, aluLsls)]

end Sys2Proof.Machine

/-- A step runs the command that has waited longest, on the state with the rest of the queue. The model's choice (log entry 1): with no
command waiting a step changes nothing, and no table word spells a command. -/
def Obligations.StepRunsFront : Prop :=
  (∀ (c : Instr) (q : List Instr) (s : State), step { s with pending := c :: q } = exec c { s with pending := q }) ∧
  (∀ s : State, s.pending = [] → step s = .next s) ∧
  ∀ (nbits w : Nat) (s : State), decodeTableWord nbits w = none ∧ s.withFetchWord nbits w = s

/-- R95: the ALU instructions, in either slot, in a LOCK sequence or outside one. -/
def Obligations.RegisterResults : Prop :=
  ∀ (i : Issue) (s : State) (d a b : Nat), i.wf = true → s.issues i = true →
    (∀ row ∈ aluTwoRows, DoesRegs (row.1 i d a b) i s
      ((s.nowOf i).result d (row.2 ((s.srcOf i).getD a) ((s.srcOf i).getD b)))) ∧
    (∀ row ∈ aluOneRows, DoesRegs (row.1 i d a) i s ((s.nowOf i).result d (row.2 ((s.srcOf i).getD a)))) ∧
    (∀ row ∈ aluShiftRows, DoesRegs (row.1 i d a b) i s
      ((s.nowOf i).result d (row.2 ((s.srcOf i).getD a) (((s.srcOf i).getD b).toNat % 32)))) ∧
    (∀ (p1 : Bool) (c : Cond), DoesRegs (.cmp i p1 a b c) i s
      { s.nowOf i with c0 := setPred (s.nowOf i).c0 p1 (c.holds ((s.srcOf i).getD a) ((s.srcOf i).getD b)) })

/-- R97: the immediate instructions. -/
def Obligations.ImmediateResults : Prop :=
  ∀ (i : Issue) (s : State) (d a : Nat) (imm : BitVec 12) (n : Nat), i.wf = true → s.issues i = true →
    (∀ row ∈ immRows, DoesRegs (row.1 i d a imm) i s ((s.nowOf i).result d (row.2 ((s.srcOf i).getD a) imm))) ∧
    (∀ row ∈ immShiftRows, DoesRegs (row.1 i d a n) i s ((s.nowOf i).result d (row.2 ((s.srcOf i).getD a) n))) ∧
    (∀ (p1 : Bool) (c : Cond), DoesRegs (.cmpi i p1 a c imm) i s
      { s.nowOf i with c0 := setPred (s.nowOf i).c0 p1 (c.holds ((s.srcOf i).getD a) (imm.signExtend 24)) }) ∧
    DoesRegs (.paddi i d a imm) i s ((s.nowOf i).setP d ((s.srcOf i).getP a + imm.signExtend 16))

/-- R98: results in accumulators. -/
def Obligations.AccumulatorResults : Prop :=
  ∀ (i : Issue) (s : State) (ad a b aa ab part : Nat) (m : PMode), i.wf = true → s.issues i = true →
    let src := s.srcOf i
    let now := s.nowOf i
    DoesRegs (.mpy i ad a b m) i s (now.resultA ad (.of ((src.getD a).toInt * (src.getD b).toInt * 2 ^ m.shift))) ∧
    DoesRegs (.mac i ad a b m) i s
      (now.resultA ad (.of ((src.getA ad).toInt + (src.getD a).toInt * (src.getD b).toInt * 2 ^ m.shift))) ∧
    DoesRegs (.msu i ad a b m) i s
      (now.resultA ad (.of ((src.getA ad).toInt - (src.getD a).toInt * (src.getD b).toInt * 2 ^ m.shift))) ∧
    DoesRegs (.aadd i ad aa ab) i s (now.resultA ad (.of ((src.getA aa).toInt + (src.getA ab).toInt))) ∧
    DoesRegs (.asub i ad aa ab) i s (now.resultA ad (.of ((src.getA aa).toInt - (src.getA ab).toInt))) ∧
    DoesRegs (.ash i ad aa b) i s (now.resultA ad (accShift (src.getA aa) (src.getD b))) ∧
    DoesRegs (.mvda i ad a m) i s (now.resultA ad (.of ((src.getD a).toInt * 2 ^ m.shiftIn))) ∧
    DoesRegs (.aclr i ad) i s (now.setA ad 0) ∧
    DoesRegs (.aput i ad a part) i s (now.setA ad (accPut (src.getA ad) part (src.getD a)))

/-- R98: results in data registers. -/
def Obligations.RoundedResults : Prop :=
  ∀ (i : Issue) (s : State) (d a b aa part : Nat) (m : PMode) (k : RMode), i.wf = true → s.issues i = true →
    let src := s.srcOf i
    let now := s.nowOf i
    DoesRegs (.mpyd i d a b m k) i s (now.result d (.signed (roundOff ((src.getD a).toInt * (src.getD b).toInt) m.drop k))) ∧
    DoesRegs (.macd i d a b m k) i s
      (now.result d (.signed ((src.getD d).toInt + roundOff ((src.getD a).toInt * (src.getD b).toInt) m.drop k))) ∧
    DoesRegs (.satw i d aa k) i s (now.result d (.signed (roundOff (src.getA aa).toInt 23 k))) ∧
    DoesRegs (.wrw i d aa k) i s (now.result d (accWrw (src.getA aa) k)) ∧
    DoesRegs (.satg i d aa k) i s (now.result d (.signed (roundOff (src.getA aa).toInt 30 k))) ∧
    DoesRegs (.satc i d aa) i s (now.result d (.count (src.getA aa).toInt)) ∧
    DoesRegs (.aget i d aa part) i s (now.setD d (accGet (src.getA aa) part))

/-- R99: the moves and immediate loads. -/
def Obligations.MoveResults : Prop :=
  ∀ (i : Issue) (s : State) (d a c : Nat) (imm : BitVec 16) (hi : BitVec 8), i.wf = true → s.issues i = true →
    let src := s.srcOf i
    let now := s.nowOf i
    DoesRegs (.mov i d a) i s (now.setD d (src.getD a)) ∧
    DoesRegs (.mvp i d a) i s (now.setP d ((src.getD a).setWidth 16)) ∧
    DoesRegs (.mpd i d a) i s (now.setD d ((src.getP a).setWidth 24)) ∧
    DoesRegs (.mvc i true a) i s { now with c7 := src.getD a } ∧
    DoesRegs (.mvc i false a) i s { now with c0 := src.getD a &&& c0MaskOf i.core } ∧
    DoesRegs (.mcd i d c) i s (now.setD d (s.creg i src c)) ∧
    DoesRegs (.movl i d imm) i s (now.setD d (imm.signExtend 24)) ∧
    DoesRegs (.movh i d hi) i s (now.setD d (hi ++ (src.getD d).setWidth 16)) ∧
    DoesRegs (.movp i d imm) i s (now.setP d imm)

/-- R86: predicated off. -/
def Obligations.PredicatedOff : Prop :=
  ∀ (i : Issue) (s : State) (d a b : Nat) (m : AMode) (ofs : Int) (p : PMode), i.wf = true → s.lockFits i = true →
    (s.core i.core).canIssue = true → (isSteward i.core = true → (s.core i.core).snap.isSome = true ∨ (s.core i.core).mpuAllows 0 (s.core i.core).pc false true = true) →
    predHolds (s.srcOf i).c0 i.pred = false →
    (∀ row ∈ aluTwoRows, DoesRegs (row.1 i d a b) i s (s.nowOf i)) ∧
    DoesRegs (.mac i d a b p) i s (s.nowOf i) ∧ DoesRegs (.mov i d a) i s (s.nowOf i) ∧
    DoesRegs (.ld i d b m ofs false) i s (s.nowOf i) ∧ DoesRegs (.st i d b m ofs) i s (s.nowOf i) ∧
    DoesRegs (.stc i d b m ofs) i s (s.nowOf i)

/-- R95, R90, R91 as integer arithmetic. -/
def Obligations.ArithmeticMeaning : Prop :=
  ∀ (a b : Word) (n : Nat), n < 32 →
    ((aluAdd a b).v.toNat = (a.toNat + b.toNat) % 2 ^ 24 ∧ ((aluAdd a b).c = true ↔ 2 ^ 24 ≤ a.toNat + b.toNat) ∧
      ((aluAdd a b).ov = true ↔ a.toInt + b.toInt < -2 ^ 23 ∨ 2 ^ 23 ≤ a.toInt + b.toInt)) ∧
    ((aluSub a b).v.toNat = (2 ^ 24 + a.toNat - b.toNat) % 2 ^ 24 ∧ ((aluSub a b).c = true ↔ a.toNat < b.toNat) ∧
      ((aluSub a b).ov = true ↔ a.toInt - b.toInt < -2 ^ 23 ∨ 2 ^ 23 ≤ a.toInt - b.toInt)) ∧
    ((aluAdds a b).v.toInt = max (-2 ^ 23) (min (2 ^ 23 - 1) (a.toInt + b.toInt)) ∧
      ((aluAdds a b).sat = true ↔ a.toInt + b.toInt < -2 ^ 23 ∨ 2 ^ 23 ≤ a.toInt + b.toInt)) ∧
    (aluSubs a b).v.toInt = max (-2 ^ 23) (min (2 ^ 23 - 1) (a.toInt - b.toInt)) ∧
    (aluAddu a b).v.toNat = min 16777215 (a.toNat + b.toNat) ∧
    (aluSubu a b).v.toNat = a.toNat - b.toNat ∧
    (aluNegs a).v.toInt = min (2 ^ 23 - 1) (-a.toInt) ∧
    (aluAbss a).v.toInt = min (2 ^ 23 - 1) a.toInt.natAbs ∧
    (aluAbs a).v.toNat = a.toInt.natAbs ∧
    (aluMin a b).v.toInt = min a.toInt b.toInt ∧ (aluMax a b).v.toInt = max a.toInt b.toInt ∧
    (aluClip a b).v.toInt = max (-(min (2 ^ 23 - 1) (b.toInt.natAbs : Int))) (min (min (2 ^ 23 - 1) (b.toInt.natAbs : Int)) a.toInt) ∧
    ((aluClip a b).ov = true ↔ min (2 ^ 23 - 1) (b.toInt.natAbs : Int) < a.toInt.natAbs) ∧
    (aluAsr a n).v.toInt = a.toInt / 2 ^ n ∧ (aluLsr a n).v.toNat = a.toNat / 2 ^ n ∧
    (aluLsl a n).v.toNat = a.toNat * 2 ^ n % 2 ^ 24 ∧
    (aluLsls a n).v.toInt = max (-2 ^ 23) (min (2 ^ 23 - 1) (a.toInt * 2 ^ n))

/-- R89, by what the results are rather than by its program. -/
def Obligations.RoundingRule : Prop :=
  rmodeOf 0 = some .trunc ∧ rmodeOf 1 = some .halfUp ∧ rmodeOf 2 = some .halfEven ∧ rmodeOf 3 = none ∧
  (∀ (a : Acc) (m : RMode), accSatw a m = .signed (roundOff a.toInt 23 m) ∧ accSatg a m = .signed (roundOff a.toInt 30 m)) ∧
  ∀ (x : Int) (k : Nat), (∀ m, roundOff x 0 m = x) ∧
    (0 < k → roundOff x k .trunc = x / 2 ^ k ∧ roundOff x k .halfUp = (x + 2 ^ (k - 1)) / 2 ^ k ∧
      2 * (roundOff x k .halfEven * 2 ^ k - x).natAbs ≤ 2 ^ k ∧
      (2 * (roundOff x k .halfEven * 2 ^ k - x).natAbs = 2 ^ k → roundOff x k .halfEven % 2 = 0))

/-- R88, R90, R91, R96: c0 and c7 after a result. -/
def Obligations.FlagRule : Prop :=
  (∀ (r : CoreRegs) (d : Nat) (x : Res),
    C0_Z.on (r.result d x).c0 = (x.v == 0) ∧ C0_N.on (r.result d x).c0 = x.v.msb ∧ C0_C.on (r.result d x).c0 = x.c ∧
    C0_V.on (r.result d x).c0 = x.ov ∧ C0_SS.on (r.result d x).c0 = (C0_SS.on r.c0 || x.sat) ∧
    C0_P0.on (r.result d x).c0 = C0_P0.on r.c0 ∧ C0_P1.on (r.result d x).c0 = C0_P1.on r.c0 ∧
    C0_GERR.on (r.result d x).c0 = C0_GERR.on r.c0 ∧
    (r.result d x).c7.toNat = (if x.sat then min 16777215 (r.c7.toNat + 1) else r.c7.toNat) ∧
    (r.result d x).getD d = x.v ∧ (∀ e, e ≠ d → (r.result d x).getD e = r.getD e) ∧
    (r.result d x).a = r.a ∧ (r.result d x).p = r.p) ∧
  (∀ (r : CoreRegs) (a : Nat) (x : AccRes),
    C0_Z.on (r.resultA a x).c0 = (x.v == 0) ∧ C0_N.on (r.resultA a x).c0 = x.v.msb ∧ C0_V.on (r.resultA a x).c0 = x.ov ∧
    C0_C.on (r.resultA a x).c0 = C0_C.on r.c0 ∧ C0_SS.on (r.resultA a x).c0 = C0_SS.on r.c0 ∧
    (r.resultA a x).c7 = r.c7 ∧ (r.resultA a x).d = r.d ∧ (r.resultA a x).getA a = x.v) ∧
  (∀ (c0 : Word) (p1 b : Bool), (if p1 then C0_P1 else C0_P0).on (setPred c0 p1 b) = b ∧
    ∀ k, k ≠ (if p1 then 6 else 5) → (setPred c0 p1 b).getLsbD k = c0.getLsbD k)

/-- R100: the loads from own data memory and from the coefficient and table RAM. -/
def Obligations.LoadResults : Prop :=
  ∀ (i : Issue) (s : State) (d pb : Nat) (m : AMode) (ofs : Int) (ce : Bool), i.wf = true → s.issues i = true →
    let x := m.addr ((s.srcOf i).getP pb) ofs
    let moved := fun r : CoreRegs => if m = .offset then r else r.setP pb x.2
    (s.mayAccess i.core 1 (x.1.toNat % dmemSize i.core) false = true →
      DoesRegs (.ld i d pb m ofs ce) i s (moved ((s.nowOf i).setD d (s.loadMem i.core x.1.toNat))) ∧
      DoesRegs (.ldp i d pb m ofs ce) i s (moved ((s.nowOf i).setP d ((s.loadMem i.core x.1.toNat).setWidth 16)))) ∧
    (s.mayAccess i.core 2 x.1.toNat false = true →
      DoesRegs (.ldc i d pb m ofs ce) i s (moved ((s.nowOf i).setD d (s.cramWord (coreTile i.core) x.1.toNat))))

/-- R100: the stores, with the frame of the memory. -/
def Obligations.StoreResults : Prop :=
  ∀ (i : Issue) (s : State) (d pb : Nat) (m : AMode) (ofs : Int), i.wf = true → s.issues i = true → (s.core i.core).lock = none →
    let x := m.addr ((s.srcOf i).getP pb) ofs
    let at_ := dmemIdx i.core x.1.toNat
    let moved := fun r : CoreRegs => if m = .offset then r else r.setP pb x.2
    s.mayAccess i.core 1 (x.1.toNat % dmemSize i.core) true = true →
      (DoesMore (.st i d pb m ofs) i { s with dmem := Tab.set 0 s.dmem at_ ((s.srcOf i).getD d) } s (moved (s.nowOf i)) ∧
       DoesMore (.stp i d pb m ofs) i { s with dmem := Tab.set 0 s.dmem at_ (((s.srcOf i).getP d).setWidth 24) } s (moved (s.nowOf i))) ∧
      ∀ t, s.legal (.st i d pb m ofs) i = true → s.legal (.stp i d pb m ofs) i = true →
        (exec (.st i d pb m ofs) s = .next t ∨ exec (.stp i d pb m ofs) s = .next t) →
        (∀ y, y ≠ at_ → Tab.get 0 t.dmem y = Tab.get 0 s.dmem y) ∧
        (∀ j, j ≠ i.core → ∀ y, Tab.get 0 t.dmem (dmemIdx j y) = Tab.get 0 s.dmem (dmemIdx j y))

/-- R125: writes inside an open sequence. -/
def Obligations.HeldStores : Prop :=
  ∀ (i : Issue) (s : State) (d pb w : Nat) (m : AMode) (ofs : Int), i.wf = true → s.issues i = true → (s.core i.core).lock.isSome = true →
    let x := m.addr ((s.srcOf i).getP pb) ofs
    (s.mayAccess i.core 1 (x.1.toNat % dmemSize i.core) true = true →
      (Runs (.st i d pb m ofs) i s fun t => Apart i.core s t ∧
        (t.core i.core).heldWrites = (s.core i.core).heldWrites ++ [.mem (dmemIdx i.core x.1.toNat) ((s.srcOf i).getD d)] ∧
        t.loadMem i.core x.1.toNat = (s.srcOf i).getD d) ∧
      (Runs (.stp i d pb m ofs) i s fun t => Apart i.core s t ∧
        (t.core i.core).heldWrites = (s.core i.core).heldWrites ++ [.mem (dmemIdx i.core x.1.toNat) (((s.srcOf i).getP d).setWidth 24)])) ∧
    (isSteward i.core = false → Runs (.xchs i d w) i s fun t => Apart i.core s t ∧
      (t.core i.core).heldWrites = (s.core i.core).heldWrites ++ [.xchs (w % 8) ((s.srcOf i).getD d)])

/-- R63, R100, R101: STC, LDG and STG outside a LOCK sequence. -/
def Obligations.CramAndGazetteerStarts : Prop :=
  ∀ (i : Issue) (s : State) (d pb : Nat) (m : AMode) (ofs : Int), i.wf = true → s.issues i = true → isSteward i.core = true →
    (s.core i.core).lock = none →
    let x := m.addr ((s.srcOf i).getP pb) ofs
    let n := coreTile i.core
    let a := gzAddr ((s.srcOf i).getD pb) ofs
    (s.mayAccess i.core 2 x.1.toNat true = true →
      (s.getF (RGT_PORT (13 + n)) RGT_PORT_RIGHTS / 4 % 2 = 1 → s.cramFull n 1 = false → Runs (.stc i d pb m ofs) i s fun t =>
        (t.tile n).cramBuf = (s.tile n).cramBuf ++ [(x.1.toNat % 65536, (s.srcOf i).getD d)] ∧ t.cram = s.cram ∧ t.dmem = s.dmem ∧
        (t.core i.core).r = (if m = .offset then s.nowOf i else (s.nowOf i).setP pb x.2)) ∧
      (s.getF (RGT_PORT (13 + n)) RGT_PORT_RIGHTS / 4 % 2 = 1 → s.cramFull n 1 = true → Runs (.stc i d pb m ofs) i s fun t =>
        (t.core i.core).access = some (.stc x.1.toNat ((s.srcOf i).getD d)) ∧ Apart i.core s t ∧
        (t.core i.core).r = (if m = .offset then s.nowOf i else (s.nowOf i).setP pb x.2)) ∧
      (s.getF (RGT_PORT (13 + n)) RGT_PORT_RIGHTS / 4 % 2 = 0 → Runs (.stc i d pb m ofs) i s fun t =>
        (t.tile n).cramBuf = (s.tile n).cramBuf ∧ t.cram = s.cram ∧ C0_GERR.on (t.core i.core).r.c0 = true)) ∧
    ((s.core i.core).mpuAllows 3 a false false = true → Runs (.ldg i d pb ofs) i s fun t =>
      (t.core i.core).access = some (.ldg d a) ∧ (t.core i.core).r = s.nowOf i ∧ Apart i.core s t) ∧
    ((s.core i.core).mpuAllows 3 a true false = true → Runs (.stg i d pb ofs) i s fun t =>
      (t.core i.core).access = some (.stg a ((s.srcOf i).getD d)) ∧ (t.core i.core).r = s.nowOf i ∧ Apart i.core s t)

/-- R102, R104: the control transfers outside a LOCK sequence. -/
def Obligations.TransferTargets : Prop :=
  ∀ (i : Issue) (s : State) (a : Nat) (ofs : Int), i.wf = true → s.issues i = true → (s.core i.core).lock = none →
    let k := i.core
    let goes := fun (c : Instr) (r : CoreRegs) (target : Nat) => Runs c i s fun t => (t.core k).r = r ∧ Quiet k s t ∧
      if i.slot1 then (t.core k).pc = target % bankSize k else (t.core k).jump = some target ∧ (t.core k).pc = (s.core k).pc
    let pc := (s.core k).pc
    goes (.br i ofs) (s.nowOf i) (((pc : Int) + ofs) % (bankSize k : Nat)).toNat ∧
    goes (.call i ofs) ((s.nowOf i).setP 7 (BitVec.ofNat 16 ((pc + 1) % bankSize k))) (((pc : Int) + ofs) % (bankSize k : Nat)).toNat ∧
    goes (.jmp i a) (s.nowOf i) (((s.srcOf i).getD a).toNat % 32768) ∧
    goes (.callr i a) ((s.nowOf i).setP 7 (BitVec.ofNat 16 ((pc + 1) % 32768))) (((s.srcOf i).getD a).toNat % 32768) ∧
    goes (.ret i) (s.nowOf i) (((s.srcOf i).getP 7).toNat % 32768)

/-- R103: LOOP, and where a bundle's end goes on; R92, R103, R126: the end of a bundle, shown on NOP. -/
def Obligations.LoopsAndBundleEnd : Prop :=
  (∀ (i : Issue) (s : State) (creg : Option Nat) (count len : Nat), (Instr.loop i creg count len).wf = true → s.issues i = true →
    (s.core i.core).lock = none → ((s.core i.core).snap = none ∨ (s.core i.core).jump = none) →
    let n := match creg with | none => count | some r => min ((s.srcOf i).getD r).toNat count
    let c := s.core i.core
    Runs (.loop i creg count len) i s fun t => Quiet i.core s t ∧ (t.core i.core).r = s.nowOf i ∧
      (0 < n → (t.core i.core).loops = ⟨c.pc + 1, c.pc + len, 0, n⟩ :: c.loops ∧
        (i.slot1 = true → (t.core i.core).pc = (c.pc + 1) % bankSize i.core)) ∧
      (n = 0 → c.loops = [] → (t.core i.core).loops = [] ∧
        (i.slot1 = true → (t.core i.core).pc = (c.pc + len + 1) % bankSize i.core))) ∧
  (∀ (b : Nat) (l : LoopLevel) (ls : List LoopLevel), loopAfter b [] = ([], b + 1) ∧
    (l.last ≠ b → loopAfter b (l :: ls) = (l :: ls, b + 1)) ∧
    (l.last = b → l.i + 1 < l.n → loopAfter b (l :: ls) = ({ l with i := l.i + 1 } :: ls, l.first)) ∧
    (l.last = b → l.n ≤ l.i + 1 → loopAfter b (l :: ls) = loopAfter b ls)) ∧
  ∀ (i : Issue) (s : State), i.wf = true → s.issues i = true → ((s.core i.core).snap = none ∨ (s.core i.core).jump = none) →
    let c := s.core i.core
    Runs (.nop i) i s fun t => (t.core i.core).r = s.nowOf i ∧ Quiet i.core s t ∧
      (i.slot1 = true → (t.core i.core).pc = (loopAfter c.pc c.loops).2 % bankSize i.core ∧
        (t.core i.core).loops = (loopAfter c.pc c.loops).1 ∧ (t.core i.core).snap = none ∧
        (t.core i.core).halted = (c.halted || (c.haltPend && c.lock.isNone))) ∧
      (i.slot1 = false → (t.core i.core).pc = c.pc ∧ (t.core i.core).loops = c.loops ∧ (t.core i.core).snap = some c.r)

/-- R104, R105: MVS, MSV, MPUW, WAIT, RETI and TRAP of a steward. -/
def Obligations.PrivilegedResults : Prop :=
  ∀ (i : Issue) (s : State) (d a b : Nat) (imm : BitVec 12), i.wf = true → s.issues i = true → isSteward i.core = true →
    let k := i.core
    let c := s.core k
    (c.privileged = true → d < 8 →
      (Runs (.mvs i d a) i s fun t => Apart k s t ∧ (t.core k).r = s.nowOf i ∧
        (t.core k).sreg d = sWrite d (c.sreg d) ((s.srcOf i).getD a) ∧ ∀ j, j ≠ d → (t.core k).sreg j = c.sreg j) ∧
      DoesRegs (.msv i a d) i s ((s.nowOf i).setD a (c.sreg d)) ∧
      ((⟨23, 20⟩ : Fld).get ((s.srcOf i).getD b) ≤ 3 → Runs (.mpuw i a b) i s fun t =>
        Apart k s t ∧ (t.core k).r = s.nowOf i ∧ (t.core k).s = c.s ∧
        let g := ((s.srcOf i).getD a).toNat % 16
        Tab.get 0 (t.core k).mpu (4 * g) = (s.srcOf i).getD b ∧
        Tab.get 0 (t.core k).mpu (4 * g + 1) = (s.srcOf i).getD (b + 1) &&& 0xFFFFF ∧
        Tab.get 0 (t.core k).mpu (4 * g + 2) = (s.srcOf i).getD (b + 2) &&& 0x3E ∧
        ∀ j, j / 4 ≠ g → Tab.get 0 (t.core k).mpu j = Tab.get 0 c.mpu j) ∧
      (3 < (⟨23, 20⟩ : Fld).get ((s.srcOf i).getD b) → Runs (.mpuw i a b) i s fun t =>
        (t.core k).r = s.nowOf i ∧ (t.core k).s = c.s ∧ (t.core k).mpu = c.mpu ∧ ∃ e ∈ t.flt.queue, e.src = PKG_RSVD_WRITE ∧ e.arg = 0xFF) ∧
      (Runs (.wait i) i s fun t => Apart k s t ∧ (t.core k).r = s.nowOf i ∧
        ((t.core k).waiting = false ↔ ∃ j, 1 ≤ j ∧ j ≤ 15 ∧ (c.sreg 2).getLsbD j = true ∧ (c.sreg 3).getLsbD j = true)) ∧
      (c.lock = none → Runs (.reti i) i s fun t => Apart k s t ∧ (t.core k).r = { s.nowOf i with c0 := c.sreg 5 &&& c0Mask } ∧
        (t.core k).sreg 0 = (if (c.sreg 0).getLsbD 1 then 7 else 4) ∧
        (if i.slot1 then (t.core k).pc = (c.sreg 4).toNat % 32768 else (t.core k).jump = some ((c.sreg 4).toNat % 32768)))) ∧
    (Runs (.trap i imm) i s fun t => Apart k s t ∧ (t.core k).r = s.nowOf i ∧
      (t.core k).sreg 1 = (⟨23, 12⟩ : Fld).put (c.sreg 1) imm.toNat ∧ (t.core k).sreg 3 = c.sreg 3 ||| 0x4000)

/-- R104, R106: the exception that guards privileged instructions. -/
def Obligations.UserModeTraps : Prop :=
  ∀ (i : Issue) (s : State) (x : Instr) (d a b : Nat), i.wf = true → s.issues i = true → isSteward i.core = true →
    (s.core i.core).privileged = false → (s.core i.core).lock = none → ((s.core i.core).sreg 0).getLsbD 2 = true →
    x ∈ [Instr.mvs i d a, .msv i d a, .mpuw i a b, .wait i, .reti i] →
    let c := s.core i.core
    Runs x i s fun t => (t.core i.core).r = s.srcOf i ∧ (t.core i.core).pc = (c.sreg 6).toNat % 32768 ∧
      (t.core i.core).sreg 4 = BitVec.ofNat 24 (c.pc % 32768) ∧ (t.core i.core).sreg 5 = (s.srcOf i).c0 ∧
      (t.core i.core).sreg 1 = (⟨3, 0⟩ : Fld).put (c.sreg 1) 3 ∧ (t.core i.core).sreg 0 = 1 ∧ (t.core i.core).sreg 3 = c.sreg 3 &&& ~~~1 ∧
      (t.core i.core).mpu = c.mpu ∧ (t.core i.core).waiting = false ∧ (t.core i.core).loops = []

/-- R106: PRECISE_EXCEPTION between the slots of bundles. -/
def Obligations.ExceptionEntry : Prop :=
  ∀ (n cause a cyc : Nat) (s : State), (Instr.preciseException n cause a cyc).wf = true → 1 ≤ cause →
    let k := 128 + n
    let c := s.core k
    c.running = true → c.dead = false → c.snap = none →
    let r := match c.lock with | some l => l.saved | none => c.r
    let epc := match c.lock with | some l => l.at_ | none => c.pc
    ∃ t, exec (.preciseException n cause a cyc) s = .next t ∧ (t.core k).r = r ∧ (t.core k).lock = none ∧ (t.core k).loops = [] ∧
      (t.core k).sreg 1 = (⟨3, 0⟩ : Fld).put (c.sreg 1) cause ∧
      (cause = 1 → (t.core k).sreg 7 = BitVec.ofNat 24 a ∧ ∃ e ∈ t.flt.queue, e.src = tileSrc n LAN_STW_MPU ∧ e.arg = n) ∧
      (cause = 2 → ∃ e ∈ t.flt.queue, e.src = tileSrc n LAN_MEM_DED_STW ∧ e.arg = n) ∧
      ((c.sreg 0).getLsbD 2 = true → (t.core k).dead = false ∧ (t.core k).pc = (c.sreg 6).toNat % 32768 ∧
        (t.core k).sreg 4 = BitVec.ofNat 24 (epc % 32768) ∧ (t.core k).sreg 5 = r.c0 ∧
        (t.core k).sreg 0 = (if c.privileged then 3 else 1)) ∧
      ((c.sreg 0).getLsbD 2 = false → (t.core k).dead = true ∧ ∃ e ∈ t.flt.queue, e.src = tileSrc n LAN_STW_DOUBLE ∧ e.arg = n)

/-- R106, R68: INTERRUPT_ENTRY and STEWARD_TIMER_EXPIRY. -/
def Obligations.InterruptEntryRule : Prop :=
  (∀ (n k : Nat) (s : State), n < 8 → 1 ≤ k → k ≤ 15 →
    let c := s.core (128 + n)
    c.running = true → c.dead = false → c.halted = false → c.access = none → c.snap = none → c.loops = [] → c.lock = none →
    (c.sreg 0).getLsbD 2 = true → (c.sreg 2).getLsbD k = true → (c.sreg 3).getLsbD k = true →
    (∀ j, 1 ≤ j → j < k → ((c.sreg 2).getLsbD j && (c.sreg 3).getLsbD j) = false) →
    ∃ t, exec (.interruptEntry n) s = .next t ∧ Apart (128 + n) s t ∧ (t.core (128 + n)).r = c.r ∧
      (t.core (128 + n)).pc = ((c.sreg 6).toNat + 8 * k) % 32768 ∧ (t.core (128 + n)).sreg 4 = BitVec.ofNat 24 (c.pc % 32768) ∧
      (t.core (128 + n)).sreg 5 = c.r.c0 ∧ (t.core (128 + n)).sreg 0 = (if c.privileged then 3 else 1) ∧
      (t.core (128 + n)).sreg 3 = c.sreg 3 &&& ~~~ BitVec.ofNat 24 (2 ^ k) ∧ (t.core (128 + n)).waiting = false) ∧
  (∀ (n x : Nat) (s : State), n < 8 → x < 2 →
    ∃ t, exec (.stewardTimerExpiry n x) s = .next t ∧ Apart (128 + n) s t ∧
      (t.core (128 + n)).sreg 3 = (s.core (128 + n)).sreg 3 ||| BitVec.ofNat 24 (2 ^ (8 + x)) ∧
      (((s.core (128 + n)).sreg 2).getLsbD (8 + x) = true → (t.core (128 + n)).waiting = false))

/-- R112, R119, R120, R121. -/
def Obligations.PortReads : Prop :=
  ∀ (i : Issue) (s : State) (d lane w g x pb src : Nat) (other : Option Nat) (idx p1 signed : Bool), i.wf = true → s.issues i = true →
    (isSteward i.core = false →
      DoesRegs (.smp i d other src) i s ((s.nowOf i).setD d
        (s.sample (match other with | none => i.core | some q => 16 * coreTile i.core + q % 16) src))) ∧
    (let l := (lane + if idx then (s.core i.core).innerCount else 0) % 128
     DoesRegs (.xchr i d lane idx p1 w) i s { (s.nowOf i).setD d (s.recvWord (coreTile i.core) l (w % 8)) with
       c0 := setPred (s.nowOf i).c0 p1 (Tab.get false s.present (coreTile i.core * 128 + l)) }) ∧
    (isSteward i.core = false → DoesRegs (.sco i d g) i s ((s.nowOf i).setD d (Tab.get 0 s.gains (i.core * 8 + g % 8)))) ∧
    (isSteward i.core = false → DoesRegs (.tbl i d x pb signed) i s ((s.nowOf i).setD d
      (tbl (s.cramWord (coreTile i.core)) ((s.srcOf i).getD x) ((s.srcOf i).getP pb).toNat signed)))

/-- R121: the interpolation of TBL. -/
def Obligations.TableInterpolation : Prop :=
  ∀ (cram : Nat → Word) (base j f : Nat), j < 32 → f < 2 ^ 18 →
    let y0 := (cram ((base + j) % 65536)).toInt
    let y1 := (cram ((base + j + 1) % 65536)).toInt
    (tbl cram (BitVec.ofNat 24 (j * 2 ^ 18)) base false).toInt = y0 ∧
    (min y0 y1 ≤ (tbl cram (BitVec.ofNat 24 (j * 2 ^ 18 + f)) base false).toInt ∧
      (tbl cram (BitVec.ofNat 24 (j * 2 ^ 18 + f)) base false).toInt ≤ max y0 y1) ∧
    (tbl cram (BitVec.ofInt 24 ((j * 2 ^ 19 : Nat) - 8388608)) base true).toInt = y0

/-- R113 to R116, R118, R131: XCHS and OUT; the waiting tightenings whose time has come are judged first (R122). -/
def Obligations.SendCellAndOut : Prop :=
  ∀ (i : Issue) (s : State) (a w tgt : Nat), i.wf = true → s.issues i = true → isSteward i.core = false → (s.core i.core).lock = none → tgt < 4 →
    let p := i.core
    let x := (s.srcOf i).getD a
    let u := s.envSettle p i.cyc
    let v := u.limitOut p tgt (s.outRef p tgt) x
    let vbit := fun (t : State) => C0_V.on (t.core p).r.c0
    DoesMore (.xchs i a w) i { s with send := Tab.set 0 s.send (p * 8 + w % 8) x } s (s.nowOf i) ∧
    (∃ t, exec (.out i a tgt) s = .next t ∧ (∀ j, j ≠ p → t.core j = s.core j) ∧ (∀ q, q ≠ p → t.port q = s.port q) ∧
      t.dmem = s.dmem ∧
      (usesTarget (s.pers p) tgt = true → s.pstate p = 1 →
        (t.port p).pend = (u.port p).pend ++ [(tgt, { w := v, due := i.cyc + 8, ref := s.outRef p tgt })] ∧
        vbit t = (limited tgt v x || s.rcHolds p)) ∧
      (usesTarget (s.pers p) tgt = true → s.pstate p = 0 → Tab.get none (t.port p).stored tgt = some v ∧ vbit t = true) ∧
      (usesTarget (s.pers p) tgt = true → s.pstate p = 2 → (t.port p).pend = (s.port p).pend ∧ (t.port p).stored = (s.port p).stored ∧ vbit t = true) ∧
      (usesTarget (s.pers p) tgt = false → (t.port p).pend = (s.port p).pend ∧ (t.port p).stored = (s.port p).stored ∧ vbit t = true ∧
        ∃ e ∈ t.flt.queue, e.src = tileSrc (p / 16) LAN_OUT_PERS ∧ e.arg = p))

/-- R115, R222: what limitOut gives. -/
def Obligations.EnvelopeLimits : Prop :=
  ∀ (s : State) (p : Nat) (ref w : Word), (s.rd (ENV_SLEW p)).toNat < 2 ^ 23 → (s.rd (ENV_DUTY p)).toNat < 2 ^ 23 →
    let slew : Int := (s.rd (ENV_SLEW p)).toNat
    let duty : Int := (s.rd (ENV_DUTY p)).toNat
    (0 ≤ (s.limitOut p 0 ref w).toInt ∧ (s.limitOut p 0 ref w).toInt ≤ duty) ∧
    rawOn (s.limitOut p 0 ref w).toInt (s.dutyPer p) ≤ s.onTop p (s.dutyPer p) ∧
    ((s.limitOut p 0 ref w).toInt - s.dutyCap p ref.toInt).natAbs ≤ slew ∧
    (0 ≤ ref.toInt → ref.toInt ≤ duty → rawOn ref.toInt (s.dutyPer p) ≤ s.onTop p (s.dutyPer p) → s.dutyCap p ref.toInt = ref.toInt) ∧
    ((s.limitOut p 2 ref w).toInt - ref.toInt).natAbs ≤ slew ∧
    (s.limitOut p 1 ref w).toNat = w.toNat % 2 ^ 23 ∧ s.limitOut p 3 ref w = w

/-- R221, R122. -/
def Obligations.EnvtAndTighten : Prop :=
  (∀ (off : Nat) (old w : Word), off ∈ [0x80, 0x82, 0x83, 0x86] →
    (tighten off old w).1.toNat ≤ old.toNat ∧ ((tighten off old w).2 = true ↔ w.toNat ≤ old.toNat) ∧
    ((tighten off old w).2 = true → (tighten off old w).1 = w) ∧ ((tighten off old w).2 = false → (tighten off old w).1 = old)) ∧
  (∀ (old w : Word), (tighten 0x84 old w).1.toInt ≤ old.toInt ∧ old.toInt ≤ (tighten 0x85 old w).1.toInt ∧
    ENV_OFFT_MINOFF.get (tighten 0x81 old w).1 = max (ENV_OFFT_MINOFF.get old) (ENV_OFFT_MINOFF.get w) ∧
    (∀ k, (ENV_PERS_ALLOW.get (tighten 0x87 old w).1).testBit k = ((ENV_PERS_ALLOW.get old).testBit k && (ENV_PERS_ALLOW.get w).testBit k)) ∧
    (ENV_PERS_FUSE_OPEN.on old = true → ENV_PERS_FUSE_OPEN.on (tighten 0x87 old w).1 = true)) ∧
  (∀ (i : Issue) (s : State) (a f : Nat) (p1 : Bool), i.wf = true → s.issues i = true → isSteward i.core = false →
    (s.core i.core).lock = none → f < 7 →
    let p := i.core
    let x := (s.srcOf i).getD a
    let u := s.envSettle p i.cyc
    ∃ t, exec (.envt i a f p1) s = .next t ∧ (∀ j, j ≠ p → t.core j = s.core j) ∧ (∀ q, q ≠ p → t.port q = s.port q) ∧
      (t.core p).r = { s.nowOf i with c0 := setPred (s.nowOf i).c0 p1 (u.envtOk p f x) } ∧
      (u.envtOk p f x = true → (t.port p).envPend = (u.port p).envPend ++ [(envtOff f, x, i.cyc + 8)]) ∧
      (u.envtOk p f x = false → (t.port p).envPend = (u.port p).envPend ∧
        ∃ e ∈ t.flt.queue, e.src = tileSrc (p / 16) LAN_ENVT_REFUSED ∧ e.arg = p))

/-- R124, R125: LOCK, UNLOCK and the discard. -/
def Obligations.LockAtomicity : Prop :=
  (∀ (i : Issue) (s : State), i.wf = true → s.issues i = true → (s.core i.core).lock = none →
    (isSteward i.core && i.slot1 && (s.core i.core).atLoopEnd) = false →
    Runs (.lock i) i s fun t => Apart i.core s t ∧ (t.core i.core).r = s.nowOf i ∧
      (t.core i.core).lock = some ⟨s.srcOf i, (s.core i.core).pc, 0, []⟩) ∧
  (∀ (i : Issue) (s : State) (q : LockSeq), i.wf = true → s.fires i = true → (s.core i.core).lock = some q →
    (∀ h ∈ q.held, (∃ b w, h = .mem b w) ∨ (∃ b w, h = .xchs b w) ∨ (∃ a w, h = .stg a w)) →
    Runs (.unlock i) i s fun t => (t.core i.core).lock = none ∧ (t.core i.core).r = s.nowOf i ∧
      t.dmem = q.held.foldl (fun m h => match h with | .mem b w => Tab.set 0 m b w | _ => m) s.dmem ∧
      (isSteward i.core = false → t.send = q.held.foldl (fun m h => match h with | .xchs b w => Tab.set 0 m (i.core * 8 + b) w | _ => m) s.send) ∧
      (isSteward i.core = true → (t.core i.core).access = if heldStg q.held = [] then (s.core i.core).access else some (.commit (heldStg q.held)))) ∧
  (∀ (c : Core) (q : LockSeq), c.lock = some q → c.discard.r = q.saved ∧ c.discard.heldWrites = [] ∧ c.discard.lock = none)

/-- R123, R71: TICKEND. -/
def Obligations.TickendRetires : Prop :=
  ∀ (i : Issue) (s : State), i.wf = true → s.issues i = true → isSteward i.core = false → i.cyc < 65536 →
    let l := i.core
    let n := i.cyc + 1 - 320
    ∃ t, exec (.tickend i) s = .next t ∧ (t.core l).r = s.nowOf i ∧ (t.core l).running = false ∧ (t.core l).retired = true ∧
      t.dmem = (s.handover l).dmem ∧ (s.switch = none → t.dmem = s.dmem) ∧ t.cram = s.cram ∧ t.send = s.send ∧ (∀ j, j ≠ l → t.core j = s.core j) ∧
      t.getF (LAN_CYC_LAST l) LAN_CYC_LAST_CYCLES = n ∧
      t.getF (LAN_CYC_MAX l) LAN_CYC_MAX_CYCLES = max (s.getF (LAN_CYC_MAX l) LAN_CYC_MAX_CYCLES) n ∧
      (s.getF (LAN_COST l) LAN_COST_CYCLES < n → t.getF (LAN_STAT l) LAN_STAT_OVER_COST = 1 ∧
        ∃ e ∈ t.flt.queue, e.src = tileSrc (l / 16) LAN_COST_EXCEED ∧ e.arg = l)

/-- R20, R21, R26, R339, R402, R405, R469, shown on REGISTER_WRITE. -/
def Obligations.AccessRefusals : Prop :=
  ∀ (a : Arr) (addr : Nat) (w : Word) (s : State), a.port < 21 → addr < 2 ^ 20 →
    let x := a.access s true [(addr, w)]
    let same := fun (t : State) (own : List Loc) => t.dmem = s.dmem ∧ t.cram = s.cram ∧ t.cores = s.cores ∧ t.ports = s.ports ∧ t.otp = s.otp ∧
      ∀ l : Loc, l.ok = true → l.counted 200 = false → l ∉ own → t.rd l = s.rd l
    (s.pws.keeper = true → exec (.registerWrite a addr w) s = .next s) ∧
    (s.pws.keeper = false → s.mayWrite x.rights addr w = false → Completes (.registerWrite a addr w) s fun t =>
      same t [RGT_DENY_CNT, RGT_LAST, RGT_LAST_ADDR] ∧ t.ans = (2, []) ∧ t.raised RGT_DENIED a.port ∧
      (t.rd RGT_DENY_CNT).toNat = min 16777215 ((s.rd RGT_DENY_CNT).toNat + 1) ∧
      t.rd RGT_LAST = BitVec.ofNat 24 (128 + a.port) ∧ t.rd RGT_LAST_ADDR = BitVec.ofNat 24 addr) ∧
    (s.pws.keeper = false → s.mayWrite x.rights addr w = true → s.tileDown (ownerTile addr) = true →
      Completes (.registerWrite a addr w) s fun t => same t [] ∧ t.ans = (3, []) ∧ t.raised PKG_TILE_DOWN_ACCESS (ownerTile addr)) ∧
    (s.pws.keeper = false → s.mayWrite x.rights addr w = true → s.tileDown (ownerTile addr) = false →
      (∀ n, s.waitsAt x = some n → Completes (.registerWrite a addr w) s fun t =>
        same t [] ∧ (t.tile n).held = (s.tile n).held ++ [x] ∧ t.flt = s.flt) ∧
      (s.waitsAt x = none → isHole addr = true → (x.far = [] ∨ s.mer.fab = []) → Completes (.registerWrite a addr w) s fun t =>
        same t [PKG_HOLE_CNT, PKG_HOLE_LAST, PKG_HOLE_ADDR] ∧ t.ans = (3, []) ∧
        (t.rd PKG_HOLE_CNT).toNat = min 16777215 ((s.rd PKG_HOLE_CNT).toNat + 1) ∧ t.rd PKG_HOLE_ADDR = BitVec.ofNat 24 addr) ∧
      (∀ n, s.waitsAt x = none → x.far = [n] → s.mer.fab = [true, true] → Completes (.registerWrite a addr w) s fun t =>
        same t [PKG_TILE_STAT] ∧ t.ans = (3, []) ∧ t.mer.fab = [] ∧ t.raised PKG_FABRIC_ERR (portTile a.port) ∧
        (t.getF PKG_TILE_STAT PKG_TILE_STAT_FAB_ERR).testBit (portTile a.port) = true))

/-- R6, R9, R101, R458, R475: REGISTER_WRITE, REGISTER_TRANSFER, FABRIC_HOLD_RELEASE, DBGACC_READ, DBGACC_WRITE, DBGACC_NOP,
STEWARD_ACCESS_COMPLETE and MAILBOX_WRITE. -/
def Obligations.PlainAccesses : Prop :=
  ∀ (a : Arr) (l : Loc) (w : Word) (s : State) (n i cyc : Nat) (consume : Bool), a.port < 21 → n < 8 → i < 8 → l.ok = true →
    let same := fun (t : State) (own : List Loc) => t.dmem = s.dmem ∧ t.cram = s.cram ∧ t.ports = s.ports ∧ t.otp = s.otp ∧
      ∀ m : Loc, m.ok = true → m.tally = false → m ∉ own → t.rd m = s.rd m
    let stw := fun (write : Bool) => ({ who := .steward n, port := 13 + n, rights := s.portRights (13 + n), write := write, words := [(l.addr, if write then w else 0)] } : Access)
    (l.writesPlain = true → s.legalWord l w = true →
      (s.admitsPut a l w = true → Completes (.registerWrite a l.addr w) s fun t => same t [l] ∧ t.cores = s.cores ∧ t.rd l = s.mergedWord l w ∧ t.ans = (0, [])) ∧
      (s.admitsPut a l w = true → Completes (.registerTransfer a true l.addr [w] []) s fun t => same t [l] ∧ t.cores = s.cores ∧ t.rd l = s.mergedWord l w ∧ t.ans = (0, [])) ∧
      (s.dbg.status ≠ 1 → s.admits { who := .jtag, port := 12, rights := s.portRights 12, write := true, words := [(l.addr, w)] } = true →
        Completes (.dbgaccWrite l.addr w cyc) s fun t => same t [l] ∧ t.rd l = s.mergedWord l w ∧ t.dbg.status = 0 ∧ t.dbg.addr = l.addr ∧ t.dbg.ir = 0x10) ∧
      ((s.core (128 + n)).access = some (.stg l.addr w) → (s.waiting fun k => match k with | .steward m => m == n | _ => false) = false →
        s.admits (stw true) = true →
        Completes (.stewardAccessComplete n cyc) s fun t => same t [l] ∧ t.rd l = s.mergedWord l w ∧ (t.core (128 + n)).access = none ∧
          (t.core (128 + n)).r = (s.core (128 + n)).r ∧ ∀ j, j ≠ 128 + n → t.core j = s.core j)) ∧
    (l.readsPlain = true → (∀ p o, l = .port p o → 0x80 ≤ o → o ≤ 0x88 → (s.port p).envPend = []) →
      (s.admits (a.access s false [(l.addr, 0)]) = true → Completes (.registerTransfer a false l.addr [0] []) s fun t =>
        same t [] ∧ t.cores = s.cores ∧ t.ans = (0, [s.rd l])) ∧
      (s.dbg.status ≠ 1 → s.admits { who := .jtag, port := 12, rights := s.portRights 12, write := false, words := [(l.addr, 0)], peek := !consume } = true →
        Tab.get none s.dbg.capt l.addr = none →
        Completes (.dbgaccRead l.addr consume cyc) s fun t => same t [] ∧ t.dbg.data = s.rd l ∧ t.dbg.status = 0 ∧ t.dbg.addr = l.addr) ∧
      ((s.core (128 + n)).access = some (.ldg i l.addr) → (s.waiting fun k => match k with | .steward m => m == n | _ => false) = false →
        s.admits (stw false) = true →
        Completes (.stewardAccessComplete n cyc) s fun t => same t [] ∧ (t.core (128 + n)).access = none ∧
          (t.core (128 + n)).r = (s.core (128 + n)).r.setD i (s.rd l)) ∧
      (s.mer.phase ≠ .exchange → (s.tile n).dozed = false → (s.tile n).held = [a.access s false [(l.addr, 0)]] →
        (∀ m, m < 8 → m ≠ n → (s.tile m).held = []) → s.tileDown (ownerTile l.addr) = false →
        ((a.access s false [(l.addr, 0)]).far = [] ∨ s.mer.fab = []) →
        Completes (.fabricHoldRelease cyc) s fun t => same t [] ∧ t.ans = (0, [s.rd l]) ∧ (t.tile n).held = [])) ∧
    (∀ p o, l = .port p o → 0x80 ≤ o → o ≤ 0x87 → s.admits (a.access s false [(l.addr, 0)]) = true →
      Completes (.registerTransfer a false l.addr [0] []) s fun t => t.ans = (0, [(s.envSettle p a.cyc).rd l])) ∧
    (s.admitsPut a (LAN_MBOX n i) w = true → Completes (.mailboxWrite a n i w) s fun t => same t [LAN_MBOX n i] ∧ t.rd (LAN_MBOX n i) = w ∧
      (a.port ≠ 13 + n → ((t.core (128 + n)).sreg 3).getLsbD 7 = true) ∧ (a.port = 13 + n → t.cores = s.cores)) ∧
    Completes .dbgaccNop s fun t => t = { s with dbg := { s.dbg with ir := 0x10, extest := false } }

/-- STG_PERS_WRITE, STG_EN_WRITE, PHS_RAIL_MASK_WRITE, PHS_RAIL_LEAD_WRITE, RAIL_STATE_WRITE, FUSE_CLEAR, BAT_CTL_WRITE,
BAT_QNOM_WRITE, ENV_WRITE. -/
def Obligations.PortAndRailWrites : Prop :=
  ∀ (a : Arr) (s : State) (p r u k pers lead alt st m : Nat) (en : Bool) (w : Word), a.port < 21 → p < 128 → r < 16 → u < 32 → k < 8 →
    (s.getF (STG_CTL p) STG_CTL_PERS ≤ 4 → s.admitsField a (STG_CTL p) STG_CTL_EN (b2n en) = true →
      (en = true → (s.getF (ENV_PERS p) ENV_PERS_ALLOW).testBit (s.pers p) = true) →
      Completes (.stgEnWrite a p en) s fun t => t.getF (STG_CTL p) STG_CTL_EN = b2n en ∧ t.getF (STG_CTL p) STG_CTL_PERS = s.getF (STG_CTL p) STG_CTL_PERS ∧
        (en = false → (t.port p).enNext = some false) ∧ (en = true → s.flag (STG_CTL p) STG_CTL_EN = false → (t.port p).enNext = some true) ∧
        ∀ q, q ≠ p → t.port q = s.port q) ∧
    (pers ≤ 4 → pers ≠ s.getF (STG_CTL p) STG_CTL_PERS → s.admitsField a (STG_CTL p) STG_CTL_PERS pers = true →
      s.flag (STG_CTL p) STG_CTL_EN = false →
      (s.pstate p ≠ 2 → (s.getF (ENV_PERS p) ENV_PERS_ALLOW).testBit pers = true → Completes (.stgPersWrite a p pers) s fun t =>
        t.getF (STG_CTL p) STG_CTL_PERS = pers ∧ (t.port p).persNext = some pers ∧ (t.port p).persNow = (s.port p).persNow) ∧
      (s.pstate p = 2 → Completes (.stgPersWrite a p pers) s fun t =>
        t.rd (STG_CTL p) = s.rd (STG_CTL p) ∧ t.ports = s.ports ∧ t.ans = (3, []) ∧ t.raised (tileSrc (p / 16) STG_PERS_REFUSED) p)) ∧
    (s.admits (a.access s true (wordsFrom (PHS_RAIL_MASK0 r).addr ((List.range 6).map fun k => BitVec.ofNat 24 (m / 2 ^ (24 * k))))) = true →
      m < 2 ^ 128 → s.railState r = 0 → (lanesOf m).length ≤ 64 → (∀ q, q < 16 → q ≠ r → m &&& s.railMask q = 0) →
      Completes (.phsRailMaskWrite a r m) s fun t => t.railMask r = m ∧ ∀ q, q < 16 → q ≠ r → t.railMask q = s.railMask q) ∧
    (lead < 128 → alt < 128 → s.admitsPut a (PHS_RAIL_LEAD r) (PHS_RAIL_LEAD_ALT.put (PHS_RAIL_LEAD_LEAD.put 0 lead) alt) = true →
      (s.railState r = 0 ∨ ((s.railMask r).testBit lead = true ∧ (s.railMask r).testBit alt = true)) →
      Completes (.phsRailLeadWrite a r lead alt) s fun t => t.leadOf r = lead ∧ t.altOf r = alt ∧ t.activeLead r = lead ∧ (t.rail r).toAlt = false) ∧
    (st ≤ 4 → s.legalWord (PHS_RAIL_CTL r) (PHS_RAIL_CTL_STATE.put (s.heldWord (PHS_RAIL_CTL r)) st) = true →
      s.admitsField a (PHS_RAIL_CTL r) PHS_RAIL_CTL_STATE st = true → st ≠ s.railState r →
      ((s.railMask r).testBit (s.leadOf r) = true ∧ (s.railMask r).testBit (s.altOf r) = true) →
      Completes (.railStateWrite a r st) s fun t => t.railState r = st ∧ t.railMask r = s.railMask r) ∧
    (s.admitsPut a (FUS_CMD p) 1 = true → s.pers p = 1 → s.pstate p ≠ 1 → Completes (.fuseClear a p) s fun t =>
      t.getF (FUS_STAT p) FUS_STAT_RCNT = 0 ∧ (t.fuse p).u = 0 ∧ t.rd (FUS_ACC p) = 0 ∧
      t.getF (FUS_STAT p) FUS_STAT_STATE = s.getF (FUS_STAT p) FUS_STAT_STATE) ∧
    (s.admitsPut a (BAT_CTL u) w = true → s.legalWord (BAT_CTL u) w = true →
      (BAT_CTL_EN.on w = true → ∀ v, v < 32 → v ≠ u → s.flag (BAT_CTL v) BAT_CTL_EN = true → s.strPort v ≠ BAT_CTL_PORT.get w) →
      Completes (.batCtlWrite a u w) s fun t => t.rd (BAT_CTL u) = w &&& 0xFF78FF) ∧
    (s.admitsPut a (BAT_QNOM u) w = true → Completes (.batQnomWrite a u w) s fun t => t.rd (BAT_QNOM u) = w ∧
      t.rd (BAT_QFULL u) = if s.rd (BAT_QFULL u) = 0 then w else s.rd (BAT_QFULL u)) ∧
    (s.admitsPut a (.port p (0x80 + k)) w = true → Completes (.envWrite a p k w) s fun t =>
      t.rd (.port p (0x80 + k)) = (tighten (0x80 + k) ((s.envSettle p a.cyc).rd (.port p (0x80 + k))) w).1)

/-- MER_CTL_WRITE, RATE_CHANGE_REQUEST, LAN_PGM_DATA_WRITE, LOAD_CHECK_START, SWITCH_SCHEDULE, SWITCH_CANCEL, TILE_RESET_REQUEST,
PACKAGE_RESET_REQUEST, PWS_WAKE_CMD, ENV_OTP_PROGRAM, ENV_SEAL, ENV_LOCK_FUSE, RGT_MAP_PROGRAM, RGT_SEAL, RGT_PORT_TIGHTEN. -/
def Obligations.PackageAndLaneWrites : Prop :=
  ∀ (a : Arr) (s : State) (l p k n : Nat) (stw atCount : Bool) (w : Word), a.port < 21 → l < 128 → p < 21 → k < 21 → 1 ≤ n → n < 8 →
    (s.admitsPut a MER_CTL w = true → MER_CTL_SRC.get w ≠ 3 → Completes (.merCtlWrite a w) s fun t => t.rd MER_CTL = w &&& 0x3B ∧
      t.mer.srcNext = (if MER_CTL_SRC.get w = s.mer.srcNow then none else some (MER_CTL_SRC.get w)) ∧ t.mer.srcNow = s.mer.srcNow) ∧
    (s.admitsPut a MER_RATE_CTL w = true → Completes (.rateChangeRequest a w) s fun t => t.flag MER_STAT MER_STAT_RATE_PEND = true ∧
      ∃ q, t.mer.rate = some q ∧ q.n = s.getF MER_PERIOD_REQ MER_PERIOD_REQ_N ∧ q.atWhen = MER_RATE_CTL_WHEN.on w ∧ q.tick = none) ∧
    (s.admitsPut a (LAN_PGM_DATA2 l) w = true → s.windowShut l = false → Tab.get none s.wide (LAN_PGM_DATA0 l).addr = none →
      Tab.get none s.wide (LAN_PGM_DATA1 l).addr = none → Completes (.lanPgmDataWrite a l w) s fun t =>
      let at_ := s.getF (LAN_PGM_ADDR l) LAN_PGM_ADDR_ADDR
      t.bundle l (1 - s.bankOf l) at_ = BitVec.ofNat 64 ((s.rd (LAN_PGM_DATA0 l)).toNat + (s.rd (LAN_PGM_DATA1 l)).toNat * 2 ^ 24 + w.toNat % 2 ^ 16 * 2 ^ 48) ∧
      t.getF (LAN_PGM_ADDR l) LAN_PGM_ADDR_ADDR = (at_ + 1) % 4096 ∧ t.flag (LAN_STAT l) LAN_STAT_INACT_OK = false ∧
      ∀ c b x, codeIdx c b x ≠ codeIdx l (1 - s.bankOf l) at_ → t.bundle c b x = s.bundle c b x) ∧
    (s.admitsPut a (LAN_LOAD l) 1 = true → Completes (.loadCheckStart a l) s fun t => t.flag (LAN_STAT l) LAN_STAT_CHECK_BUSY = true ∧
      t.code = s.code) ∧
    (s.admitsPut a LAN_SW_CTL (LAN_SW_CTL_SCHED.put (LAN_SW_CTL_WHEN.put (LAN_SW_CTL_STW.put 0 (b2n stw)) (b2n atCount)) 1) = true →
      s.flag LAN_SW_STAT LAN_SW_STAT_PEND = false → Completes (.switchSchedule a stw atCount) s fun t =>
      t.flag LAN_SW_STAT LAN_SW_STAT_PEND = true ∧
      t.switch = some ⟨0, stw, atCount, s.rdPair LAN_SW_AT_LO LAN_SW_AT_HI, none, false, []⟩) ∧
    (∀ q, s.switch = some q → q.kind = 0 → s.admitsField a LAN_SW_CTL LAN_SW_CTL_CANCEL 1 = true → s.getF LAN_SW_CTL LAN_SW_CTL_SCHED = 0 →
      Completes (.switchCancel a) s fun t => t.switch = none ∧ t.flag LAN_SW_STAT LAN_SW_STAT_PEND = false ∧
        t.flag LAN_SW_STAT LAN_SW_STAT_CANCELLED = true ∧ ∀ j, j < 128 → t.flag (LAN_CTL j) LAN_CTL_SWITCH_SEL = false) ∧
    (s.admitsPut a PKG_TILE_RST w = true → Completes (.tileResetRequest a w) s fun t =>
      ((t.tile n).rstPend = true ↔ (s.tile n).rstPend = true ∨ (w.getLsbD n = true ∧ (s.tile n).inReset = false))) ∧
    (s.admitsPut a BOOT_CMD (BOOT_CMD_PKG_RST.put (BOOT_CMD_CONFIRM.put 0 0x3C) 1) = true → Completes (.packageResetRequest a 0x3C) s fun t =>
      t.boot.reset = max 1 s.boot.reset) ∧
    (s.admitsPut a PWS_CMD 1 = true → s.pws.entry = 1 → s.pwState ≠ 3 → Completes (.pwsWakeCmd a) s fun t =>
      t.pws.entry = 0 ∧ t.flag PWS_STAT PWS_STAT_ENTERING = false) ∧
    (s.admitsPut a PWS_CMD 1 = true → s.pws.entry = 0 → s.pwState = 3 → s.pws.waking = none → Completes (.pwsWakeCmd a) s fun t =>
      t.pws.waking = some (-(a.cyc : Int))) ∧
    (let x := s.getF ENV_OTP_ADDR ENV_OTP_ADDR_ADDR
     s.admitsPut a ENV_OTP_DATA w = true → s.otp.sealed < 4 → x < 1025 → Completes (.envOtpProgram a w) s fun t =>
      Tab.get 0 t.otp.env (s.otp.sealed * 1026 + x) = Tab.get 0 s.otp.env (s.otp.sealed * 1026 + x) ||| w ∧
      (∀ y, y ≠ s.otp.sealed * 1026 + x → Tab.get 0 t.otp.env y = Tab.get 0 s.otp.env y) ∧ t.getF ENV_OTP_ADDR ENV_OTP_ADDR_ADDR = x + 1) ∧
    (s.admitsPut a ENV_OTP_CMD 1 = true → s.otp.sealed < 4 → Completes (.envSeal a) s fun t => t.flag ENV_OTP_CMD ENV_OTP_CMD_SEAL = true ∧ t.otp = s.otp) ∧
    (s.admitsPut a ENV_OTP_CMD (ENV_OTP_CMD_LOCK.put (ENV_OTP_CMD_CONFIRM.put 0 0xA5) 1) = true → 0 < s.otp.sealed →
      Completes (.envLockFuse a 0xA5) s fun t => t.otp = { s.otp with lock := true }) ∧
    (s.admitsPut a (.pkg (0x2200 + k)) w = true → s.otp.rightsSealed = false → Completes (.rgtMapProgram a k w) s fun t =>
      t.mapWord k = s.mapWord k ||| (w &&& 0x3F) ∧ ∀ j, j ≠ k → t.mapWord j = s.mapWord j) ∧
    (s.admitsPut a RGT_CMD (RGT_CMD_SEAL.put (RGT_CMD_CONFIRM.put 0 0x5A) 1) = true → s.otp.rightsSealed = false →
      Completes (.rgtSeal a 0x5A) s fun t => t.flag RGT_CMD RGT_CMD_SEAL = true ∧ t.otp = s.otp) ∧
    (s.admitsPut a (RGT_PORT p) w = true → Completes (.rgtPortTighten a p w) s fun t => t.rd (RGT_PORT p) = s.rd (RGT_PORT p) &&& w)

/-- R33, R34, R39, R45, R48, R63, R70, R118, R119: SAMPLE_INSTANT, COMPUTE_WINDOW_OPEN, EXCHANGE_WINDOW, MIRROR_WINDOW, GUARD. -/
def Obligations.TickWindows : Prop :=
  ∀ (s : State) (conv : List (Nat × PortConv)) (wake : Bool) (bad : List (Nat × Nat)) (n l : Nat), n < 8 → l < 128 →
    (s.boot.running = false → ∀ x ∈ [Instr.sampleInstant conv wake, .computeWindowOpen, .exchangeWindow bad, .mirrorWindow], exec x s = .next s) ∧
    (s.boot.running = true →
      (Completes (.sampleInstant conv wake) s fun t => t.mer.count = (s.mer.count + 1) % 2 ^ 48 ∧ t.mer.phase = .sample ∧ t.mer.tickN = t.period ∧
        t.pws.wakePin = wake ∧ t.otp = s.otp ∧ t.pending = s.pending) ∧
      (Completes .computeWindowOpen s fun t => t.mer.phase = .compute ∧ Leaves s t [] ∧
        (s.laneStarts l = true → (t.core l).pc = 0 ∧ (t.core l).running = true ∧ (t.core l).retired = false ∧ (t.core l).loops = [] ∧ (t.core l).r = (s.core l).r) ∧
        (s.laneStarts l = false → t.core l = { s.core l with retired := false })) ∧
      ((∀ e ∈ bad, e.1 < 8 ∧ e.2 < 128) → Completes (.exchangeWindow bad) s fun t => t.mer.phase = .exchange ∧
        Tab.get false t.cells (n * 128 + l) = (s.tileRuns n && s.sendsCell l && !bad.contains (n, l)) ∧
        (s.tileRuns (l / 16) = true → (s.core l).running = true → (s.core l).retired = false → (s.core l).halted = false →
          (t.core l).running = false ∧ (t.core l).overruns = (s.core l).overruns + 1 ∧ t.raised (portSrc l MER_OVERRUN) l)) ∧
      (Completes .mirrorWindow s fun t => t.mer.phase = .mirror ∧ t.cells = [] ∧ (s.dbg.writes = [] → t.dmem = s.dmem) ∧ t.code = s.code ∧
        (∀ w, w < 8 → t.recvWord n l w = if Tab.get false s.cells (n * 128 + l) then s.cellWord l w else 0) ∧
        (t.tile n).cramBuf = (s.tile n).cramBuf.drop 64 ∧
        ∀ a w, (s.tile n).cramBuf = [(a, w)] → a < 65536 → Tab.get 0 t.cram (n * 65536 + a) = w)) ∧
    (Completes .guard s fun t => t = { s with mer := t.mer } ∧ t.mer.phase = .guard ∧ t.mer.count = s.mer.count ∧ t.mer.corr.natAbs ≤ 128 ∧
      (s.lockState < 2 → t.mer.err = s.mer.err - t.mer.corr ∧ t.mer.err.natAbs ≤ s.mer.err.natAbs ∧ t.mer.since = s.mer.since + 1) ∧
      (s.lockState = 3 → t.mer.corr = 0 ∧ t.mer.err = s.mer.err ∧ t.mer.good = 0))

/-- R21, R35, R39 to R44, R47, R51, R52, R54: TICK_MARKER_ARRIVAL, FABRIC_DELAY_MEASURE, SYNC_IN_EDGE, LOCK_ACHIEVED, LOCK_HOLDOVER,
RATE_CHECK_COMPLETE, RATE_CHANGE_APPLY, COUNT_ADOPT. -/
def Obligations.TickReferences : Prop :=
  ∀ (s : State) (n waited dly pos gap cyc : Nat), n < 8 →
    (s.tileDown n = false →
      (Completes (.tickMarkerArrival n true true waited cyc) s fun t => Leaves s t [] ∧ t.cores = s.cores ∧ t.ports = s.ports ∧
        (t.tile n).sOffset = some (2560 - s.getF (MER_TILE_DLY n) MER_TILE_DLY_DLY - waited) ∧ ∀ m, m ≠ n → t.tile m = s.tile m) ∧
      (Completes (.tickMarkerArrival n true false waited cyc) s fun t => Leaves s t [PKG_TILE_STAT] ∧ (t.tile n).sOffset = none ∧
        (t.getF PKG_TILE_STAT PKG_TILE_STAT_FAB_ERR).testBit 0 = true ∧ t.raised PKG_FABRIC_ERR 0)) ∧
    (1 ≤ n → dly < 4096 → Completes (.fabricDelayMeasure n dly cyc) s fun t => Leaves s t [] ∧ t.cores = s.cores ∧
      Tab.get none t.mer.dlyTarget n = (if 6 < ((dly : Int) - s.getF (MER_TILE_DLY n) MER_TILE_DLY_DLY).natAbs then some dly else none) ∧
      (2304 < dly → t.raised MER_ALIGN n)) ∧
    (s.mer.srcNow = 1 → Completes (.syncInEdge pos gap) s fun t => t.dmem = s.dmem ∧ t.cores = s.cores ∧
      let e := wrapPhase (pos + s.getF MER_SYNC_OFS MER_SYNC_OFS_OFS % max 1 s.period * 16) (s.period * 16)
      let per := s.syncDiv * s.period * 16
      (s.mer.fromEdge = none → t.mer.err = e ∧ t.mer.since = 0) ∧
      (∀ x, s.mer.fromEdge = some x → inLockRange (x + gap) (spans (x + gap) per) per = true → t.mer.err = e ∧ t.mer.since = 0) ∧
      (∀ x, s.mer.fromEdge = some x → inLockRange (x + gap) (spans (x + gap) per) per = false →
        t.mer.err = s.mer.err ∧ t.mer.since = s.mer.since ∧ t.mer.again = 0)) ∧
    (s.lockState = 0 → 16 ≤ s.mer.good → Completes (.lockAchieved cyc) s fun t => t.lockState = 1 ∧ t.mer = s.mer ∧ t.dmem = s.dmem ∧ t.ports = s.ports) ∧
    (s.lockState < 2 → 4 * s.refTicks < s.mer.since → Completes (.lockHoldover cyc) s fun t => Leaves s t (MER_STAT :: recordLocs) ∧
      t.lockState = 2 ∧ t.raised MER_SYNC_LOST 0xFF ∧ (s.mer.srcNow = 2 → t.raised TRP_ALIGN_LOST 0xFF) ∧ t.mer.count = s.mer.count) ∧
    (∀ r, s.mer.rate = some r → r.tick = none → r.link = false → s.mer.annRate = none →
      (∀ c, s.rateRefusal r.n = some c → Completes .rateCheckComplete s fun t => Leaves s t [MER_STAT, MER_REFUSE] ∧ t.mer.rate = none ∧
        t.flag MER_STAT MER_STAT_RATE_PEND = false ∧ t.flag MER_STAT MER_STAT_RATE_REFUSED = true ∧ t.rd MER_REFUSE = BitVec.ofNat 24 (c.1 * 256 + c.2)) ∧
      (s.rateRefusal r.n = none → Completes .rateCheckComplete s fun t => Leaves s t [MER_STAT] ∧
        t.flag MER_STAT MER_STAT_RATE_PEND = true ∧ ∃ q, t.mer.rate = some q ∧ q.n = r.n ∧ q.tick.isSome = true ∧
        (r.atWhen = false → s.leadsAligned = false → q.tick = some s.nextCount) ∧
        (r.atWhen = true → inPast r.at_ s.mer.count = false → s.leadsAligned = false → q.tick = some r.at_ ∧ q.late = false))) ∧
    (∀ r, s.mer.rate = some r → r.tick = some s.boundary → s.mer.annRate = none → s.inLull = true → Completes .rateChangeApply s fun t =>
      Leaves s t [MER_STAT] ∧ t.period = s.period ∧ t.budget = s.budget ∧ t.mer.rate = some r ∧ t.flag MER_STAT MER_STAT_RATE_PEND = true) ∧
    (∀ r, s.mer.annRate = some r → r.tick = some s.boundary → s.mer.rate = none → s.inLull = false → 2000 ≤ r.n → r.n ≤ 16000 →
      Completes .rateChangeApply s fun t => t.period = r.n ∧ t.budget = 94 * (r.n - 1440) / 100 ∧ t.mer.annRate = none ∧
        t.flag MER_STAT MER_STAT_RATE_PEND = false) ∧
    (∀ r, s.mer.rate = some r → r.tick = some s.boundary → s.mer.annRate = none → s.inLull = false → 2000 ≤ r.n → r.n ≤ 16000 → Completes .rateChangeApply s fun t =>
      Leaves s t ([MER_PERIOD, MER_BUDGET, PKG_ORDER, MER_STAT] ++ recordLocs) ∧ t.period = r.n ∧ t.budget = 94 * (r.n - 1440) / 100 ∧
      t.flag MER_STAT MER_STAT_RATE_PEND = false ∧ t.mer.rate = none ∧ (r.late = true → t.flag MER_STAT MER_STAT_RATE_LATE = true)) ∧
    (∀ c, s.trp.adopt = some c → Completes (.countAdopt cyc) s fun t => t.mer.count = c ∧ (c < 2 ^ 48 → t.rdPair MER_COUNT_LO MER_COUNT_HI = c) ∧ t.mer.err = 0 ∧ t.trp.adopt = none ∧ t.dmem = s.dmem ∧
      (s.flag TRP_CTL TRP_CTL_AUTO_LINK = true → t.mer.srcNow = 2 ∧ t.lockState = 0) ∧
      (s.flag TRP_CTL TRP_CTL_AUTO_LINK = false → t.sstate = 5))

/-- R65, R72, R78, R79: LOAD_CHECK_COMPLETE, SWITCH_CHECK_COMPLETE, BANK_SWITCH, MEM_DOUBLE_ERROR. -/
def Obligations.ChecksAndSwitch : Prop :=
  ∀ (s : State) (l cyc k : Nat), l < 128 →
    (s.flag (LAN_STAT l) LAN_STAT_CHECK_BUSY = true → Completes (.loadCheckComplete l) s fun t =>
      let r := s.checkBank l (1 - s.bankOf l) s.loadBudget
      Leaves s t [LAN_LOAD l, LAN_STAT l, LAN_COST_INACT l] ∧ t.ports = s.ports ∧ t.flag (LAN_STAT l) LAN_STAT_CHECK_BUSY = false ∧
      ((t.core (128 + l / 16)).sreg 3).getLsbD 10 = true ∧
      (r.1 = 0 → t.flag (LAN_STAT l) LAN_STAT_INACT_OK = true ∧ t.flag (LAN_STAT l) LAN_STAT_HELD = false ∧ t.getF (LAN_COST_INACT l) LAN_COST_INACT_CYCLES = r.2 % 2 ^ 16) ∧
      (r.1 ≠ 0 → t.flag (LAN_STAT l) LAN_STAT_INACT_OK = false ∧ t.flag (LAN_STAT l) LAN_STAT_REFUSED = true ∧
        t.getF (LAN_STAT l) LAN_STAT_CAUSE = r.1 % 16)) ∧
    (∀ r, s.switch = some r → r.tick = none → r.kind = 0 →
      let c := s.switchCause r s.selected
      (c.1 = 0 → Completes .switchCheckComplete s fun t => (t = { s with switch := t.switch }) ∧ ∃ q, t.switch = some q ∧ q.lanes = s.selected ∧
        (r.atWhen = false → q.tick = some ((s.mer.count + 2) % 2 ^ 48)) ∧
        (r.atWhen = true → inPast r.at_ s.mer.count = false → q.tick = some r.at_ ∧ q.late = false)) ∧
      (c.1 ≠ 0 → Completes .switchCheckComplete s fun t => Leaves s t [LAN_SW_STAT] ∧ t.switch = none ∧
        t.flag LAN_SW_STAT LAN_SW_STAT_PEND = false ∧ t.flag LAN_SW_STAT LAN_SW_STAT_REFUSED = true ∧
        t.getF LAN_SW_STAT LAN_SW_STAT_CAUSE = c.1 ∧ t.getF LAN_SW_STAT LAN_SW_STAT_LANE = c.2)) ∧
    (∀ r, s.switch = some r → r.tick = some s.boundary → r.kind = 0 → r.lanes.Nodup → (∀ x ∈ r.lanes, x < 128) → Completes .bankSwitch s fun t =>
      t.dmem = s.dmem ∧ t.code = s.code ∧ t.ports = s.ports ∧ t.switch = none ∧
      t.flag LAN_SW_STAT LAN_SW_STAT_PEND = false ∧ t.flag LAN_SW_STAT LAN_SW_STAT_DONE = true ∧
      (l ∈ r.lanes → t.bankOf l = 1 - s.bankOf l ∧ t.getF (LAN_STAT l) LAN_STAT_ACT_OK = s.getF (LAN_STAT l) LAN_STAT_INACT_OK ∧
        t.flag (LAN_STAT l) LAN_STAT_INACT_OK = true ∧ t.flag (LAN_STAT l) LAN_STAT_HELD = false ∧
        t.getF (LAN_COST l) LAN_COST_CYCLES = s.getF (LAN_COST_INACT l) LAN_COST_INACT_CYCLES) ∧
      (l ∉ r.lanes → t.rd (LAN_STAT l) = s.rd (LAN_STAT l) ∧ t.core l = s.core l)) ∧
    (Completes (.memDoubleError l cyc) s fun t => t.dmem = s.dmem ∧ t.pstate l = 2 ∧ (t.core l).running = false ∧ (t.core l).memStop = true ∧
      t.raised (portSrc l LAN_MEM_DED) l ∧ ∀ j, j ≠ l → t.core j = s.core j) ∧
    (128 ≤ k → k < 136 → (s.core k).running = true → (s.core k).dead = false → Completes (.memDoubleError k cyc) s fun t =>
      ((s.core k).undoMem = none → t.dmem = s.dmem) ∧ t.raised (tileSrc (k - 128) LAN_MEM_DED_STW) (k - 128) ∧ ((t.core k).sreg 1).toNat % 16 = 2 ∧ ∀ j, j ≠ k → t.core j = s.core j)

/-- R148, R358, R411, R420 to R425, R337: POWER_ON_RESET, PIN_RESET, PACKAGE_RESET, WDO_PULSE_END. -/
def Obligations.PackageResets : Prop :=
  ∀ (s : State),
    let after := fun (kind : Nat) (t : State) =>
      t.boot.running = false ∧ t.boot.kind ≤ kind ∧ t.pws.keeper = false ∧ t.cores = [] ∧ t.dmem = [] ∧ t.cram = [] ∧ t.code = [] ∧ t.tiles = [] ∧
      t.links = [] ∧ t.mer = {} ∧ t.otp = s.otp ∧ t.flash = s.flash ∧ t.pending = s.pending ∧
      (∀ l : Loc, l.ok = true → l.counted 200 = false → l ∉ [FUS_STG_ADDR, PWS_KEEP 0, PWS_KEEP 1, PWS_KEEP 2, PWS_KEEP 3, WDG_STAT, PWS_STAT, RGT_STAT] →
        (∀ p, p < 21 → l ≠ RGT_PORT p) → (∀ e ∈ s.ports, e.2.fltLow = true → l ≠ STG_STAT e.1) → t.rd l = resetWord l.addr) ∧
      (∀ e ∈ s.ports, e.1 < 128 → e.2.fltLow = true → t.flag (STG_STAT e.1) STG_STAT_DRV_FLT = true) ∧
      t.rd FUS_STG_ADDR = s.rd FUS_STG_ADDR ∧ (∀ p, p < 21 → t.rd (RGT_PORT p) = t.rightsEntry p) ∧
      (∀ k, k < 4 → t.rd (PWS_KEEP k) = if kind = 0 then resetWord (PWS_KEEP k).addr else s.rd (PWS_KEEP k)) ∧
      t.getF WDG_STAT WDG_STAT_CAUSE = (if 2 ≤ kind then s.getF WDG_STAT WDG_STAT_CAUSE else 0) ∧
      t.rcd.buf = if kind = 0 then [] else s.enterRecords.rcd.buf
    (s.pws.keeper = false → Completes .powerOnReset s (after 0)) ∧ (s.pws.keeper = true → Completes .powerOnReset s fun t => t = s) ∧ Completes .pinReset s (after 1) ∧
    (s.boot.reset = 2 → s.rcd.flushing = false → Completes .packageReset s (after 3)) ∧
    (s.boot.reset = 1 → s.boot.running = false → Completes .packageReset s (after 3)) ∧
    (∀ w, s.wdg.pulse = some w →
      (s.flag WDG_STAT WDG_STAT_EXPIRED = true → s.getF WDG_CTL WDG_CTL_ACT = 2 → Completes .wdoPulseEnd s (after 2)) ∧
      (s.getF WDG_CTL WDG_CTL_ACT ≠ 2 → Completes .wdoPulseEnd s fun t => t = { s with wdg := { s.wdg with pulse := none } }))

/-- R196, R226, R412 to R417: BOOT, BOOT_TIMEOUT, STAGGER_EXPIRE. -/
def Obligations.BootOutcomes : Prop :=
  ∀ (s : State) (b : BootIn),
    (s.boot.running = false → s.boot.halted = false → s.pws.keeper = false → s.flag BOOT_STAT BOOT_STAT_RECOVERY = false →
      (Completes (.boot b) s fun t =>
        let ok := !b.bootsel && b.flash && (s.verifySlot s.confSlot == 0 || s.verifySlot (1 - s.confSlot) == 0)
        t.boot.running = ok ∧ t.mer.count = (if ok then 0 else s.mer.count) ∧ t.otp = s.otp ∧ t.flash = s.flash ∧
        (ok = false → t.flag BOOT_STAT BOOT_STAT_RECOVERY = true ∧ t.dmem = s.dmem ∧ t.cores = s.cores ∧
          t.getF BOOT_STAT BOOT_STAT_RCAUSE = if b.bootsel then 1 else if !b.flash then 4 else 2)) ∧
      (Completes .bootTimeout s fun t => Leaves s t [BOOT_STAT, UPD_STAT] ∧ t.boot = s.boot ∧ t.flag BOOT_STAT BOOT_STAT_RECOVERY = true ∧
        t.getF BOOT_STAT BOOT_STAT_RCAUSE = 3)) ∧
    (s.flag FUS_STG_STAT FUS_STG_STAT_RUNNING = true → Completes .staggerExpire s fun t => t.flag FUS_STG_STAT FUS_STG_STAT_RUNNING = false ∧
      t.boot.auto = [] ∧ t.dmem = s.dmem ∧ t.cores = s.cores ∧ ∀ p, p < 128 → (∀ q ∈ s.boot.auto, q < 128) →
        (p ∈ s.boot.auto → s.pstate p ≠ 2 → s.flag (STG_CTL p) STG_CTL_EN = false → s.mayStart p = true →
          t.flag (STG_CTL p) STG_CTL_EN = true ∧ (t.port p).enNext = some true) ∧
        (p ∈ s.boot.auto → s.pstate p ≠ 2 → s.flag (STG_CTL p) STG_CTL_EN = false → s.mayStart p = false →
          t.raised (tileSrc (p / 16) STG_PERS_REFUSED) p ∧ t.port p = s.port p ∧ t.rd (STG_CTL p) = s.rd (STG_CTL p)) ∧
        (s.pstate p = 2 ∨ s.flag (STG_CTL p) STG_CTL_EN = true → t.port p = s.port p ∧ t.rd (STG_CTL p) = s.rd (STG_CTL p)) ∧
        (p ∉ s.boot.auto → t.port p = s.port p ∧ t.rd (STG_CTL p) = s.rd (STG_CTL p)))

/-- R25 to R28, R44, R226, R421, R423: TILE_RESET_EFFECT, TILE_REJOIN, TILE_ACK_LOST. -/
def Obligations.TileResets : Prop :=
  ∀ (s : State) (n i ms dly cyc : Nat), n < 8 → i < 16 → s.boot.running = true →
    let p := 16 * n + i
    ((s.tile n).rstPend = true → (s.tile n).held = [] → Completes (.tileResetEffect n) s fun t => t.tile n = { inReset := true } ∧ t.core p = {} ∧ t.core (128 + n) = {} ∧
      t.pstate p = 2 ∧ (s.pstate p = 2 → t.getF (ENV_STAT p) ENV_STAT_CAUSE = s.getF (ENV_STAT p) ENV_STAT_CAUSE) ∧
      ((s.tile n).lost = false → s.pstate p ≠ 2 → t.getF (ENV_STAT p) ENV_STAT_CAUSE = 2) ∧ t.otp = s.otp ∧ t.dmem = s.dmem ∧
      ((s.tile n).lost = false → (t.getF PKG_TILE_STAT PKG_TILE_STAT_RUN).testBit n = false ∧ t.raised PKG_TILE_DOWN n)) ∧
    (∀ x, (s.tile n).rstPend = true → (s.tile n).held = [x] → x.who = .plain → x.owners = [n] → Completes (.tileResetEffect n) s fun t =>
      t.ans = (3, []) ∧ t.raised PKG_TILE_DOWN_ACCESS n) ∧
    ((s.tile n).inReset = true → Completes (.tileRejoin n ms dly) s fun t => (t.tile n).inReset = false ∧
      (t.getF PKG_TILE_STAT PKG_TILE_STAT_RUN).testBit n = true ∧ t.rd (MER_TILE_DLY n) = BitVec.ofNat 24 (dly % 4096) ∧
      (2304 < dly → t.raised MER_ALIGN n) ∧
      (∀ a, a < 65536 → Tab.get 0 t.dmem (p * 65536 + a) = 0) ∧
      ∀ c a, c < 136 → a < 65536 → c / 16 ≠ n → c ≠ 128 + n → Tab.get 0 t.dmem (c * 65536 + a) = Tab.get 0 s.dmem (c * 65536 + a)) ∧
    (s.tileRuns n = true → Completes (.tileAckLost n cyc) s fun t => (t.tile n).lost = true ∧
      (t.getF PKG_TILE_STAT PKG_TILE_STAT_RUN).testBit n = false ∧ t.raised PKG_TILE_DOWN n ∧ t.pstate p = 2 ∧ t.dmem = s.dmem ∧ t.cores = s.cores)

/-- R398 to R408: DOZE_ENTRY, DOZE_WAKE_EVENT, DOZE_EXIT, LULL_ENTRY, LULL_WAKE_EVENT, LULL_EXIT, KEEPER_ENTRY, KEEPER_WAKE. -/
def Obligations.PowerStates : Prop :=
  ∀ (s : State) (n cyc i : Nat) (ok pin : Bool) (t0 : Int), 1 ≤ n → n < 8 → i < 16 →
    let same := fun (t : State) => t.dmem = s.dmem ∧ t.code = s.code ∧ t.cram = s.cram ∧ t.otp = s.otp ∧ t.ports = s.ports
    let shows := fun (t : State) (st : Nat) => t.rd PWS_EXIT_LAST = BitVec.ofNat 24 (min 0xFFFFFF ((s.atBoundary t0).toNat / 800)) ∧
      (exitLatency st * 800 < (s.atBoundary t0).toNat → t.raised PWS_EXIT_LATE 0xFF)
    (s.boot.running = true → s.pwState ≠ 3 → s.mayDoze n = true → s.dwelt n = true → s.tileWakes n = false → (s.tile n).dozed = false →
      Completes (.dozeEntry n) s fun t => same t ∧ (t.tile n).dozed = true ∧ (t.tile n).waking = none ∧ t.pwState = 2 ∧
        (t.core (16 * n + i)).asleep = true ∧ (t.core (128 + n)).asleep = true ∧
        (t.getF PWS_STAT PWS_STAT_DOZED).testBit (n - 1) = true ∧ (t.getF PKG_TILE_STAT PKG_TILE_STAT_RUN).testBit n = false) ∧
    ((s.tile n).dozed = true → (s.tile n).waking = none → s.pwState ≠ 3 → s.tileWakes n = true → Completes (.dozeWakeEvent n cyc) s fun t =>
      Leaves s t [] ∧ t.ports = s.ports ∧ t.cores = s.cores ∧ t.tile n = { s.tile n with waking := some (-(cyc : Int)) } ∧ ∀ m, m ≠ n → t.tile m = s.tile m) ∧
    ((s.tile n).dozed = true → (s.tile n).waking = some t0 → s.mer.phase = .guard → 264000 ≤ s.atBoundary t0 → Completes (.dozeExit n) s fun t =>
      same t ∧ (t.tile n).dozed = false ∧ (t.core (16 * n + i)).asleep = false ∧ (t.getF PKG_TILE_STAT PKG_TILE_STAT_RUN).testBit n = true ∧
      (t.getF PWS_STAT PWS_STAT_DOZED).testBit (n - 1) = false ∧ shows t 2) ∧
    (s.boot.running = true → s.pwState ≠ 3 → s.pws.entry = 0 → s.mayLull = true → s.dwelt 8 = true → (∀ m, m < 8 → s.tileWakes m = false) →
      Completes (.lullEntry ok) s fun t => Leaves s t [PWS_STAT, REC_STAT2] ∧ t.ports = s.ports ∧ t.cores = s.cores ∧ t.pws.entry = 1 ∧
        t.flag PWS_STAT PWS_STAT_ENTERING = true ∧ t.rcd.flushing = true) ∧
    (s.boot.running = true → s.pwState ≠ 3 → s.pws.entry = 1 → s.mer.phase = .guard → s.entryQuiet = true → Completes (.lullEntry ok) s fun t =>
      same t ∧ t.pwState = 3 ∧ t.period = 80000 ∧ t.budget = 0 ∧ t.mer.runN = s.period ∧ (t.tile n).dozed = true ∧ t.pws.entry = 0 ∧
      t.flag PWS_STAT PWS_STAT_ENTERING = false ∧ t.mer.rate = none ∧ t.mer.annRate = none ∧
      (s.mer.rate.isSome = true ∨ s.mer.annRate.isSome = true ∨ s.switch.isSome = true → t.raised PWS_ENTRY_CANCEL 0xFF)) ∧
    (s.pwState = 3 → s.pws.waking = none → s.pws.entry = 0 → ((pin = true ∧ s.pws.wakePin = false) ∨ s.lullWakes = true) →
      Completes (.lullWakeEvent pin cyc) s fun t => t = { s with pws := { s.pws with waking := some (-(cyc : Int)), wakePin := pin || s.pws.wakePin } }) ∧
    (s.pwState ≠ 3 → s.pws.entry = 1 → pin = true → s.pws.wakePin = false → Completes (.lullWakeEvent pin cyc) s fun t =>
      Leaves s t [PWS_STAT] ∧ t.pws.entry = 0 ∧ t.flag PWS_STAT PWS_STAT_ENTERING = false ∧ t.pwState = s.pwState) ∧
    (s.pws.waking = some t0 → s.pwState = 3 → s.mer.phase = .guard → 1120000 ≤ s.atBoundary t0 → s.mer.runN < 2 ^ 17 → Completes .lullExit s fun t =>
      (s.age.again = false → same t) ∧ t.pwState = s.awake ∧ t.period = s.mer.runN ∧ t.pws.waking = none ∧ (t.tile n).dozed = false ∧ shows t 3) ∧
    (s.pwState = 3 → s.boot.running = true → s.pws.entry = 0 → s.mayKeep = true → s.dwelt 9 = true → s.pws.waking = none →
      Completes (.keeperEntry ok) s fun t => same t ∧ t.pws.entry = 2 ∧ t.flag PWS_STAT PWS_STAT_ENTERING = true ∧ t.rcd.flushing = true) ∧
    (s.pwState = 3 → s.boot.running = true → s.pws.entry = 2 → s.entryQuiet = true → Completes (.keeperEntry ok) s fun t =>
      t.pws.keeper = true ∧ t.boot.running = false ∧ t.otp = s.otp ∧ t.flash = s.flash ∧ ∀ k, k < 4 → t.rd (PWS_KEEP k) = s.rd (PWS_KEEP k)) ∧
    (s.pws.keeper = true → Completes .keeperWake s fun t => t.pws.keeper = false ∧ t.flag PWS_STAT PWS_STAT_KWAKE = true ∧ t.boot.kind = 1 ∧
      t.boot.running = false ∧ t.otp = s.otp ∧ t.flash = s.flash ∧ ∀ k, k < 4 → t.rd (PWS_KEEP k) = s.rd (PWS_KEEP k))

/-- R235, R238 to R265: LINK_SLOT, MARKER_CELL, ECHO_CELL, ALARM_CELL, ALARM_FOLD_BACK, ACK_IDLE_SEND, TRP_CTL_WRITE. -/
def Obligations.LinkSlotsAndMarkers : Prop :=
  ∀ (s : State) (a : Arr) (l j q cyc gap : Nat) (m : Marker) (c : Cell) (t2 : Int) (w : Word), l < 6 → a.port < 21 →
    (s.linkUp l = true → s.carries l = true → j < s.slots l →
      (j = 0 → Completes (.linkSlot l j) s fun t => Leaves s t [] ∧ (t.link l).out = some (.marker (s.markerOf l)) ∧ (t.link l).almAck = none ∧
        (t.link l).delim = some .k27_7 ∧ (t.link l).ctl = (s.link l).ctl ∧ ∀ k, k ≠ l → t.link k = s.link k) ∧
      (2 ≤ j → s.slotPick l j = none → Completes (.linkSlot l j) s fun t => Leaves s t [] ∧ t.link l = { s.link l with out := some .idle, delim := some .k28_5 }) ∧
      (2 ≤ j → ∀ x, s.slotPick l j = some x → x.fwd = true → Completes (.linkSlot l j) s fun t => Leaves s t [] ∧
        (t.link l).out = some (.cell (x.c.sealed x.bad)) ∧ (t.link l).ctl = (s.link l).ctl.erase x ∧ (t.link l).shared = (s.link l).shared.erase x)) ∧
    (s.linkEn l = true → s.linkDown l = false → s.isRing = false → m.crcOk = true → Completes (.markerCell l m t2 gap cyc) s fun t =>
      t.dmem = s.dmem ∧ t.ports = s.ports ∧ t.flag (TRP_LNK_STAT l) TRP_LNK_STAT_PARTNER_ALIGNED = m.aligned ∧ (t.link l).rx2 = t2 ∧
      t.rd (TRP_LNK_DLY l) = word ((t2 + m.rx) / 2) ∧ t.rd (TRP_LNK_OFS l) = word ((m.rx - t2) / 2 + (s.rd (TRP_LNK_ASYM l)).toInt) ∧
      t.getF TRP_SYS TRP_SYS_HOPS = (m.hops + 1) % 256 ∧ t.trp.upN = m.n ∧ t.mer.count = s.mer.count ∧
      (m.sysEpoch < 256 → t.getF TRP_SYS TRP_SYS_SYS_EPOCH = m.sysEpoch ∧
        (m.sysEpoch ≠ s.getF TRP_SYS TRP_SYS_SYS_EPOCH → t.flag TRP_ADDR TRP_ADDR_VALID = false))) ∧
    (s.linkEn l = true → s.linkDown l = true → m.crcOk = true → Completes (.echoCell l m t2 cyc) s fun t => Leaves s t [TRP_LNK_STAT l] ∧
      t.ports = s.ports ∧ (t.link l).rx4 = t2 ∧ t.flag (TRP_LNK_STAT l) TRP_LNK_STAT_PARTNER_ALIGNED = m.aligned ∧
      (s.linkUp l = true → t.linkState l = if m.lull then 3 else 2)) ∧
    (s.linkEn l = true → m.crcOk = false →
      (s.linkDown l = false → s.isRing = false → Completes (.markerCell l m t2 gap cyc) s fun t => Leaves s t [TRP_LNK_ERR l] ∧ t.raised TRP_CRC l) ∧
      (s.linkDown l = true → Completes (.echoCell l m t2 cyc) s fun t => Leaves s t [TRP_LNK_ERR l] ∧ t.raised TRP_CRC l)) ∧
    (s.linkEn l = true → s.linkDown l = true → c.crcOk = true → Completes (.alarmCell l c cyc) s fun t => Leaves s t [] ∧
      t.trp.recv = s.trp.recv ++ alarmEntries c.payload s.mer.count ∧ (t.link l).almAck = some c.seq) ∧
    (s.carries l = true → c.crcInv = true → ∀ x ∈ [Instr.idleCell l c cyc, .answerCell l c cyc, .alarmCell l c cyc, .recCell l c cyc, .shareCell l c cyc],
      Completes x s fun t => Leaves s t [] ∧ t.trp = s.trp ∧ t.links = s.links) ∧
    (s.carries l = true → c.crcOk = false → c.crcInv = false → classOf c.ty = 2 → ∀ k, s.cellRoute l c = [k] → (s.link k).ctl.length < 32 →
      Completes (.answerCell l c cyc) s fun t => Leaves s t [TRP_LNK_ERR l] ∧ t.raised TRP_CRC l ∧
        (t.link k).ctl = (s.link k).ctl ++ [⟨{ c with rights := c.rights &&& s.rightsOf (6 + l) }, true, s.mer.count, cyc, true⟩]) ∧
    (s.carries l = true → c.crcOk = true → s.addressed = true → c.bcast = false → c.dst ≠ s.myAddr → c.ty = 3 → (∀ k, Tab.get none s.trp.route c.dst = some k → s.linkUp k = false) →
      s.upLink ∈ [none, some l] → ∀ k, s.routeTo c.src = some k → (s.link k).ctl.length < 32 → ∀ x ∈ [Instr.cmdRead l c cyc, .cmdWrite l c cyc],
      Completes x s fun t => Leaves s t [] ∧ t.dmem = s.dmem ∧ Queues s t k (s.number (s.cellOf 4 c.src [BitVec.ofNat 24 (c.seq * 4096 + 7)])).1 false cyc) ∧
    (∀ x, s.trp.sent.find? (fun y => y.1 == q) = some x → 16 ≤ (s.mer.count + 2 ^ 48 - x.2.1) % 2 ^ 48 → Completes (.alarmFoldBack q) s fun t =>
      Leaves s t [TRP_ALM_FOLD] ∧ t.trp.fold = x.2.2.foldl foldIn s.trp.fold ∧ (∀ y ∈ t.trp.sent, y.1 ≠ q)) ∧
    (∀ x m', s.stream q = some x → x.owed = true → s.routeTo q = some m' → (s.link m').ctl.length < 32 → Completes (.ackIdleSend q cyc) s fun t =>
      Leaves s t [] ∧ Queues s t m' (s.cellOf 0 q []) false cyc) ∧
    (s.admitsPut a TRP_CTL w = true → TRP_CTL_RESURVEY.get w = 0 → TRP_CTL_THRU.get w < 6 → s.isRing = true → Completes (.trpCtlWrite a w) s fun t =>
      (∀ f ∈ [TRP_CTL_EN, TRP_CTL_DOWN, TRP_CTL_THRU, TRP_CTL_AUTO_LINK], t.getF TRP_CTL f = f.get w) ∧ t.trp = s.trp ∧ t.ports = s.ports ∧
      ((TRP_CTL_EN.get w).testBit l = false → s.linkEn l = true → t.linkState l = 0) ∧
      ((TRP_CTL_EN.get w).testBit l = true → s.linkEn l = false → t.linkState l = 1) ∧
      ((TRP_CTL_EN.get w).testBit l = true → s.linkEn l = true → t.linkState l = s.linkState l))

/-- R255, R264 to R272: the SURVEY_ rows, TRP_RESURVEY, MEASURE_COMPLETE, LINK_TRAINED, LINK_DOWN. -/
def Obligations.SurveyRules : Prop :=
  ∀ (s : State) (a : Arr) (l ms cyc : Nat) (c : Cell), l < 6 → a.port < 21 →
    let started := fun (t : State) => t.trp.mapEpoch = (s.trp.mapEpoch + 1) % 256 ∧ t.getF TRP_SYS TRP_SYS_SYS_EPOCH = (s.trp.mapEpoch + 1) % 256 ∧
      t.flag TRP_SURVEY TRP_SURVEY_RUN = true ∧ t.flag TRP_SURVEY TRP_SURVEY_DONE = false ∧ t.dmem = s.dmem ∧ t.ports = s.ports ∧
      (∀ m ∈ t.trp.map, m.path ≠ [] → m.cur = false ∧ m.done = false) ∧
      t.flag TRP_ADDR TRP_ADDR_VALID = true ∧ t.myAddr = 0 ∧ t.rd FUS_STG_ADDR = 0x4000 ∧
      ∃ m ∈ t.trp.map, m.path = [] ∧ m.uid = s.trp.uid ∧ m.role = 2 ∧ t.myEpoch = m.epoch % 256 ∧
        ∀ e, s.trp.map.find? (fun x => x.path == []) = some e → m.epoch = e.epochFor s.trp.uid 2
    let head := fun (t : State) => (t.link l).head
    (s.isRing = true → Completes (.surveyStart cyc) s started) ∧
    (s.isRing = true → s.getF TRP_CTL TRP_CTL_THRU < 6 → s.admitsField a TRP_CTL TRP_CTL_RESURVEY 1 = true → Completes (.trpResurvey a) s started) ∧
    (s.carries l = true → c.crcOk = true →
      (s.upLink = some l → (s.link l).ctl.length < 32 →
        (s.sstate = 1 → Completes (.surveyDiscover l c cyc) s fun t => Leaves s t [] ∧
          Queues s t l (s.surveyCell 1 0 0 s.trp.uid c.svPath 0x3FFF) false cyc) ∧
        (2 ≤ s.sstate → s.sstate ≠ 6 → s.linkUp s.thru = false → Completes (.surveyDiscover l c cyc) s fun t => Leaves s t [] ∧
          Queues s t l (s.surveyCell 2 0 0 0 c.svPath 0x3FFF) false cyc) ∧
        (s.sstate = 1 → Completes (.surveyAssign l c cyc) s fun t => Leaves s t [TRP_ADDR, TRP_STAT, FUS_STG_ADDR] ∧ t.sstate = 3 ∧ t.role = 1 ∧
          t.myAddr = c.svAddr % 2 ^ 14 ∧ t.myEpoch = c.svEpoch % 256 ∧ t.flag TRP_ADDR TRP_ADDR_VALID = true ∧ t.trp.path = c.svPath ∧
          Queues s t l (t.surveyCell 1 0 0 s.trp.uid c.svPath 0x3FFF) false cyc)) ∧
      (∀ h, s.headLinks.contains l = true → head s = some h →
        (h.phase = 0 → s.isRing = false → s.getF TRP_SYS TRP_SYS_HOPS + h.pos ≤ 64 → h.pos ≤ 32 → Completes (.surveyFound l c cyc) s fun t =>
          head t = some { h with uid := c.svUid, phase := 1, again := false } ∧ t.dmem = s.dmem) ∧
        (h.phase = 0 → s.isRing = true → s.getF TRP_SYS TRP_SYS_HOPS + h.pos ≤ 64 → h.pos ≤ 32 → ∀ x, (s.assign (s.headPath l) c.svUid).2 = some x →
          Completes (.surveyFound l c cyc) s fun t => head t = some { h with uid := c.svUid, phase := 2, again := false, addr := x.1, epoch := x.2 } ∧
            Tab.get none t.trp.route x.1 = some l ∧ ∃ m ∈ t.trp.map, m.path = s.headPath l ∧ m.uid = c.svUid ∧ m.addr = x.1 ∧ m.epoch = x.2 ∧ m.role = 1) ∧
        (h.phase = 0 → (64 < s.getF TRP_SYS TRP_SYS_HOPS + h.pos ∨ 32 < h.pos) → Completes (.surveyFound l c cyc) s fun t =>
          Leaves s t [] ∧ head t = some { h with phase := 4 } ∧ t.raised TRP_TOPOLOGY l) ∧
        (Completes (.surveyEnd l c ms cyc) s fun t => Leaves s t [TRP_SURVEY, TRP_SURVEY_TIME] ∧ head t = some { h with phase := 4 }) ∧
        (h.addr = c.svAddr → h.phase = 3 → h.pos ≤ 32 → Completes (.surveyDone l c ms cyc) s fun t =>
          head t = some { h with pos := h.pos + 1, phase := 0, again := false } ∧ t.getF (TRP_LNK_LEN l) TRP_LNK_LEN_LEN = h.pos)) ∧
      (s.isRing = true → Completes (.surveyDone l c ms cyc) s fun t => ∀ m ∈ t.trp.map, m.addr = c.svAddr → m.done = true) ∧
      (s.isRing = true → ∀ x, (s.assign c.svPath c.svUid).2 = some x → Completes (.surveyAssignReq l c cyc) s fun t =>
        Leaves s t [TRP_SURVEY] ∧ Tab.get none t.trp.route x.1 = some l ∧
        ∃ m ∈ t.trp.map, m.path = c.svPath ∧ m.uid = c.svUid ∧ m.addr = x.1 ∧ m.epoch = x.2 ∧ m.role = 1) ∧
      (s.isRing = true → (s.assign c.svPath c.svUid).2 = none → ∀ m, s.routeTo c.src = some m → (s.link m).ctl.length < 32 →
        Completes (.surveyAssignReq l c cyc) s fun t => Leaves s t [] ∧ t.trp.map = s.trp.map ∧
          Queues s t m (s.surveyCell 6 0 0 c.svUid c.svPath c.src) false cyc) ∧
      ((s.addressed && c.dst == s.myAddr) = true → ∀ m, (s.headLinks.find? fun k =>
          (((s.link k).head).map fun h => h.phase == 1 && h.uid == c.svUid).getD false) = some m →
        (c.svAddr = 0 → Completes (.surveyAssignAck l c cyc) s fun t => Leaves s t [] ∧ t.raised TRP_TOPOLOGY m ∧
          ∃ h, (t.link m).head = some h ∧ h.phase = 4) ∧
        (c.svAddr ≠ 0 → Completes (.surveyAssignAck l c cyc) s fun t => Leaves s t [] ∧ Tab.get none t.trp.route c.svAddr = some m ∧
          ∃ h, (t.link m).head = some h ∧ h.phase = 2 ∧ h.uid = c.svUid ∧ h.addr = c.svAddr ∧ h.epoch = c.svEpoch)) ∧
      ((s.addressed && c.dst == s.myAddr) = false → c.svAddr ≠ 0 → ∀ m, Tab.get none s.trp.route c.dst = some m → Completes (.surveyAssignAck l c cyc) s fun t =>
        t.dmem = s.dmem ∧ Tab.get none t.trp.route c.svAddr = some m)) ∧
    (∀ h, head s = some h → h.phase = 0 →
      (h.again = false → Completes (.surveyTimeout l ms cyc) s fun t => Leaves s t [] ∧ head t = some { h with again := true }) ∧
      (h.again = true → Completes (.surveyTimeout l ms cyc) s fun t => Leaves s t [TRP_SURVEY, TRP_SURVEY_TIME] ∧
        head t = some { h with phase := 5, again := false } ∧ t.raised TRP_SURVEY_GAP_SRC l ∧ t.flag TRP_SURVEY TRP_SURVEY_GAP = true)) ∧
    (∀ h, head s = some h → h.phase = 5 → (s.link l).ctl.length < 32 → Completes (.surveyGapProbe l cyc) s fun t => Leaves s t [] ∧
      Queues s t l (s.surveyCell 0 0 0 0 (s.headPath l) 0x3FFF) false cyc) ∧
    (s.sstate = 3 → s.adoptRefused = false → Completes (.measureComplete cyc) s fun t =>
      t = { s with trp := { s.trp with measured := true, adopt := none } }) ∧
    (s.sstate = 3 → s.adoptRefused = true → Completes (.measureComplete cyc) s fun t =>
      t.sstate = 5 ∧ t.getF MER_CTL MER_CTL_SRC = 0 ∧ t.raised TRP_RATE_REFUSED 0xFF) ∧
    (s.linkEn l = true → Completes (.linkTrained l) s fun t => Leaves s t [TRP_LNK_STAT l, TRP_STAT] ∧ t.linkState l = 2 ∧
      (s.upLink = some l → (s.sstate = 0 ∨ s.sstate = 6) → t.sstate = 1)) ∧
    (s.linkUp l = true → Completes (.linkDown l cyc) s fun t => Leaves s t [TRP_LNK_STAT l, TRP_STAT] ∧ t.linkState l = 4 ∧ t.raised TRP_LINK_DOWN l ∧
      (s.upLink = some l → (s.sstate = 4 ∨ s.sstate = 5 → t.sstate = 6) ∧ (s.sstate = 1 ∨ s.sstate = 3 → t.sstate = 0)))

/-- R32, R246 to R256, R271, R290, R297, R377, R430: IDLE_CELL, ANSWER_CELL, REC_CELL, LOG_CELL, TLM_CELL, RESULT_CELL, SHARE_CELL, QUERY_CELL,
CMD_READ, CMD_WRITE, BULK_CELL. -/
def Obligations.DeliveredCells : Prop :=
  ∀ (s : State) (l cyc m : Nat) (c : Cell) (r : Loc) (w : Word), l < 6 → s.delivers l c = true →
    let acks := fun (t : State) => c.ackv = true → Tab.get none t.trp.acks c.src = some c.ack
    let kept := fun (t : State) => Leaves s t [] ∧ t.ports = s.ports ∧ acks t ∧ t.trp.inbox = s.trp.inbox ++ [c] ∧ ((t.core 128).sreg 3).getLsbD 4 = true
    let fresh := (s.streamIn c).2 = 0
    let rights := c.rights &&& s.rightsOf (6 + l)
    (Completes (.idleCell l c cyc) s fun t => Leaves s t [] ∧ t.cores = s.cores ∧ t.ports = s.ports ∧ acks t ∧ (c.ackv = false → t.trp = s.trp)) ∧
    Completes (.answerCell l c cyc) s kept ∧
    (fresh → Completes (.recCell l c cyc) s (fun t => kept t ∧ t.flt.conc = s.flt.conc ++
        (s.ownKeys.filter fun k => s.concurrentFar k (keyOfRecord c.payload)).map fun k => (k, keyOfRecord c.payload)) ∧ Completes (.logCell l c cyc) s kept ∧ (s.isRing = false → Completes (.tlmCell l c cyc) s kept) ∧
      (s.mgt.relay = [] → Completes (.resultCell l c cyc) s kept)) ∧
    (¬ fresh → ∀ x ∈ [Instr.recCell l c cyc, .logCell l c cyc, .tlmCell l c cyc, .resultCell l c cyc], Completes x s fun t =>
      Leaves s t [] ∧ t.cores = s.cores ∧ acks t ∧ t.trp.inbox = s.trp.inbox) ∧
    (fresh → c.epoch = s.myEpoch → s.flag TRP_SHR_IN TRP_SHR_IN_EN = true → Completes (.shareCell l c cyc) s fun t => Leaves s t [] ∧
      let b := (s.getF TRP_SHR_IN TRP_SHR_IN_BASE + (c.payload.headD 0).toNat % 16) % 65536
      (t.tile (s.getF TRP_SHR_IN TRP_SHR_IN_TILE)).cramBuf = (s.tile (s.getF TRP_SHR_IN TRP_SHR_IN_TILE)).cramBuf ++
        [(b, c.payload.getD 1 0), ((b + 16) % 65536, if (c.payload.headD 0).getLsbD 23 then 1 else 0)]) ∧
    (c.epoch ≠ s.myEpoch → ∀ x ∈ [Instr.shareCell l c cyc, .queryCell l c cyc, .cmdRead l c cyc, .cmdWrite l c cyc], Completes x s fun t =>
      t.raised TRP_ROLE_STALE 0xFF ∧ (t.rd TRP_STALE_CNT).toNat = min 16777215 ((s.rd TRP_STALE_CNT).toNat + 1) ∧ t.dmem = s.dmem ∧ t.ports = s.ports) ∧
    (c.epoch = s.myEpoch → s.routeTo c.src = some m → (s.link m).ctl.length < 32 →
      ((∀ x ∈ queryAddrs c.payload, mayRead rights x = true) → Completes (.queryCell l c cyc) s fun t => Leaves s t [] ∧ acks t ∧
        Queues s t m (s.cellOf 6 c.src (s.answerWords (queryAddrs c.payload))) false cyc) ∧
      (fresh → r.ok = true → r.readsPlain = true → (∀ p o, r = .port p o → (s.port p).envPend = []) → c.payload = [0x010000, BitVec.ofNat 24 r.addr] →
        s.admits { who := .cell c, port := 6 + l, rights := rights, write := false, words := [(r.addr, 0)] } = true →
        Completes (.cmdRead l c cyc) s fun t => Leaves s t [] ∧ acks t ∧
          Queues s t m (s.number (s.cellOf 4 c.src [BitVec.ofNat 24 (c.seq * 4096), s.rd r])).1 false cyc) ∧
      (fresh → r.ok = true → r.writesPlain = true → s.legalWord r w = true → c.payload = [0x110000, BitVec.ofNat 24 r.addr, w] →
        s.admits { who := .cell c, port := 6 + l, rights := rights, write := true, words := [(r.addr, w)] } = true →
        Completes (.cmdWrite l c cyc) s fun t => Leaves s t [r] ∧ t.rd r = s.mergedWord r w)) ∧
    (fresh → holds rights clsMaintain = true → (c.payload.getD 1 0).toNat / 2 ^ 16 / 2 % 2 = 1 → ∀ ok : Bool,
      Completes (.bulkCell l c ok cyc) s fun t => acks t ∧ t.dmem = s.dmem ∧ t.ports = s.ports ∧
        let x := (s.imageBytes (c.payload.headD 0).toNat (bulkBytes c.payload) ok cyc).1
        t.flash = x.flash ∧ t.upd = x.upd)

/-- R276 to R287: CAP_PIN_ASSERT, CAP_PIN_RELEASE, CAP_LOCAL_WRITE, WAVE_SEND, WAVE_PERIODIC_SET, SHED_APPLY, SHED_RELEASE, SHED_SET,
WAVE_APPLY. -/
def Obligations.CappingRules : Prop :=
  ∀ (s : State) (a : Arr) (w : Word) (l op ent mask cyc : Nat) (c : Cell) (v : Wave) (arrived : Bool), a.port < 21 → l < 6 →
    let settled := fun (t : State) => t.getF CAP_REQ CAP_REQ_MASK = t.capEntries % 65536 ∧
      (∀ r, r < 16 → t.rd (PHS_RAIL_CAPLIM r) = t.capLimit t.capEntries r) ∧ t.dmem = s.dmem ∧ t.cores = s.cores ∧ t.ports = s.ports ∧ t.otp = s.otp
    let ordered := fun (op ent mask : Nat) (t : State) => t.cap.nextWid = (s.cap.nextWid + 1) % 4096 ∧
      ∃ x, t.cap.sched = s.cap.sched ++ [(x, false)] ∧ x.wid = s.cap.nextWid ∧ x.op = op ∧ (op = 2 → x.mask = mask) ∧ (op ≠ 2 → x.ent = ent)
    (s.cap.pin = false → Completes (.capPinAssert cyc) s fun t => settled t ∧ t.cap.pin = true ∧ t.cap.armed = s.getF CAP_ARM CAP_ARM_ENT ∧
      t.raised CAP_PIN 0xFF ∧ t.flag CAP_STAT CAP_STAT_PIN = s.flag CAP_CTL CAP_CTL_PIN_EN) ∧
    (s.cap.pin = true → Completes .capPinRelease s fun t => settled t ∧ t.cap.pin = false ∧ t.flag CAP_STAT CAP_STAT_PIN = false) ∧
    (s.admitsPut a CAP_LOCAL w = true → Completes (.capLocalWrite a w) s fun t => settled t ∧ t.getF CAP_LOCAL CAP_LOCAL_MASK = CAP_LOCAL_MASK.get w) ∧
    (op ≤ 2 → ent < 16 → mask < 65536 → s.isRing = true →
      s.admitsPut a CAP_WV_CMD (CAP_WV_CMD_SEND.put (CAP_WV_CMD_OP.put (CAP_WV_CMD_ENT.put (CAP_WV_CMD_MASK.put 0 mask) ent) op) 1) = true →
      Completes (.waveSend a op ent mask) s fun t => Leaves s t [CAP_WV_CMD] ∧ ordered op ent mask t) ∧
    (s.isRing = true → Completes .wavePeriodicSet s fun t => Leaves s t [] ∧ ordered 2 0 (s.getF CAP_WV_MASK CAP_WV_MASK_MASK) t) ∧
    (op ≤ 2 → s.linkEn l = true → s.upLink = some l → c.crcOk = true → c.bcast = true → c.ty < 0xE → (c.payload.headD 0).toNat / 2 ^ 22 = op →
      let x := if op = 0 then Instr.shedApply l c cyc else if op = 1 then .shedRelease l c cyc else .shedSet l c cyc
      let k := (c.payload.headD 0).toNat
      let at_ := join48 (c.payload.getD 2 0) (c.payload.getD 3 0)
      ((c.rights &&& s.rightsOf (6 + l)).testBit 1 = false → Completes x s fun t => t.raised CAP_WAVE_RIGHTS l ∧ t.cap = s.cap ∧ t.dmem = s.dmem) ∧
      ((c.rights &&& s.rightsOf (6 + l)).testBit 1 = true → s.cap.seen.contains (k % 4096, at_) = false → Completes x s fun t => t.dmem = s.dmem ∧
        t.cap.sched = s.cap.sched ++ [(⟨k % 4096, op, k / 2 ^ 18 % 16, (c.payload.getD 1 0).toNat % 2 ^ 16, at_⟩,
          !s.flag TRP_STAT TRP_STAT_ALIGNED || inPast at_ s.mer.count)] ∧ (k % 4096, at_) ∈ t.cap.seen) ∧
      (s.cap.seen.contains (k % 4096, at_) = true → (c.rights &&& s.rightsOf (6 + l)).testBit 1 = true → Completes x s fun t => t.cap = s.cap)) ∧
    (s.cap.sched = [(v, arrived)] → (arrived = true ∨ inPast v.at_ (s.waveTickOf false) = true) → v.ent < 16 → v.mask < 65536 → Completes (.waveApply cyc) s fun t =>
      settled t ∧ t.cap.sched = [] ∧ t.rdPair CAP_WV_AT_LO CAP_WV_AT_HI = v.at_ % 2 ^ 48 ∧
      t.getF CAP_WV_MASK CAP_WV_MASK_MASK = (let m := s.getF CAP_WV_MASK CAP_WV_MASK_MASK
        if v.op = 0 then m ||| 2 ^ v.ent else if v.op = 1 then m &&& (65535 - 2 ^ v.ent) else v.mask) ∧
      (s.flag TRP_STAT TRP_STAT_ALIGNED = false → t.raised CAP_WAVE_UNALIGNED 0xFF) ∧
      (s.flag TRP_STAT TRP_STAT_ALIGNED = true → arrived = true → t.raised CAP_WAVE_LATE 0xFF))

/-- R201 to R210, R217, R497: STRING_INSERTION, STRING_REMOVAL, REST_CORRECTION, END_OF_CHARGE, END_OF_DISCHARGE, STRING_RECORD_WRITE,
STRING_RECORD_WRITE_DONE. -/
def Obligations.StringEvents : Prop :=
  ∀ (s : State) (u cyc : Nat) (ok : Bool), u < 32 →
    let p := s.strPort u
    let bit := fun (t : State) (f : Fld) => t.flag (BAT_STAT u) f
    let still := fun (t : State) => t.ports = s.ports ∧ t.cores = s.cores ∧ ∀ v, v ≠ u → t.str v = s.str v
    (s.estimates u = true → s.strPres u = false → perSecond ≤ (s.str u).above → Completes (.stringInsertion u cyc) s fun t =>
      Leaves s t [BAT_STAT u, BAT_SOC u, BAT_QFULL u, BAT_RES u] ∧ still t ∧ bit t BAT_STAT_PRES = true ∧ bit t BAT_STAT_CONF = false ∧
      t.raised (stringSrc u BAT_INSERTED) p ∧ (t.str u).run = false ∧ (t.str u).atBoot = false ∧ (t.str u).fresh = s.inHold ∧
      t.rd (BAT_QFULL u) = (if s.flag (BAT_CTL u) BAT_CTL_KEEP || (s.str u).atBoot then s.rd (BAT_QFULL u) else s.rd (BAT_QNOM u))) ∧
    (s.estimates u = true → s.strPres u = true → 64 ≤ (s.str u).below → Completes (.stringRemoval u cyc) s fun t => Leaves s t [BAT_STAT u] ∧ still t ∧
      (∀ f ∈ [BAT_STAT_PRES, BAT_STAT_CONF, BAT_STAT_EOC, BAT_STAT_EOD], bit t f = false) ∧ t.raised (stringSrc u BAT_REMOVED) p ∧
      (t.str u).writing.isSome = true) ∧
    (s.estimates u = true → s.strPres u = true → bit s BAT_STAT_REST = false → (s.rd (BAT_TREST u)).toNat * perSecond ≤ (s.str u).rest →
      s.rd (BAT_QFULL u) ≠ 0 → Completes (.restCorrection u cyc) s fun t => Leaves s t [BAT_STAT u, BAT_SOC u] ∧ still t ∧ bit t BAT_STAT_REST = true ∧
        (∀ soc, s.strSocOcv u = some soc → (t.str u).q = soc * s.strFull u / 2 ^ 23 ∧ bit t BAT_STAT_CONF = true) ∧
        (s.strSocOcv u = none → t.str u = s.str u ∧ t.raised (stringSrc u BAT_OCV_ORDER) p)) ∧
    (s.estimates u = true → s.strPres u = true → s.rd (BAT_QFULL u) ≠ 0 →
      (s.inHold = false → 0 < s.strI u → s.strI u < s.taper u (s.getF (BAT_EOC u) BAT_EOC_DIV) → (s.rd (BAT_VEOC u)).toInt ≤ s.strV u →
        heldFor (s.getF (BAT_EOC u) BAT_EOC_TIME) (s.str u).eoc = true →
        Completes (.endOfCharge u) s fun t => Leaves s t [BAT_STAT u, BAT_SOC u] ∧ still t ∧ (t.str u).q = s.strFull u ∧ (t.str u).run = true ∧ (t.str u).eoc = none ∧
          t.rd (BAT_SOC u) = 0x7FFFFF ∧ bit t BAT_STAT_EOC = true ∧ bit t BAT_STAT_CONF = true ∧ (t.str u).writing.isSome = true) ∧
      (s.strI u < 0 → -(s.taper u (s.getF (BAT_EOD u) BAT_EOD_DIV)) < s.strI u → s.strV u ≤ (s.rd (BAT_VEOD u)).toInt →
        heldFor (s.getF (BAT_EOD u) BAT_EOD_TIME) (s.str u).eod = true →
        Completes (.endOfDischarge u cyc) s fun t => Leaves s t [BAT_STAT u, BAT_SOC u, BAT_QFULL u] ∧ still t ∧ (t.str u).q = 0 ∧ (t.str u).run = false ∧ (t.str u).eod = none ∧
          (0 ≤ (s.rd (BAT_SOCMIN u)).toInt → (s.rd (BAT_SOCMIN u)).toInt < (s.rd (BAT_SOC u)).toInt → t.raised (stringSrc u BAT_EMPTY) p) ∧
          t.rd (BAT_SOC u) = 0 ∧ bit t BAT_STAT_EOD = true ∧ bit t BAT_STAT_CONF = true ∧ (t.str u).writing.isSome = true ∧
          ((s.str u).run = false → t.rd (BAT_QFULL u) = s.rd (BAT_QFULL u)))) ∧
    ((s.str u).writing = none → Completes (.stringRecordWrite u) s fun t => Leaves s t [BAT_STAT u] ∧ still t ∧ bit t BAT_STAT_NVM_BUSY = true ∧
      ∃ r, (t.str u).writing = some r ∧ r.qfull = s.rd (BAT_QFULL u) ∧ r.res = s.rd (BAT_RES u) ∧ r.cyc = s.rd (BAT_CYC u) ∧ r.hours = s.rcd.hours) ∧
    (∀ r, (s.str u).writing = some r →
      (Completes (.stringRecordWrite u) s fun t => Leaves s t [] ∧ still t ∧ t.str u = { s.str u with again := true }) ∧
      ((s.str u).again = false → Completes (.stringRecordWriteDone u ok cyc) s fun t => Leaves s t [BAT_STAT u] ∧ still t ∧
        (t.str u).writing = none ∧ bit t BAT_STAT_NVM_BUSY = false ∧
        (ok = true → (t.str u).copies.a = some (sealCopy StrRec.words r) ∨ (t.str u).copies.b = some (sealCopy StrRec.words r)) ∧
        (ok = false → t.raised (stringSrc u BAT_NVM_ERR) p ∧ (t.str u).copies = (s.str u).copies)))

/-- R215, R216, R229, R336, R371, R422, R444 to R446: PFAIL_ASSERT, PFAIL_RELEASE, HOLD_ENTRY, HOLD_EXIT, ENV_SEAL_COMPLETE,
RGT_SEAL_COMPLETE, KEY_PROGRAM, KEY_REVOKE. -/
def Obligations.HoldupAndSeals : Prop :=
  ∀ (s : State) (a : Arr) (w : Word) (k : Nat), a.port < 21 → k < 4 →
    (s.hld.pinLow = false → s.boot.running = false → Completes .pfailAssert s fun t => Leaves s t [] ∧ t.hld = { s.hld with pinLow := true } ∧
      (s.flag BOOT_STAT BOOT_STAT_RECOVERY = false → t.boot.halted = true)) ∧
    (s.hld.pinLow = false → s.boot.running = true → Completes .pfailAssert s fun t => t.dmem = s.dmem ∧ t.cores = s.cores ∧ t.ports = s.ports ∧
      t.hld.asserted = true ∧ t.hld.pinLow = true ∧ t.hld.rel = none ∧ t.flag HLD_STAT HLD_STAT_PFAIL = true ∧ t.rcd.flushing = true ∧
      (s.getF UPD_STAT UPD_STAT_STATE = 5 → t.getF UPD_STAT UPD_STAT_STATE = 4) ∧
      (s.getF UPD_STAT UPD_STAT_STATE ≠ 5 → Leaves s t (HLD_STAT :: recordLocs))) ∧
    (Completes .pfailRelease s fun t => Leaves s t [HLD_STAT] ∧ t.hld = { s.hld with pinLow := false, rel := none } ∧ t.flag HLD_STAT HLD_STAT_PFAIL = false ∧
      t.flag HLD_STAT HLD_STAT_HOLD = s.flag HLD_STAT HLD_STAT_HOLD) ∧
    (s.flag HLD_CTL HLD_CTL_EN = true → s.inHold = false →
      (s.hld.asserted = true ∨ s.hld.busLow = true ∨ s.hld.due.1 = true ∨ s.hld.due.2 = true) → Completes .holdEntry s fun t =>
      Leaves s t [HLD_STAT] ∧ t.inHold = true ∧ t.hld = { s.hld with asserted := false, busLow := false, due := (false, false) } ∧
      (s.hld.asserted = true ∨ s.hld.due.1 = true → t.raised HLD_PFAIL 0xFF)) ∧
    (s.flag HLD_CTL HLD_CTL_EN = false → Completes .holdEntry s fun t =>
      t = { s with hld := { s.hld with asserted := false, busLow := false, due := (false, false) } }) ∧
    (s.inHold = true → s.hld.pinLow = false → s.released = true → Completes .holdExit s fun t => t.dmem = s.dmem ∧ t.ports = s.ports ∧
      t.inHold = false ∧ t.getF HLD_STAT HLD_STAT_LEVEL = 0 ∧ t.hld.capReq = none ∧ t.flag CAP_STAT CAP_STAT_HOLDUP = false) ∧
    (s.flag ENV_OTP_CMD ENV_OTP_CMD_SEAL = true → Completes .envSealComplete s fun t =>
      let g := s.otp.sealed
      let err := if !s.envCrcOk g then 1 else if s.envInvalid g then 2 else if s.otp.lock && s.envLooser g (g - 1) then 3 else 0
      Leaves { s with otp := t.otp } t [ENV_OTP_CMD, ENV_OTP_STAT] ∧ t.flag ENV_OTP_CMD ENV_OTP_CMD_SEAL = false ∧
      t.getF ENV_OTP_STAT ENV_OTP_STAT_ERR = err ∧ t.otp = { s.otp with sealed := if err = 0 then g + 1 else g }) ∧
    (s.flag RGT_CMD RGT_CMD_SEAL = true → Completes .rgtSealComplete s fun t => Leaves { s with otp := t.otp } t [RGT_CMD, RGT_STAT] ∧
      t.flag RGT_CMD RGT_CMD_SEAL = false ∧ t.otp = { s.otp with rightsSealed := s.otp.rightsSealed || s.mapCrcOk } ∧
      (s.mapCrcOk = false → t.flag RGT_STAT RGT_STAT_ERR = true)) ∧
    (s.admitsPut a UPD_KEY_DATA w = true →
      let x := s.getF UPD_KEY_ADDR UPD_KEY_ADDR_ADDR
      x / 16 = k → s.otp.prog.testBit k = false → Completes (.keyProgram a w) s fun t => t.dmem = s.dmem ∧ t.ports = s.ports ∧
        Tab.get 0 t.otp.keys x = Tab.get 0 s.otp.keys x ||| w ∧ (∀ y, y ≠ x → Tab.get 0 t.otp.keys y = Tab.get 0 s.otp.keys y) ∧
        t.otp.prog = (if x % 16 = 15 then s.otp.prog ||| 2 ^ k else s.otp.prog) ∧ t.otp.revoked = s.otp.revoked ∧ t.otp.env = s.otp.env) ∧
    (s.admitsPut a UPD_REVOKE (UPD_REVOKE_GO.put (UPD_REVOKE_CONFIRM.put (UPD_REVOKE_SLOT.put 0 k) 0x96) 1) = true →
      let free := k ≠ s.getF BOOT_KEY BOOT_KEY_SLOT ∧ k ≠ s.imgKey s.confSlot ∧ ∃ j, j < 4 ∧ j ≠ k ∧ s.otp.prog.testBit j = true ∧ s.otp.revoked.testBit j = false
      (free → Completes (.keyRevoke a k 0x96) s fun t => t.otp = { s.otp with revoked := s.otp.revoked ||| 2 ^ k } ∧ t.dmem = s.dmem ∧ t.ports = s.ports ∧ t.ans = (0, [])) ∧
      (¬ free → Completes (.keyRevoke a k 0x96) s fun t => t.otp = s.otp ∧ t.ans = (3, [])))

/-- R293, R294, R298 to R301: ARP_REQUEST, NEIGHBOUR_SOLICITATION, ICMP_ECHO_REQUEST, PRP_SUPERVISION_FRAME, PRP_SUPERVISION_SEND,
DUP_ENTRY_EXPIRE, COMPARE_WINDOW_END. -/
def Obligations.FramesAndCopies : Prop :=
  ∀ (s : State) (f : Frame) (ip dst id mac seq cyc p : Nat), f.path < 2 → p < 2 →
    let still := fun (t : State) (own : List Loc) => Leaves s t own ∧ t.ports = s.ports ∧ t.cores = s.cores
    let mine := fun (a : Nat) => a = s.ip6 0x1C26 ∨ a = s.linkLocal
    let both := fun (hop : Nat) (c : MFrame) => (s.noted f c).sent s.goesBy hop c
    (s.takes f = true →
      (Completes (.arpRequest f ip cyc) s fun t => still t [] ∧
        (ip = s.ip4 0x1C22 → t.mgt = both f.mac (.arp ip)) ∧ (ip ≠ s.ip4 0x1C22 → t.mgt = s.noted f (.arp ip))) ∧
      (Completes (.neighbourSolicitation f ip cyc) s fun t => still t [] ∧
        (mine ip → t.mgt = both f.mac (.neighbour ip)) ∧ (¬ mine ip → t.mgt = s.noted f (.neighbour ip))) ∧
      (Completes (.icmpEchoRequest f ip dst id cyc) s fun t => still t [] ∧
        (dst = s.ip4 0x1C22 ∨ mine dst → t.mgt = if f.rct.isSome then both (s.toward ip) (.icmp ip id)
          else (s.noted f (.icmp ip id)).sentOn f.path (s.toward ip) (.icmp ip id)) ∧
        (¬ (dst = s.ip4 0x1C22 ∨ mine dst) → t.mgt = s.noted f (.icmp ip id)))) ∧
    (∀ x ∈ [Instr.arpRequest f ip cyc, .neighbourSolicitation f ip cyc, .icmpEchoRequest f ip dst id cyc],
      ((s.pathEn f.path && s.pathLink f.path) = false → Completes x s fun t => t = s) ∧
      (s.pathEn f.path = true → s.pathLink f.path = true →
        (f.bad = true → Completes x s fun t => still t [MGT_PATH_RXERR f.path] ∧ t.mgt = s.mgt ∧ s.counts1 t (MGT_PATH_RXERR f.path)) ∧
        (f.bad = false → f.frag = true → Completes x s fun t => still t [] ∧ t.mgt = s.mgt))) ∧
    (s.pathEn f.path = true → s.pathLink f.path = true → f.bad = false → f.frag = false → f.rct = some seq →
      (∀ e c, s.mgt.dup.find? (fun e => e.mac == f.mac && e.seq == seq) = some e → e.good = some c →
        Completes (.arpRequest f ip cyc) s fun t => still t [MGT_PATH_MISM 0, MGT_PATH_MISM 1] ∧ t.mgt.tx = s.mgt.tx ∧ t.mgt.dup.length = s.mgt.dup.length ∧
          (c = .arp ip → t.rd (MGT_PATH_MISM p) = s.rd (MGT_PATH_MISM p) ∧ t.flt = s.flt) ∧
          (c ≠ .arp ip → s.counts1 t (MGT_PATH_MISM p) ∧ t.raised MGT_MISMATCH 0xFF)) ∧
      (∀ e l, s.mgt.dup = e :: l → 1023 ≤ l.length → s.mgt.dup.find? (fun e => e.mac == f.mac && e.seq == seq) = none → ip = s.ip4 0x1C22 →
        Completes (.arpRequest f ip cyc) s fun t => t.mgt.dup = (s.mgt.dup.filter fun x => !(x.mac == e.mac && x.seq == e.seq)) ++
          [⟨f.mac, seq, f.path, false, some (.arp ip)⟩] ∧ ∃ n, t.mgt.tx.getLast? = some ⟨s.goesBy, some n, f.mac, .arp ip⟩)) ∧
    (∀ e, s.mgt.dup.find? (fun e => e.mac == mac && e.seq == seq) = some e → Completes (.dupEntryExpire mac seq cyc) s fun t => still t [MGT_STAT] ∧
      t.mgt.dup = (s.mgt.dup.filter fun x => !(x.mac == e.mac && x.seq == e.seq)) ∧
      let o := 1 - e.path
      let n := Tab.get 0 s.mgt.miss o + 1
      ((e.both || !s.doubly e.mac) = true → t.mgt.miss = s.mgt.miss ∧ t.rd MGT_STAT = s.rd MGT_STAT) ∧
      (e.both = false → s.doubly e.mac = true → Tab.get 0 t.mgt.miss o = n ∧
        (n < s.getF MGT_CMP MGT_CMP_MISS → t.rd MGT_STAT = s.rd MGT_STAT) ∧
        (s.getF MGT_CMP MGT_CMP_MISS ≤ n → t.pathSt o = 0 ∧ (s.pathSt o ≠ 0 → t.raised MGT_PATH_DOWN o)))) ∧
    (Completes (.compareWindowEnd cyc) s fun t => still t [MGT_PATH_STAT 0, MGT_PATH_STAT 1, MGT_STAT] ∧
      t.mgt.miss = [] ∧ t.mgt.heardLast = s.mgt.heard ∧ t.mgt.heard = [] ∧
      let n := min 255 (Tab.get 0 s.mgt.miss p)
      t.getF (MGT_PATH_STAT p) MGT_PATH_STAT_MISSW = n ∧
      t.pathSt p = if s.pathSt p = 1 ∧ s.getF MGT_PROBE MGT_PROBE_PASS ≤ Tab.get 0 s.mgt.pass p ∧ n < s.getF MGT_CMP MGT_CMP_MISS then 2 else s.pathSt p) ∧
    (s.pathEn f.path = true → s.pathLink f.path = true → f.bad = false →
      Completes (.prpSupervisionFrame f) s fun t => still t [MGT_PATH_SUPV f.path] ∧ t.mgt = s.mgt ∧ s.counts1 t (MGT_PATH_SUPV f.path)) ∧
    ((s.pathEn 0 || s.pathEn 1) = true → Completes .prpSupervisionSend s fun t => still t [] ∧ t.mgt = s.mgt.sent s.goesBy 0 .supervision) ∧
    ((s.pathEn 0 || s.pathEn 1) = false → Completes .prpSupervisionSend s fun t => t = s)

/-- R253, R256, R284, R295 to R297, R305, R377, R430, R431: the DGRAM_ rows, TLM_SEND, HEALTH_SEND. -/
def Obligations.ManagementDatagrams : Prop :=
  ∀ (s : State) (f : Frame) (d : Dgram) (ok : Bool) (cyc m : Nat) (r : Loc) (w : Word), f.path < 2 →
    let still := fun (t : State) (own : List Loc) => Leaves s t own ∧ t.ports = s.ports
    let got := s.noted f (.dgram d)
    let kept := fun (t : State) => still t [] ∧ t.mgt.inbox = s.mgt.inbox ++ [d] ∧ t.mgt.tx = s.mgt.tx ∧ t.mgt.dup = got.dup ∧
      ((t.core 128).sreg 3).getLsbD 5 = true
    let answered := fun (t : State) (op : Nat) (ws : List Word) => ∃ e : Dgram, t.mgt.tx = s.mgt.tx ++ [⟨s.goesBy, some s.mgt.rct, s.toward d.ip, .dgram e⟩] ∧
      e.op = op ∧ e.ip = d.ip ∧ e.sport = d.sport ∧ e.session = d.session ∧ e.words = ws
    let status := fun (k : Nat) => BitVec.ofNat 24 (d.seq * 4096 + k)
    let fresh := (s.dgStream d).2 = 0
    let rights := s.dgRights f
    let acc := fun (write : Bool) (w : Word) => ({ who := .dgram d, port := 4 + f.path, rights := rights, write := write, words := [(r.addr, w)] } : Access)
    (f.rct = none → s.pathEn f.path = true → s.pathLink f.path = true → f.bad = false → f.frag = false → (d.crcOk = false ∨ d.ver ≠ 1) →
      ∀ x ∈ [Instr.dgramCmdRead f d cyc, .dgramCmdWrite f d cyc, .dgramResult f d cyc, .dgramQuery f d cyc, .dgramBulk f d ok cyc, .dgramRec f d cyc],
        Completes x s fun t => still t [] ∧ t.mgt = s.mgt ∧ t.cores = s.cores) ∧
    (s.takesDg f d = true →
      (∀ x ∈ [Instr.dgramResult f d cyc, .dgramAnswer f d cyc, .dgramTlm f d cyc, .dgramHealth f d cyc], Completes x s kept) ∧
      (fresh → Completes (.dgramRec f d cyc) s kept) ∧
      (¬ fresh → Completes (.dgramRec f d cyc) s fun t => still t [] ∧ t.mgt.inbox = s.mgt.inbox ∧ t.cores = s.cores) ∧
      (∀ b, s.mgt.bulk = some b → b.up = true → b.num = d.session → Completes (.dgramBulkAck f d cyc) s fun t => still t [] ∧
        t.mgt = { got with bulk := some (if d.flags % 2 = 1 then { b with live := d.off } else { b with durable := max b.durable d.off }) }) ∧
      (∀ b, s.mgt.recs = some b → Completes (.dgramRecAck f d cyc) s fun t => still t [] ∧ t.rcd = { s.rcd with strmAck := d.off % 2 ^ 40 } ∧
        t.mgt = { got with recs := some { b with durable := d.off % 2 ^ 40 } }) ∧
      (s.isRing = false → Completes (.dgramShed f d cyc) s fun t => still t [] ∧ t.cap = s.cap ∧ answered t 2 [status 8]) ∧
      (s.isRing = true → rights.testBit 1 = true → (d.words.headD 0).toNat / 2 ^ 22 ≠ 3 → Completes (.dgramShed f d cyc) s fun t => still t [] ∧
        ∃ x, t.cap.sched = s.cap.sched ++ [(x, false)] ∧ x.wid = s.cap.nextWid ∧ x.op = (d.words.headD 0).toNat / 2 ^ 22) ∧
      (s.isRing = true → rights.testBit 1 = false → Completes (.dgramShed f d cyc) s fun t => still t [] ∧ t.cap = s.cap ∧ t.mgt = got) ∧
      (d.target = s.myAddr → d.epoch ≠ s.myEpoch → ∀ x ∈ [Instr.dgramCmdRead f d cyc, .dgramCmdWrite f d cyc, .dgramQuery f d cyc], Completes x s fun t =>
        still t [TRP_STALE_CNT] ∧ s.counts1 t TRP_STALE_CNT ∧ t.raised TRP_ROLE_STALE 0xFF ∧
        answered t 2 [status 1, BitVec.ofNat 24 s.role, BitVec.ofNat 24 s.myAddr, BitVec.ofNat 24 s.myEpoch]) ∧
      (d.target = s.myAddr → d.epoch = s.myEpoch →
        ((∀ x ∈ queryAddrs d.words, mayRead rights x = true) → Completes (.dgramQuery f d cyc) s fun t => still t [] ∧
          answered t 4 (s.answerWords (queryAddrs d.words))) ∧
        (fresh → r.ok = true → r.readsPlain = true → (∀ p o, r = .port p o → (s.port p).envPend = []) → d.words = [0x010000, BitVec.ofNat 24 r.addr] → s.admits (acc false 0) = true →
          Completes (.dgramCmdRead f d cyc) s fun t => still t [] ∧ answered t 2 [status 0, s.rd r]) ∧
        (fresh → r.ok = true → r.writesPlain = true → s.legalWord r w = true → d.words = [0x110000, BitVec.ofNat 24 r.addr, w] → s.admits (acc true w) = true →
          Completes (.dgramCmdWrite f d cyc) s fun t => still t [r] ∧ t.rd r = s.mergedWord r w ∧ answered t 2 [status 0])) ∧
      (d.target ≠ s.myAddr → fresh → ∀ x ∈ [Instr.dgramCmdRead f d cyc, .dgramCmdWrite f d cyc],
        (s.routeTo d.target = none → Completes x s fun t => still t [] ∧ answered t 2 [status 7]) ∧
        (s.routeTo d.target = some m → (s.link m).ctl.length < 32 → Completes x s fun t => still t [] ∧ t.mgt.tx = s.mgt.tx ∧
          let c := (s.number { s.cellOf 3 d.target d.words with port := d.port, epoch := d.epoch, rights := rights }).1
          Queues s t m c false cyc ∧ (d.target, c.seq, d) ∈ t.mgt.relay)) ∧
      ((d.target ≠ s.myAddr ∨ d.epoch = s.myEpoch) → (s.dgStream d).2 = 4 → ∀ x ∈ [Instr.dgramCmdRead f d cyc, .dgramCmdWrite f d cyc], Completes x s fun t =>
        still t [] ∧ answered t 2 [status 4]) ∧
      (fresh → d.target = s.myAddr → (∀ p, p < 2 → s.pathSt p = 2 → s.pathEn p = true) → (∀ b, s.mgt.bulk = some b → b.ip = d.ip ∧ b.num = d.session) → holds rights clsMaintain = true →
        Completes (.dgramBulk f d ok cyc) s fun t => t.dmem = s.dmem ∧ t.ports = s.ports ∧ t.cores = s.cores ∧ t.otp = s.otp ∧
          let live := match s.mgt.bulk with | some b => b.live | none => 0
          let x := if d.flags / 2 % 2 = 1 then s.imageBytes d.off d.bytes ok cyc else s.settingsBytes live d.off d.bytes
          t.flash = x.1.flash ∧ t.upd = x.1.upd ∧ ∃ p e, p < 2 ∧ t.mgt.tx.getLast? = some ⟨some p, none, s.toward d.ip, .dgram e⟩ ∧ e.op = 0x11 ∧
            e.session = d.session ∧ (s.mgt.bulk = none → ∀ b, t.mgt.bulk = some b → t.getF MGT_STAT MGT_STAT_BULK = s.pathPick ∧ b.live = e.off) ∧
            e.flags = (if x.2 then 0 else 1) ∧ (d.flags / 2 % 2 = 1 → e.off = x.1.durable) ∧
            (d.flags / 2 % 2 = 0 → e.off = if x.2 then d.off + d.bytes.length else live))) ∧
    ((s.pathEn 0 || s.pathEn 1) = false → Completes .healthSend s fun t => t = s) ∧
    ((s.pathEn 0 || s.pathEn 1) = true → Completes .healthSend s fun t => still t [] ∧ t.mgt = s.mgt.sent s.goesBy (s.toward s.peerIp)
      (.dgram (s.toPeer 7 ((List.range 16).map fun k => s.rd (.path (k / 8) (k % 8)))))) ∧
    (s.flag MGT_TLM MGT_TLM_EN = true →
      (s.isRing = true → (s.pathEn 0 || s.pathEn 1) = false → Completes (.tlmSend cyc) s fun t => t = s) ∧
      (s.isRing = true → (s.pathEn 0 || s.pathEn 1) = true → Completes (.tlmSend cyc) s fun t => still t [] ∧ t.mgt = s.mgt.sent s.goesBy (s.toward s.peerIp) (.dgram (s.toPeer 6 s.tlmWords))) ∧
      (s.isRing = false → s.routeTo 0 = some m → (s.link m).shared.length < 64 → Completes (.tlmSend cyc) s fun t => still t [] ∧ t.mgt = s.mgt ∧
        (t.link m).shared = (s.link m).shared ++ [⟨(s.number (s.cellOf 0xA 0 s.tlmWords)).1, false, s.mer.count, cyc, false⟩]))

/-- R293, R301 to R304, R306, R307: SGMII_LINK_CHANGE, PROBE, PROBE_ECHO, PROBE_SEND, PROBE_LOST, BOTH_DOWN_REPEAT, SESSION_SAVE, the
PTP_ rows. -/
def Obligations.PathsAndShipTime : Prop :=
  ∀ (s : State) (f : Frame) (d : Dgram) (p n rtt cyc dom ident c sec ns : Nat) (rate ofs : Int) (sync link speed v6 ok : Bool) (x : PtpSet), f.path < 2 → p < 2 →
    let still := fun (t : State) (own : List Loc) => Leaves s t own ∧ t.ports = s.ports ∧ t.cores = s.cores
    let live := fun (k : Nat) => s.pathEn k && s.pathLink k
    let probe := fun (m : MgtSt) (k : Nat) => { m.sentTrailed k (s.toward s.peerIp) (.dgram { s.toPeer 0x20 [] with num := m.nextProbe }) with
      probes := m.probes ++ [(k, m.nextProbe)], nextProbe := (m.nextProbe + 1) % 2 ^ 32 }
    (Completes (.sgmiiLinkChange p sync link speed cyc) s fun t => still t [MGT_PATH_STAT p, MGT_STAT] ∧
      t.flag (MGT_PATH_STAT p) MGT_PATH_STAT_SYNC = sync ∧ t.flag (MGT_PATH_STAT p) MGT_PATH_STAT_LINK = (link && speed) ∧
      t.getF (MGT_PATH_STAT p) MGT_PATH_STAT_MISSW = s.getF (MGT_PATH_STAT p) MGT_PATH_STAT_MISSW ∧ t.pathSt (1 - p) = s.pathSt (1 - p) ∧
      t.pathSt p = (if sync && link && speed && s.pathOn p then (if s.pathSt p = 0 then 1 else s.pathSt p) else 0) ∧
      ((sync && link && speed && s.pathOn p) = false → s.pathSt p ≠ 0 → t.raised MGT_PATH_DOWN p) ∧ (link = true → speed = false → t.raised MGT_LINK_SPEED p)) ∧
    (Completes .probeSend s fun t => still t [] ∧ t.mgt = (let m := if live 0 then probe s.mgt 0 else s.mgt
      if live 1 then probe m 1 else m)) ∧
    (s.takesDg f d = true →
      (Completes (.probe f d cyc) s fun t => still t [] ∧ t.mgt = (s.noted f (.dgram d)).sentOn f.path (s.toward d.ip)
        (.dgram { s.dgramOf 0x21 d.ip d.sport d.session [] with num := d.num })) ∧
      (s.mgt.probes.contains (f.path, d.num) = false → Completes (.probeEcho f d rtt cyc) s fun t => still t [] ∧ t.mgt = s.noted f (.dgram d)) ∧
      (s.mgt.probes.contains (f.path, d.num) = true → Completes (.probeEcho f d rtt cyc) s fun t =>
        still t [MGT_PATH_RTT f.path, MGT_PATH_RTTMAX f.path, MGT_STAT] ∧ (t.rd (MGT_PATH_RTT f.path)).toNat = min rtt 0xFFFFFF ∧
        (t.rd (MGT_PATH_RTTMAX f.path)).toNat = max (s.rd (MGT_PATH_RTTMAX f.path)).toNat (min rtt 0xFFFFFF) ∧
        t.mgt.probes = s.mgt.probes.filter (fun y => y != (f.path, d.num)) ∧ Tab.get 0 t.mgt.fail f.path = 0 ∧
        let k := Tab.get 0 s.mgt.pass f.path + 1
        let st := if s.pathSt f.path = 0 then 1 else s.pathSt f.path
        Tab.get 0 t.mgt.pass f.path = k ∧ t.pathSt f.path = if st = 1 ∧ s.getF MGT_PROBE MGT_PROBE_PASS ≤ k ∧
          s.getF (MGT_PATH_STAT f.path) MGT_PATH_STAT_MISSW < s.getF MGT_CMP MGT_CMP_MISS then 2 else st)) ∧
    (s.mgt.probes.contains (p, n) = false → Completes (.probeLost p n cyc) s fun t => t = s) ∧
    (s.mgt.probes.contains (p, n) = true → Completes (.probeLost p n cyc) s fun t => still t [MGT_PATH_LOST p, MGT_STAT] ∧ s.counts1 t (MGT_PATH_LOST p) ∧
      t.mgt.probes = s.mgt.probes.filter (fun y => y != (p, n)) ∧ Tab.get 0 t.mgt.pass p = 0 ∧
      let k := Tab.get 0 s.mgt.fail p + 1
      (k < s.getF MGT_PROBE MGT_PROBE_FAIL → Tab.get 0 t.mgt.fail p = k ∧ t.rd MGT_STAT = s.rd MGT_STAT) ∧
      (s.getF MGT_PROBE MGT_PROBE_FAIL ≤ k → t.pathSt p = 0 ∧ (s.pathSt p ≠ 0 → t.raised MGT_PATH_DOWN p))) ∧
    (s.pathSt 0 = 0 → s.pathSt 1 = 0 → Completes (.bothDownRepeat cyc) s fun t => still t [] ∧ t.mgt = s.mgt ∧ t.raised MGT_BOTH_DOWN 0xFF) ∧
    (let pref := s.getF MGT_CTL MGT_CTL_PREF
      let hold := s.pathHold pref
      let opn := s.mgt.toSave
      Completes (.sessionSave ok) s fun t => still t [MGT_STAT] ∧ Tab.get 0 t.mgt.hold pref = hold ∧ t.mgt.bulk = s.mgt.bulk ∧ t.mgt.recs = s.mgt.recs ∧ t.mgt.tx = s.mgt.tx ∧
        (opn = false → t.mgt.saves = s.mgt.saves) ∧
        (opn = true → ok = true → (∀ o, s.mgt.newest = some o → o.seq + 1 < 2 ^ 24) → ∃ v : SesSave, v.bulk = s.mgt.bulk ∧ v.recs = s.mgt.recs ∧ t.mgt.newest = some v ∧
          (t.mgt.saves.a = s.mgt.saves.a ∨ t.mgt.saves.b = s.mgt.saves.b)) ∧
        t.getF MGT_STAT MGT_STAT_BULK = (if s.mgt.bulk.isSome = true ∧ s.getF MGT_CTL MGT_CTL_REVERT < hold ∧ s.getF MGT_STAT MGT_STAT_BULK = 1 - pref
          then pref else s.getF MGT_STAT MGT_STAT_BULK)) ∧
    (∀ y ∈ [Instr.ptpSync p dom v6 ident c sec ns rate ofs, .ptpFollowUp p dom v6 ident c sec ns rate ofs, .ptpDelayResp p dom v6 ident c sec ns rate ofs,
        .ptpAnnounce p dom v6 x], s.listens p dom v6 = false → Completes y s fun t => still t [] ∧ t.mgt = s.mgt) ∧
    (s.listens p dom v6 = true →
      (∀ y ∈ [Instr.ptpSync p dom v6 ident c sec ns rate ofs, .ptpFollowUp p dom v6 ident c sec ns rate ofs, .ptpDelayResp p dom v6 ident c sec ns rate ofs],
        (s.fromMaster ident = true → Completes y s fun t => still t [MGT_PTP_STAT] ∧ t.mgt = { s.mgt with map := some (c, sec, ns, rate) } ∧
          t.flag MGT_PTP_STAT MGT_PTP_STAT_LOCK = s.flag MGT_PTP_STAT MGT_PTP_STAT_LOCK) ∧
        (s.fromMaster ident = false → Completes y s fun t => still t [] ∧ t.mgt = s.mgt)) ∧
      (s.mgt.master = none → Completes (.ptpAnnounce p dom v6 x) s fun t => still t [] ∧ t.mgt = { s.mgt with master := some x }) ∧
      (∀ b, s.mgt.master = some b → Completes (.ptpAnnounce p dom v6 x) s fun t =>
        still t [] ∧ ((x.ident = b.ident ∨ x.better b = true) → t.mgt = { s.mgt with master := some x }) ∧
        (x.ident ≠ b.ident → x.better b = false → t.mgt = s.mgt))) ∧
    (s.flag MGT_CTL MGT_CTL_PTP_EN = true → Completes (.ptpLost cyc) s fun t => still t [MGT_PTP_STAT] ∧ t.mgt = { s.mgt with map := none } ∧
      t.flag MGT_PTP_STAT MGT_PTP_STAT_LOCK = false ∧ t.raised MGT_PTP_LOST 0xFF)

/-- R314 to R320, R322, R323, R325: the read commands of PMBus, MFR_GZ_DATA_READ, ALERT_RESPONSE_READ, GZ_PREFETCH_DONE. -/
def Obligations.BusReads : Prop :=
  ∀ (s : State) (t : Txn) (a n cyc : Nat) (won : Bool) (r : Loc), t.bus < 4 →
    let b := t.bus
    let still := fun (u : State) (own : List Loc) => Leaves s u own ∧ u.ports = s.ports ∧ u.cores = s.cores ∧ u.page b = s.page b ∧ ∀ k, k ≠ b → u.bus k = s.bus k
    let rise := [TWB_RISE b, TWB_STAT b]
    let drives := fun (u : State) (l : List Nat) => still u rise ∧ u.bus b = { s.bus b with nack := none, sent := s.withPec t l }
    let refused := fun (u : State) (k : Nat) => (u.bus b).nack = some k ∧ (u.bus b).sent = [] ∧ (u.bus b).queue = (s.bus b).queue ∧ (u.bus b).ptr = (s.bus b).ptr
    let busRows : List ((Txn → Instr) × (State → Nat → List Nat)) :=
      [(.pageRead, fun s b => [s.page b]), (.capability, fun _ _ => [0xD0]), (.voutMode, fun s b => [TWB_CTL_VEXP.get (s.mirRd (TWB_CTL b))]),
       (.statusCml, fun s b => [s.getF (TWB_CML b) TWB_CML_CML]), (.pmbusRevision, fun _ _ => [0x44]),
       (.mfrId, fun _ _ => [7, 0x54, 0x41, 0x4D, 0x48, 0x41, 0x55, 0x42]), (.mfrModel, fun _ _ => [8, 0x54, 0x4C, 0x4D, 0x2D, 0x38, 0x38, 0x30, 0x30])]
    let portRows : List ((Txn → Instr) × (State → Nat → Nat → List Nat)) :=
      [(.operationRead, fun s _ p => [if STG_STAT_STATE.get (s.mirRd (STG_STAT p)) = 0 then 0 else 0x80]),
       (.statusByte, fun s b p => [s.statusWord b p % 256]), (.statusWord, fun s b p => le16 (s.statusWord b p)),
       (.statusVout, fun s _ p => [(Tab.get {} s.mir.shown p).vout.toNat % 256]), (.statusIout, fun s _ p => [(Tab.get {} s.mir.shown p).iout.toNat % 256]),
       (.statusInput, fun s _ p => [(Tab.get {} s.mir.shown p).input.toNat % 256]), (.statusMfrSpecific, fun s _ p => [(Tab.get {} s.mir.shown p).mfr.toNat % 256]),
       (.readVin, fun s _ _ => le16 (lin11 (s.mirRd HLD_VBUS).toInt 100)),
       (.readVout, fun s b p => le16 (lin16 (s.pmV p) (1000 * 2 ^ 23) (TWB_CTL_VEXP.get (s.mirRd (TWB_CTL b))))),
       (.readIout, fun s _ p => le16 (lin11 (s.pmI p) (1000 * 2 ^ 23))),
       (.readTemperature1, fun s _ p => le16 (lin11 ((s.mirRd (TWB_PT_OFS p)).toInt * 2 ^ 23 +
          (s.mirRd (STG_SMP_T p)).toInt * (s.mirRd (TWB_PT_SPAN p)).toInt) (100 * 2 ^ 23))),
       (.readFanSpeed1, fun s _ p => le16 (lin11 (if s.mir.fans.contains p then ((s.mirRd (FAN_SPD p)).toNat : Int) else 0) 1)),
       (.readPout, fun s _ p => le16 (lin11 (s.pmV p * s.pmI p) (1000000 * 2 ^ 46)))]
    let rows := busRows.map (·.1) ++ portRows.map (·.1)
    (s.pmTakes t (some clsObserve) = true →
      (∀ row ∈ busRows, Completes (row.1 t) s fun u => drives u (row.2 s b)) ∧
      (s.page b < 128 → ∀ row ∈ portRows, Completes (row.1 t) s fun u => drives u (row.2 s b (s.page b))) ∧
      (128 ≤ s.page b → ∀ row ∈ portRows, Completes (row.1 t) s fun u => still u (TWB_CML b :: rise) ∧ refused u 1 ∧
        (u.rd (TWB_CML b)).getLsbD 7 = true ∧ u.flag (TWB_STAT b) TWB_STAT_ALERT = true)) ∧
    (∀ c ∈ rows,
      (s.busAnswers b = false → Completes (c t) s fun u => u = s) ∧
      (s.busAnswers b = true → s.flag (TWB_STAT b) TWB_STAT_QFULL = true → Completes (c t) s fun u => still u rise ∧ refused u 0) ∧
      (s.busAnswers b = true → s.flag (TWB_STAT b) TWB_STAT_QFULL = false → pmCodes.contains t.code = false → Completes (c t) s fun u =>
        still u (TWB_CML b :: rise) ∧ refused u 1 ∧ (u.rd (TWB_CML b)).getLsbD 7 = true) ∧
      (s.busAnswers b = true → s.flag (TWB_STAT b) TWB_STAT_QFULL = false → pmCodes.contains t.code = true → holds (s.portRights b) clsObserve = false →
        Completes (c t) s fun u => still u (RGT_DENY_CNT :: RGT_LAST :: RGT_LAST_ADDR :: rise) ∧ refused u 1 ∧ u.raised RGT_DENIED b)) ∧
    (s.pmTakes t none = true → (s.bus b).ptr = some (a, true, n) → (∀ k, k < n → mayRead (s.portRights b) (a + k) = true ∧ isHole (a + k) = false ∧
        s.tileDown (ownerTile (a + k)) = false) →
      ((s.bus b).fetching = true → Completes (.mfrGzDataRead t) s fun u => drives u [1, 1]) ∧
      ((s.bus b).fetching = false → (s.bus b).buf.length = n → Completes (.mfrGzDataRead t) s fun u =>
        drives u ([1 + 3 * n, 0] ++ (s.bus b).buf.flatMap wordBytes))) ∧
    (s.pmTakes t none = true → (∀ p, (s.bus b).ptr = some p → p.2.1 = false) → Completes (.mfrGzDataRead t) s fun u => still u rise ∧ refused u 1) ∧
    (r.ok = true → r.readsPlain = true → (∀ p o, r = .port p o → (s.port p).envPend = []) → (s.bus b).ptr = some (r.addr, true, 1) → (s.bus b).fetching = true → (s.waiting fun k => match k with | .prefetch j => j == b | _ => false) = false →
      s.admits { who := .prefetch b, port := b, rights := s.portRights b, write := false, words := [(r.addr, 0)] } = true →
      Completes (.gzPrefetchDone b cyc) s fun u => still u [] ∧ u.bus b = { s.bus b with fetching := false, buf := [s.rd r] }) ∧
    (s.busTarget b = true →
      (s.flag (TWB_STAT b) TWB_STAT_ALERT = true → Completes (.alertResponseRead b won) s fun u => still u [TWB_STAT b] ∧
        (u.bus b).sent = [2 * s.getF (TWB_ADDR b) TWB_ADDR_ADDR] ∧ (u.bus b).nack = none ∧ u.flag (TWB_STAT b) TWB_STAT_ALERT = !won) ∧
      (s.flag (TWB_STAT b) TWB_STAT_ALERT = false → Completes (.alertResponseRead b won) s fun u => still u [] ∧
        u.bus b = { s.bus b with nack := some 0, sent := [] }))

/-- R312, R317, R318, R321 to R329: PAGE_WRITE, OPERATION_WRITE, CLEAR_FAULTS, MFR_GZ_PTR, MFR_GZ_DATA_WRITE, TWB_WRITE_APPLY, TWB_TIMEOUT,
the WHISTLE rows, the TWB_XFER rows, TWB_ARB_RETRY, TWB_CTL_WRITE. -/
def Obligations.BusWritesAndTransfers : Prop :=
  ∀ (s : State) (arr : Arr) (t : Txn) (v a n k cyc err nb rt scl sda : Nat) (rd : Bool) (bytes : List Nat) (ws : List Word) (r : Loc) (w : Word), t.bus < 4 → arr.port < 21 →
    let b := t.bus
    let frame := fun (u : State) (own : List Loc) => Leaves s u own ∧ u.ports = s.ports ∧ ∀ k, k ≠ b → u.bus k = s.bus k
    let still := fun (u : State) (own : List Loc) => frame u own ∧ u.cores = s.cores
    let rise := [TWB_RISE b, TWB_STAT b]
    let queued := fun (u : State) (x : TwbWrite) => still u rise ∧ u.bus b = { s.bus b with nack := none, sent := [], queue := (s.bus b).queue ++ [x] } ∧
      u.flag (TWB_STAT b) TWB_STAT_QFULL = decide (3 ≤ (s.bus b).queue.length) ∧ u.page b = s.page b
    let refused := fun (u : State) (k : Nat) => still u (TWB_CML b :: TWB_ERR_CNT b :: rise) ∧ (u.bus b).nack = some k ∧ (u.bus b).queue = (s.bus b).queue ∧ u.page b = s.page b
    let active := fun (u : State) => u.flag (TWB_STAT b) TWB_STAT_WHS_ACT
    let gz := fun (write : Bool) => (s.bus b).ptr = some (a, !write, n) ∧ ∀ j, j < n → mayTouch (s.portRights b) (a + j) = true ∧ isHole (a + j) = false ∧
      s.tileDown (ownerTile (a + j)) = false
    (s.pecPasses t = true →
      (s.pmTakes t (some clsObserve) = true → (v < 128 ∨ v = 0xFF) → Completes (.pageWrite t v) s fun u => still u rise ∧ u.page b = v ∧
        u.bus b = { s.bus b with nack := none, sent := [] }) ∧
      (s.pmTakes t (some clsConfigure) = true → (v = 0x80 ∨ v = 0) → Completes (.operationWrite t v) s fun u => queued u (.operation (s.page b) (v == 0x80))) ∧
      (s.pmTakes t (some clsOperate) = true → Completes (.clearFaults t) s fun u => queued u (.clear (s.page b))) ∧
      (s.pmTakes t (some clsObserve) = true → s.tileDown (ownerTile (a % 2 ^ 20)) = false → 1 ≤ n → n ≤ 32 → Completes (.mfrGzPtr t 4 a 0 (b2n rd) n) s fun u =>
        still u rise ∧ u.bus b = { s.bus b with nack := none, sent := [], ptr := some (a % 2 ^ 20, rd, n), fetching := rd, buf := [] }) ∧
      (s.pmTakes t none = true → gz true → ws.length = n → Completes (.mfrGzDataWrite t (3 * n) ws) s fun u => queued u (.words a ws))) ∧
    (∀ x ∈ [(Instr.clearFaults t, clsOperate, 2), (.operationWrite t 0x80, clsConfigure, 3), (.pageWrite t 5, clsObserve, 3)], s.pmTakes t (some x.2.1) = true →
      (t.stop = true → t.pec = some false → Completes x.1 s fun u => refused u x.2.2 ∧ (u.rd (TWB_CML b)).getLsbD 5 = true ∧
        s.counts1 u (TWB_ERR_CNT b) ∧ u.raised TWB_PEC b) ∧
      (t.stop = false → Completes x.1 s fun u => still u rise ∧ (u.bus b).queue = (s.bus b).queue ∧ u.page b = s.page b)) ∧
    (128 ≤ v → v ≠ 0xFF → s.pmTakes t (some clsObserve) = true → Completes (.pageWrite t v) s fun u => refused u 2 ∧ (u.rd (TWB_CML b)).getLsbD 6 = true) ∧
    (v ≠ 0x80 → v ≠ 0 → s.pmTakes t (some clsConfigure) = true → Completes (.operationWrite t v) s fun u => refused u 2 ∧ (u.rd (TWB_CML b)).getLsbD 6 = true) ∧
    (k ≠ 4 → s.pmTakes t (some clsObserve) = true → Completes (.mfrGzPtr t k a 0 0 n) s fun u => refused u 2 ∧ (u.bus b).ptr = (s.bus b).ptr) ∧
    (k ≠ 3 * n → s.pmTakes t none = true → gz true → Completes (.mfrGzDataWrite t k ws) s fun u => refused u 2 ∧ (u.rd (TWB_CML b)).getLsbD 6 = true) ∧
    (∀ l, (s.bus b).queue = .words r.addr [w] :: l → r.ok = true → r.writesPlain = true → s.legalWord r w = true → r ≠ TWB_STAT b →
      s.admits { who := .busWrite b, port := b, rights := s.portRights b, write := true, words := [(r.addr, w)] } = true →
      Completes (.twbWriteApply b cyc) s fun u => still u [r, TWB_STAT b] ∧ u.rd r = s.mergedWord r w ∧ (u.bus b).queue = l ∧
        u.flag (TWB_STAT b) TWB_STAT_QFULL = false) ∧
    (∀ l p, (s.bus b).queue = .clear p :: l → (p < 128 ∨ p = 0xFF) →
      (holds (s.portRights b) clsOperate = true → Completes (.twbWriteApply b cyc) s fun u => still u [TWB_CML b, TWB_STAT b] ∧ (u.bus b).queue = l ∧
        u.rd (TWB_CML b) = 0 ∧ u.flag (TWB_STAT b) TWB_STAT_ALERT = false ∧ u.mir.shown = s.mir.shown ∧
        ∀ q, q < 128 → Tab.get {} u.mir.latch q = if q = p ∨ p = 0xFF then {} else Tab.get {} s.mir.latch q) ∧
      (holds (s.portRights b) clsOperate = false → Completes (.twbWriteApply b cyc) s fun u =>
        still u [TWB_CML b, TWB_STAT b, RGT_DENY_CNT, RGT_LAST, RGT_LAST_ADDR] ∧ (u.bus b).queue = l ∧ u.mir = s.mir ∧ (u.rd (TWB_CML b)).getLsbD 1 = true)) ∧
    (s.busTarget b = true → Completes (.twbTimeout b cyc) s fun u => still u [TWB_CML b, TWB_STAT b] ∧ (u.rd (TWB_CML b)).getLsbD 1 = true ∧
      u.flag (TWB_STAT b) TWB_STAT_ALERT = true ∧ u.raised TWB_TIMEOUT_SRC b) ∧
    (s.mayWhistle b = true →
      ((s.bus b).whistle = true → Completes (.whistle b) s fun u => still u [TWB_STAT b] ∧ active u = true ∧ u.bus b = { s.bus b with whistle := false }) ∧
      (s.getF (TWB_ALERT b) TWB_ALERT_REP ≠ 0 → Completes (.whistleRepeat b) s fun u => still u [TWB_STAT b] ∧ active u = true) ∧
      (s.getF (TWB_ALERT b) TWB_ALERT_REP = 0 → Completes (.whistleRepeat b) s fun u => u = s)) ∧
    (Completes (.whistleRelease b) s fun u => still u [TWB_STAT b] ∧ active u = false ∧ u.bus b = s.bus b) ∧
    (active s = true → Completes (.whistleAbort b) s fun u => still u [TWB_STAT b, TWB_WHS_CNT b] ∧ active u = false ∧ s.counts1 u (TWB_WHS_CNT b) ∧
      u.bus b = { s.bus b with whistle := s.flag (TWB_STAT b) TWB_STAT_ALERT }) ∧
    (s.busController b = true → Completes (.whistleSeen b) s fun u => frame u [TWB_STAT b] ∧ u.flag (TWB_STAT b) TWB_STAT_WHS_SEEN = true ∧
      ((u.core (128 + busTile b)).sreg 3).getLsbD 6 = true) ∧
    (s.admitsPut arr (TWB_XFER b) (TWB_XFER_GO.put w 1) = true → s.legalWord (TWB_XFER b) (TWB_XFER_GO.put w 1) = true →
      (s.flag (TWB_STAT b) TWB_STAT_BUSY = true → Completes (.twbXferGo arr b w) s fun u => still u [] ∧ u.bus b = s.bus b ∧ u.ans = (3, [])) ∧
      (s.flag (TWB_STAT b) TWB_STAT_BUSY = false → s.busController b = true → Completes (.twbXferGo arr b w) s fun u => still u [TWB_XFER b, TWB_STAT b] ∧
        TWB_XFER_WCNT.get (u.rd (TWB_XFER b)) = TWB_XFER_WCNT.get w ∧ TWB_XFER_RCNT.get (u.rd (TWB_XFER b)) = TWB_XFER_RCNT.get w ∧
        u.flag (TWB_STAT b) TWB_STAT_BUSY = true ∧ (let n := TWB_XFER_WCNT.get w
          let bytes := if n = 0 then [] else writePart (TWB_XFER_TADDR.get w) ((List.range n).map (s.bufByte b)) (TWB_XFER_PEC.on w)
          u.bus b = { s.bus b with xfer := some (s.getF (TWB_CTL b) TWB_CTL_RETRY), wrote := bytes }) ∧ u.ans = (0, []))) ∧
    ((s.bus b).xfer = some rt → err < 9 → nb < 64 → (s.bus b).avs = false → s.age.avs ≠ 1 →
      (err = 3 → rt ≠ 0 → Completes (.twbXferDone b err nb bytes scl sda cyc) s fun u => u = s) ∧
      (¬ (err = 3 ∧ rt ≠ 0) → Completes (.twbXferDone b err nb bytes scl sda cyc) s fun u =>
        frame u (TWB_RES b :: TWB_ERR_CNT b :: rise ++ (List.range 21).map (TWB_BUF b)) ∧ u.bus b = { s.bus b with xfer := none } ∧
        u.flag (TWB_STAT b) TWB_STAT_BUSY = false ∧ u.getF (TWB_RES b) TWB_RES_ERR = err ∧ u.getF (TWB_RES b) TWB_RES_NB = nb ∧
        ((u.core (128 + busTile b)).sreg 3).getLsbD 6 = true ∧ (err ≠ 0 → s.counts1 u (TWB_ERR_CNT b)) ∧ (err = 4 → u.raised TWB_ARB_SS b) ∧
        (err = 7 → u.raised TWB_BUS_STUCK b) ∧
        ∀ j, j < 63 → j < bytes.length → bytes.getD j 0 < 256 → u.getF (TWB_BUF b (j / 3)) ⟨8 * (2 - j % 3) + 7, 8 * (2 - j % 3)⟩ = bytes.getD j 0) ∧
      (rt ≠ 0 → Completes (.twbArbRetry b) s fun u => still u [] ∧ u.bus b = { s.bus b with xfer := some (rt - 1) })) ∧
    (s.admitsPut arr (TWB_CTL b) w = true → s.legalWord (TWB_CTL b) w = true → Completes (.twbCtlWrite arr b w) s fun u =>
      (∀ f ∈ [TWB_CTL_EN, TWB_CTL_MODE, TWB_CTL_ROLE, TWB_CTL_WHISTLE, TWB_CTL_PEC_REQ, TWB_CTL_RETRY, TWB_CTL_VEXP], u.getF (TWB_CTL b) f = f.get w) ∧ u.ports = s.ports ∧
      (∀ j, j < 4 → u.rd (.bus b (2 + j)) = if TWB_CTL_MODE.get w = s.getF (TWB_CTL b) TWB_CTL_MODE then s.rd (.bus b (2 + j))
        else BitVec.ofNat 24 ((twbDefaults (TWB_CTL_MODE.get w)).getD j 0)) ∧
      (TWB_CTL_EN.on w = false → s.flag (TWB_STAT b) TWB_STAT_BUSY = true → u.flag (TWB_STAT b) TWB_STAT_BUSY = false ∧
        u.getF (TWB_RES b) TWB_RES_ERR = 8 ∧ (u.bus b).xfer = none))

/-- R116, R131, R135, R142, R144, R146 to R148, R152, R153, R167 to R169, R187, R194: SLOW_ADC_CONVERSION, PWM_UPDATE_POINT,
OC_COMPARATOR_FIRE, RC_COMPARATOR_FIRE, DRIVER_FAULT_INPUT, DRIVER_FAULT_RELEASE, TACH_EDGE, FAN_STANDSTILL, FAN_STALL_CHECK,
PWM_SYNC_HOLDOVER, RAIL_DETECT_CONVERSION. -/
def Obligations.StagePortEvents : Prop :=
  ∀ (s : State) (p n r k uv per cyc code : Nat) (cur raw : Int) (q : Point), p < 128 → n < 8 → r < 16 → k < 16 →
    let still := fun (t : State) (own : List Loc) => Leaves s t own ∧ t.cores = s.cores ∧ t.otp = s.otp
    let alone := fun (t : State) => ∀ q, q ≠ p → t.port q = s.port q ∧ t.fuse q = s.fuse q
    let x := s.port p
    let thr : Int := -((s.getF (STG_CMP p) STG_CMP_RC_THR : Nat) : Int)
    let slot := fun (j : Nat) => ((s.tile n).slowAt + 1 + j) % 16
    let wants := fun (j : Nat) => s.flag (STG_SNS (16 * n + slot j)) STG_SNS_TEN = true ∧ s.pers (16 * n + slot j) ≠ 4
    let due := fun (e : Nat × PendOut) => e.1 == 0 && decide (e.2.due * unitsPerCycle ≤ q.pos)
    let conducts := s.pers p = 1 ∧ s.pstate p = 1 ∧ (s.fusSt p = 1 ∨ s.fusSt p = 2)
    (s.tileDown n = false → wants k → (∀ j, j < k → ¬ wants j) → Completes (.slowAdcConversion n uv) s fun t => still t [] ∧ t.fuses = s.fuses ∧
      (t.tile n).slowAt = slot k ∧ (t.port (16 * n + slot k)).slowT =
        BitVec.ofNat 24 ((min (roundq ((uv * 4096 : Nat) : Int) 1600000).toNat 4095) * 8388607 / 4095) ∧ ∀ q, q ≠ 16 * n + slot k → t.port q = s.port q) ∧
    (s.pers p = 0 ∨ s.pers p = 3 ∨ s.pers p = 4 → x.envPend = [] →
      (s.nextPoint p = none → ∀ i mid pos, Completes (.pwmUpdatePoint p i mid pos) s fun t => t = s) ∧
      (s.nextPoint p = some q → ∀ i mid pos, q.named i mid pos = false → Completes (.pwmUpdatePoint p i mid pos) s fun t => t = s) ∧
      (s.nextPoint p = some q → s.pstate p = 1 → x.stored = [] → x.pert = 0 → x.trunc = false → x.relimit = false → (q.mid = true → x.firstStart = false) →
        Completes (.pwmUpdatePoint p q.i q.mid q.pos) s fun t =>
        still t [PHS_DLY_LAST p, PHS_DLY_MIN p, PHS_DLY_MAX p, PHS_DLY_NEXT p] ∧ alone t ∧
        let duty := match (x.pend.filter due).getLast? with
          | some o => (s.modPort p fun y => y.pass q).limitOut p 0 o.2.ref o.2.w
          | none => x.app 0
        let m := q.per
        let on := s.onTime p m duty
        let y := t.port p
        y.dutyNow = duty ∧ y.app 0 = duty ∧ y.onM = on ∧ y.fall = m / 2 + (on - on / 2) ∧
        (∀ e ∈ y.pend, due e = false) ∧
        (q.mid = false → y.onS = on ∧ y.rise = m / 2 - on / 2 ∧ y.start = (q.pos : Int) ∧ y.ocHold = false ∧ y.drvHold = (x.drvHold && x.fltLow) ∧
          y.firstStart = false ∧ y.gen.per = m ∧ y.gen.mid = true) ∧
        (q.mid = true → y.onS = x.onS ∧ y.rise = x.rise ∧ y.start = x.start ∧ y.ocHold = x.ocHold ∧ y.drvHold = x.drvHold ∧ y.gen.mid = false)) ∧
      (s.nextPoint p = some q → s.pstate p = 2 → Completes (.pwmUpdatePoint p q.i q.mid q.pos) s fun t => still t [] ∧ alone t ∧ (t.port p).applied = x.applied ∧
        (t.port p).onM = x.onM ∧ (t.port p).onS = x.onS ∧ (t.port p).ga = (x.ga || (!q.mid && s.pers p == 4)) ∧ ∀ e ∈ (t.port p).pend, due e = false)) ∧
    (s.blanked p (cyc * unitsPerCycle) = true → Completes (.ocComparatorFire p cur cyc) s fun t => t = s) ∧
    (x.cmpOld = [] → s.blanked p (cyc * unitsPerCycle) = false →
      (cur.natAbs ≤ cmpThreshold (s.rd (ENV_FAST p)) → Completes (.ocComparatorFire p cur cyc) s fun t => t = s) ∧
      (cmpThreshold (s.rd (ENV_FAST p)) < cur.natAbs → Completes (.ocComparatorFire p cur cyc) s fun t => still t [STG_STAT p, STG_OC_CNT p] ∧ alone t ∧
        t.flag (STG_STAT p) STG_STAT_OC_SEEN = true ∧ (t.port p).ga = false ∧ (t.port p).gb = false ∧ (t.port p).ocFired = true ∧ (t.port p).fire = none ∧
        (s.pers p = 1 ∨ s.pers p = 2 → (t.fuse p).gb = 0 ∧ t.flag (STG_STAT p) STG_STAT_OC_LATCH = true ∧ (t.port p).ocHold = false) ∧
        (¬ (s.pers p = 1 ∨ s.pers p = 2) → (t.port p).ocHold = true ∧ t.flag (STG_STAT p) STG_STAT_OC_LATCH = s.flag (STG_STAT p) STG_STAT_OC_LATCH) ∧
        (x.ocFired = false → s.counts1 t (STG_OC_CNT p) ∧ (s.pers p ≠ 1 → t.raised (portSrc p STG_OC_TRIP) p)) ∧
        (x.ocFired = true → t.rd (STG_OC_CNT p) = s.rd (STG_OC_CNT p)) ∧
        (conducts → 1 ∉ (s.fuse p).trips → t.fuse p = { s.fuse p with trips := (s.fuse p).trips ++ [1], gb := 0 } ∧ t.raised (portSrc p STG_OC_TRIP) p))) ∧
    ((thr ≤ raw → Completes (.rcComparatorFire p raw cyc) s fun t => t = s) ∧
      (raw < thr → s.pers p ≠ 1 → s.pers p ≠ 2 → Completes (.rcComparatorFire p raw cyc) s fun t => t = s) ∧
      (raw < thr → (s.pers p = 1 ∨ s.pers p = 2) → Completes (.rcComparatorFire p raw cyc) s fun t =>
        still t [STG_STAT p, STG_RC_CNT p, ORG_STAT p] ∧ alone t ∧ t.flag (STG_STAT p) STG_STAT_RC_LATCH = true ∧ (t.port p).ga = false ∧
        (t.port p).rcActive = true ∧ s.counts1 t (STG_RC_CNT p) ∧ t.raised (portSrc p STG_RC_TRIP) p ∧
        t.getF (ORG_STAT p) ORG_STAT_STATE = (if s.pers p = 2 ∧ s.getF (ORG_STAT p) ORG_STAT_STATE = 2 then 1 else s.getF (ORG_STAT p) ORG_STAT_STATE) ∧
        (s.pers p = 2 → s.getF (ORG_STAT p) ORG_STAT_STATE = 2 → (t.fuse p).gref = 0 ∧ (t.fuse p).gb = 0))) ∧
    (s.pers p ≠ 4 →
      (Completes (.driverFaultInput p cyc) s fun t => still t [STG_STAT p] ∧ alone t ∧ t.flag (STG_STAT p) STG_STAT_DRV_FLT = true ∧
        t.port p = { x with fltLow := true, drvHold := true, drvSeen := true, ga := false, gb := false } ∧
        (x.drvSeen = false → t.raised (portSrc p STG_DRV_FLT) p) ∧
        (conducts → (t.fuse p).trips = (s.fuse p).trips ++ [5]) ∧ (¬ conducts → (t.fuse p).trips = (s.fuse p).trips) ∧
        (t.fuse p).gb = 0 ∧ (t.fuse p).gref = (s.fuse p).gref) ∧
      (Completes (.driverFaultRelease p) s fun t => still t [STG_STAT p] ∧ alone t ∧ t.flag (STG_STAT p) STG_STAT_DRV_FLT = false ∧
        t.port p = { x with fltLow := false })) ∧
    (s.pers p = 4 → ∀ c ∈ [Instr.driverFaultInput p cyc, .driverFaultRelease p], Completes c s fun t => t = s) ∧
    (s.pers p ≠ 4 → ∀ c ∈ [Instr.tachEdge p per, .fanStandstill p, .fanStallCheck p cyc], Completes c s fun t => t = s) ∧
    (s.pers p = 4 →
      (x.tachRun = true → 0 < per → Completes (.tachEdge p per) s fun t => still t [FAN_PER p, FAN_SPD p] ∧ alone t ∧
        let rpm := 600000000 / (per * (s.getF (FAN_CTL p) FAN_CTL_PPR + 1))
        (t.rd (FAN_PER p)).toNat = min per 0xFFFFFF ∧ (t.rd (FAN_SPD p)).toNat = min rpm 0xFFFFFF ∧
        (s.rd (FAN_FS p) ≠ 0 → (t.port p).smpT.toNat = min (rpm * 2 ^ 23 / (s.rd (FAN_FS p)).toNat) 0x7FFFFF)) ∧
      (x.tachRun = false → Completes (.tachEdge p per) s fun t => still t [] ∧ alone t ∧ t.port p = { x with tachRun := true }) ∧
      (Completes (.fanStandstill p) s fun t => still t [FAN_PER p, FAN_SPD p] ∧ alone t ∧ t.rd (FAN_PER p) = 0 ∧ t.rd (FAN_SPD p) = 0 ∧
        t.port p = { x with tachRun := false, smpT := 0 }) ∧
      (s.pstate p = 1 → 0 < (x.app 0).toInt → s.rd (FAN_SPD p) = 0 → Completes (.fanStallCheck p cyc) s fun t => still t [] ∧ t.ports = s.ports ∧
        t.raised (portSrc p FAN_STALL) p) ∧
      (¬ (s.pstate p = 1 ∧ 0 < (x.app 0).toInt ∧ s.rd (FAN_SPD p) = 0) → Completes (.fanStallCheck p cyc) s fun t => t = s)) ∧
    (s.syncLost p cyc = false → Completes (.pwmSyncHoldover p cyc) s fun t => t = s) ∧
    (s.flag (STG_PWM p) STG_PWM_SYNC = true → s.flag (STG_STAT p) STG_STAT_SYNC_HOLD = false → s.syncLost p cyc = true → Completes (.pwmSyncHoldover p cyc) s fun t =>
      still t [STG_STAT p] ∧ alone t ∧ t.flag (STG_STAT p) STG_STAT_SYNC_HOLD = true ∧ t.raised (portSrc p STG_PWM_SYNC_LOST) p ∧
      (t.port p).sync.acc = x.sync.acc) ∧
    (let v := match s.convExcluded (s.activeLead r) cyc, (s.rail r).hist with | true, h :: _ => h | _, _ => s.calV (s.activeLead r) code
      let pres := s.presNow r
      let on := pres ≠ 0 ∧ (pres.testBit (s.leadOf r) = true ∨ pres.testBit (s.altOf r) = true)
      let tr := fun (t : State) => t.flag (PHS_RAIL_STAT r) PHS_RAIL_STAT_TRUNC
      let vos := (s.rd (PHS_RAIL_VOS r)).toInt
      let armed := s.railState r ≠ 0 ∧ s.flag (PHS_RAIL_CTL r) PHS_RAIL_CTL_TR_EN = true
      Completes (.railDetectConversion r code (!s.convExcluded (s.activeLead r) cyc) cyc) s (fun t => t = s) ∧
      Completes (.railDetectConversion r code (s.convExcluded (s.activeLead r) cyc) cyc) s fun t => still t [PHS_RAIL_STAT r] ∧ (t.rail r).hist = (v :: (s.rail r).hist).take 8 ∧
        (∀ q, q ≠ r → t.rail q = s.rail q) ∧
        (¬ on → t.ports = s.ports ∧ t.rd (PHS_RAIL_STAT r) = s.rd (PHS_RAIL_STAT r)) ∧
        (on → tr s = false → tr t = decide (armed ∧ vos ≤ v)) ∧
        (on → tr s = false → armed → vos ≤ v → t.raised (railSrc r PHS_TRUNC) r ∧ ∀ l, l < 128 → pres.testBit l = true → (t.port l).trunc = true ∧
          ((s.port l).trunc = false → (t.port l).truncAt = ((cyc * unitsPerCycle : Nat) : Int) ∧ (t.port l).fire = none)) ∧
        (on → tr s = true → tr t = !decide (armed ∧ v < vos - ((s.rd (PHS_RAIL_HYS r)).toNat : Int))) ∧
        (∀ o, on → (s.railState r = 1 ∨ s.railState r = 3 ∨ s.railState r = 4) → s.flag (PHS_RAIL_CTL r) PHS_RAIL_CTL_AF_EN = true → (s.rail r).armed = true →
          v ≤ (s.rd (PHS_RAIL_VUS r)).toInt → (s.rail r).hist[7]? = some o → v - o ≤ -((s.rd (PHS_RAIL_DVDT r)).toNat : Int) →
          t.flag (PHS_RAIL_STAT r) PHS_RAIL_STAT_AF_SEEN = true ∧ (t.rail r).armed = false ∧ t.raised (railSrc r PHS_ALLFIRE) r))

/-- R181 to R184, R187 to R194: FUSE_GRID_POINT, FUSE_INRUSH_TIMEOUT, FUSE_RETRY_PROGRESS_CHECK, FUSE_OFFTIME_EXPIRE,
FUSE_CLEAN_EXPIRE, ORING_GRID_POINT. -/
def Obligations.FuseAndOringUnits : Prop :=
  ∀ (s : State) (p cyc c : Nat) (im vm : Int) (conv : PortConv), p < 128 → s.pstate p = 1 →
    let x := s.fuse p
    let alone := fun (t : State) (own : List Loc) => Leaves s t own ∧ t.cores = s.cores ∧ ∀ q, q ≠ p → t.port q = s.port q ∧ t.fuse q = s.fuse q
    let own := [FUS_STAT p, FUS_ACC p, FUS_TRIP_CNT p]
    let get := fun (t : State) (f : Fld) => t.getF (FUS_STAT p) f
    let failed := fun (t : State) (c : Nat) =>
      let retry := s.fusSt p = 1 ∧ s.flag (FUS_STAT p) FUS_STAT_RETRY = true
      let n := if retry then min 15 (get s FUS_STAT_RCNT + 1) else get s FUS_STAT_RCNT
      get t FUS_STAT_CAUSE = c ∧ get t FUS_STAT_RCNT = n ∧ (t.fuse p).offRuns = true ∧ (t.fuse p).gref = 0 ∧ (t.port p).ga = false ∧
      t.fusSt p = (if s.getF (FUS_RETRY p) FUS_RETRY_COUNT ≤ n then 4 else 3) ∧ (s.getF (FUS_RETRY p) FUS_RETRY_COUNT ≤ n → t.raised (portSrc p FUS_LATCHED) p) ∧
      (retry → t.raised (portSrc p FUS_RETRY_FAIL) p) ∧ (c ≠ 4 → s.counts1 t (FUS_TRIP_CNT p)) ∧ (c ≠ 4 → c ≠ 1 → t.raised (portSrc p FUS_TRIP) p)
    let quiet := (s.port p).envPend = [] ∧ (s.port p).pend = [] ∧ (s.port p).stored = [] ∧ s.tileDown (p / 16) = false ∧ s.pers p = 1 ∧ (s.gridMeans p cyc conv).1 = (im, vm)
    let quietO := (s.port p).envPend = [] ∧ (s.port p).pend = [] ∧ (s.port p).stored = [] ∧ s.tileDown (p / 16) = false ∧ s.pers p = 2 ∧
      (s.gridMean (conv.v.map fun c => s.calV p c)).1 = vm
    let conducts := fun (t : State) => (t.port p).ga = !s.gaHeld p ∧
      (t.fuse p).gb = if (s.port p).drvHold = true then 0 else min ((s.port p).app 2).toInt (t.fuse p).gref
    let law := fun (g : Int) => if s.flag (FUS_CTL p) FUS_CTL_INR_EN = false then 0x7FFFFF
      else
        let iinr := (s.rd (FUS_IINR p)).toInt
        let tgt := if vm ≤ 0 then iinr else min iinr ((s.rd (FUS_PLIM p)).toInt * 2 ^ 23 / vm)
        clampI 0 0x7FFFFF (g + roundOff ((s.rd (FUS_KG p)).toInt * (tgt - im)) 16 .halfEven)
    let vds := (s.rd (FUS_VDS_ON p)).toInt
    let inrush := fun (t : State) (g : Int) => conducts t ∧ (vm ≤ vds → t.fusSt p = 2 ∧ (t.fuse p).gref = 0x7FFFFF ∧ t.flag (FUS_STAT p) FUS_STAT_RETRY = false) ∧
      (vds < vm → t.fusSt p = 1 ∧ (t.fuse p).gref = law g)
    (quiet →
      (s.request p = false → Completes (.fuseGridPoint p cyc conv) s fun t => alone t own ∧ t.fusSt p = 0 ∧ (t.port p).ga = false ∧
        (s.fusSt p ≠ 0 → (t.fuse p).gref = 0 ∧ (t.fuse p).trips = []) ∧
        ((s.fusSt p = 1 ∨ s.fusSt p = 2) → tripCause x.trips = some c → get t FUS_STAT_CAUSE = c ∧ (t.fuse p).offRuns = true ∧
          (c ≠ 4 → s.counts1 t (FUS_TRIP_CNT p)) ∧ (c ≠ 4 → c ≠ 1 → t.raised (portSrc p FUS_TRIP) p))) ∧
      (s.request p = true → x.toggle = false →
        (s.fusSt p = 0 → s.isShed p = false → x.shedOff = false →
          (x.offRuns = false → Completes (.fuseGridPoint p cyc conv) s fun t => alone t own ∧ inrush t (s.rd (FUS_GREF0 p)).toInt ∧
            (t.fuse p).u = 0 ∧ (t.fuse p).v0 = vm ∧ get t FUS_STAT_RCNT = 0) ∧
          (x.offRuns = true → Completes (.fuseGridPoint p cyc conv) s fun t => alone t own ∧ t.fusSt p = 3 ∧ t.flag (FUS_STAT p) FUS_STAT_HELD = true ∧
            t.raised (portSrc p FUS_TOGGLE_HELD) p ∧ (t.port p).ga = false)) ∧
        (s.fusSt p = 1 → x.trips = [] → Completes (.fuseGridPoint p cyc conv) s fun t =>
          alone t own ∧ inrush t x.gref ∧ get t FUS_STAT_RCNT = get s FUS_STAT_RCNT ∧ (t.fuse p).v0 = if x.fresh then vm else x.v0) ∧
        (s.fusSt p = 3 → x.offRuns = false → s.isShed p = false → Completes (.fuseGridPoint p cyc conv) s fun t =>
          alone t own ∧ inrush t (s.rd (FUS_GREF0 p)).toInt ∧ (t.fuse p).v0 = vm) ∧
        ((s.fusSt p = 3 ∧ x.offRuns = true) ∨ s.fusSt p = 4 → Completes (.fuseGridPoint p cyc conv) s fun t =>
          alone t own ∧ t.fusSt p = s.fusSt p ∧ (t.port p).ga = false) ∧
        (s.fusSt p = 2 → x.trips = [] → Completes (.fuseGridPoint p cyc conv) s fun t => alone t own ∧ t.fusSt p = 2 ∧ conducts t ∧ (t.fuse p).gref = x.gref) ∧
        ((s.fusSt p = 1 ∨ s.fusSt p = 2) → tripCause x.trips = some c → Completes (.fuseGridPoint p cyc conv) s fun t => alone t own ∧ failed t c))) ∧
    (s.pers p = 1 → s.fusSt p = 1 →
      (Completes (.fuseInrushTimeout p cyc) s fun t => alone t own ∧ failed t ((tripCause (x.trips ++ [3])).getD 3)) ∧
      (s.flag (FUS_STAT p) FUS_STAT_RETRY = true → 7 * x.v0 < 8 * x.vm → Completes (.fuseRetryProgressCheck p cyc) s fun t => alone t own ∧ failed t 4) ∧
      (8 * x.vm ≤ 7 * x.v0 → Completes (.fuseRetryProgressCheck p cyc) s fun t => t = s)) ∧
    (s.pers p = 1 → s.fusSt p ≠ 3 → Completes (.fuseOfftimeExpire p) s fun t => alone t [] ∧ t.fuse p = { x with offRuns := false }) ∧
    (s.pers p = 1 → s.fusSt p = 3 →
      (s.isShed p = false → Completes (.fuseOfftimeExpire p) s fun t => alone t own ∧ t.fusSt p = 1 ∧ (t.fuse p).gref = (s.rd (FUS_GREF0 p)).toInt ∧
        t.flag (FUS_STAT p) FUS_STAT_RETRY = x.isRetry ∧ (t.fuse p).offRuns = false) ∧
      (s.isShed p = true → Completes (.fuseOfftimeExpire p) s fun t => alone t own ∧ t.fusSt p = 0 ∧ (t.fuse p).shedOff = true)) ∧
    (s.pers p = 1 → s.fusSt p = 2 → Completes (.fuseCleanExpire p) s fun t => alone t own ∧ t.fuses = s.fuses ∧ get t FUS_STAT_RCNT = 0 ∧
      t.fusSt p = 2 ∧ get t FUS_STAT_CAUSE = get s FUS_STAT_CAUSE) ∧
    (quietO →
      let st := fun (t : State) => t.getF (ORG_STAT p) ORG_STAT_STATE
      (s.request p = false → Completes (.oringGridPoint p cyc conv) s fun t => alone t [ORG_STAT p] ∧ st t = 0 ∧ (t.fuse p).gref = 0 ∧ (t.port p).ga = false) ∧
      (s.request p = true → st s ≠ 2 → Completes (.oringGridPoint p cyc conv) s fun t => alone t [ORG_STAT p] ∧
        (st s = 1 → (s.rd (ORG_VON p)).toInt ≤ vm → s.gaHeld p = false → st t = 2 ∧ (t.fuse p).gref = 0x7FFFFF ∧ conducts t) ∧
        (st s ≠ 1 ∨ vm < (s.rd (ORG_VON p)).toInt ∨ s.gaHeld p = true → st t = 1 ∧ (t.fuse p).gref = 0 ∧ (t.port p).ga = false)) ∧
      (s.request p = true → st s = 2 → Completes (.oringGridPoint p cyc conv) s fun t => alone t [ORG_STAT p] ∧
        (vm ≤ -(s.rd (ORG_VOFF p)).toInt → st t = 1 ∧ t.flag (ORG_STAT p) ORG_STAT_SLOW_SEEN = true ∧ t.raised (portSrc p ORG_SLOW_OFF) p ∧ (t.port p).ga = false) ∧
        (-(s.rd (ORG_VOFF p)).toInt < vm → st t = 2 ∧ conducts t ∧ (t.fuse p).gref =
          if s.flag (ORG_CTL p) ORG_CTL_REG = true then clampI (s.rd (ORG_GMIN p)).toInt 0x7FFFFF
            (x.gref + roundOff ((s.rd (ORG_KG p)).toInt * (vm - (s.rd (ORG_VREG p)).toInt)) 16 .halfEven) else 0x7FFFFF)))

/-- R350, R353 to R360: FLT_CLASS_WRITE, FAULT_FORCE, ALIVE_CHANGE_INSTANT, WDG_KEY_WRITE, WDG_CONFIG_WRITE, WDG_EXPIRY, OSC_LOST, CLK_LOST. -/
def Obligations.FaultWritesAndWatchdog : Prop :=
  ∀ (s : State) (a : Arr) (x n win tier e cyc k : Nat) (ms : Bool) (w : Word), a.port < 21 → x < 3584 → k < 3 →
    let still := fun (t : State) (own : List Loc) => Leaves s t own ∧ t.cores = s.cores ∧ t.links = s.links
    let now := max e s.wdg.elapsed
    let wdgRegs := [WDG_STAT, WDG_TIMER]
    let expired := fun (c : Nat) (t : State) => t.dmem = s.dmem ∧ t.cores = s.cores ∧ t.otp = s.otp ∧ t.wdg.running = false ∧
      t.wdg.pulse = some (s.getF WDG_PULSE WDG_PULSE_WIDTH) ∧ t.flag WDG_STAT WDG_STAT_EXPIRED = true ∧ t.getF WDG_STAT WDG_STAT_CAUSE = c ∧
      t.flag WDG_STAT WDG_STAT_RUN = false ∧ t.flag WDG_STAT WDG_STAT_OPEN = false ∧ t.flt.aliveStopped = true ∧
      t.getF FLT_ALIVE FLT_ALIVE_LEVEL = s.getF FLT_ALIVE FLT_ALIVE_LEVEL ∧ (c ≠ 5 → t.raised WDG_EXPIRED 0xFF) ∧ (c = 5 → t.wdg.owed = true) ∧
      (c = 5 ∨ s.getF WDG_CTL WDG_CTL_ACT ≠ 0 → ∀ p, p < 128 → t.pstate p = 2) ∧ (c ≠ 5 → s.getF WDG_CTL WDG_CTL_ACT = 0 → t.ports = s.ports)
    let cfg := Loc.pkg (0x2600 + k)
    let takes := fun (t : State) => still t (cfg :: wdgRegs) ∧ t.ports = s.ports ∧ t.ans = (0, []) ∧ ∀ d, cfg.desc = some d → t.rd cfg = d.taken w
    let cw := FLT_CLS_N.put (FLT_CLS_WUNIT.put (FLT_CLS_W.put 0 win) (b2n ms)) n
    let sw := FLT_SRC_TIER.put (s.heldWord (FLT_SRC x)) tier
    (1 ≤ n → n < 256 → 1 ≤ win → win < 16384 → (ms = true → win ≤ 10000) → tier < 4 → s.admits (a.access s true [((FLT_CLS x).addr, cw), ((FLT_SRC x).addr, sw)]) = true →
      Completes (.fltClassWrite a x n ms win tier) s fun t => still t [FLT_CLS x] ∧ t.ports = s.ports ∧ t.getF (FLT_CLS x) FLT_CLS_N = n ∧
        t.flag (FLT_CLS x) FLT_CLS_WUNIT = ms ∧ t.getF (FLT_CLS x) FLT_CLS_W = win ∧ t.getF (FLT_SRC x) FLT_SRC_TIER = tier ∧ t.flt.cls = s.flt.cls ∧
        t.flt.queue = s.flt.queue ∧ (t.rd (FLT_CLS x) ≠ s.rd (FLT_CLS x) ∨ tier ≠ s.getF (FLT_SRC x) FLT_SRC_TIER → x ∈ t.flt.chg)) ∧
    (isSource x = true → s.admitsField a (FLT_SRC x) FLT_SRC_FORCE 1 = true → Completes (.faultForce a x) s fun t => still t [] ∧ t.ports = s.ports ∧
      t.flt.queue = s.flt.queue ++ [⟨x, ownArg x, s.mer.count, s.stamp a.cyc, true⟩] ∧ t.flag (FLT_SRC x) FLT_SRC_SEEN = true ∧ t.flt.chg = s.flt.chg) ∧
    (Completes (.aliveChangeInstant e) s fun t => still t (FLT_ALIVE :: wdgRegs) ∧ t.ports = s.ports ∧
      let on := s.flt.aliveOn = true ∧ s.flt.aliveStopped = false
      (s.flt.aliveOn = true → t.flt = { s.flt with sSeen := false }) ∧ (s.flt.aliveOn = false → t.flt = s.flt) ∧
      (on → s.flt.sSeen = true → t.getF FLT_ALIVE FLT_ALIVE_LEVEL = 1 - s.getF FLT_ALIVE FLT_ALIVE_LEVEL ∧ t.getF FLT_ALIVE FLT_ALIVE_CAUSE = 0) ∧
      (on → s.flt.sSeen = false → t.getF FLT_ALIVE FLT_ALIVE_LEVEL = s.getF FLT_ALIVE FLT_ALIVE_LEVEL ∧ t.getF FLT_ALIVE FLT_ALIVE_CAUSE = 3) ∧
      (¬ on → t.rd FLT_ALIVE = s.rd FLT_ALIVE)) ∧
    (s.admitsPut a WDG_KEY w = true →
      (s.wdg.running = false → Completes (.wdgKeyWrite a w e) s fun t => still t [] ∧ t.ports = s.ports ∧ t.wdg = s.wdg) ∧
      (s.wdg.running = true →
        (s.wdg.lapsed now = true → Completes (.wdgKeyWrite a w e) s (expired 1)) ∧
        (s.wdg.lapsed now = false → s.wdg.closed now = true → Completes (.wdgKeyWrite a w e) s (expired 2)) ∧
        (s.wdg.lapsed now = false → s.wdg.closed now = false →
          (w = 0x5A3C96 → Completes (.wdgKeyWrite a w e) s fun t => still t wdgRegs ∧ t.ports = s.ports ∧ t.flag WDG_STAT WDG_STAT_KEY1 = true ∧
            t.wdg = { s.wdg with elapsed := now }) ∧
          (w = 0xA5C369 → s.flag WDG_STAT WDG_STAT_KEY1 = true → Completes (.wdgKeyWrite a w e) s fun t => still t wdgRegs ∧ t.ports = s.ports ∧
            t.flag WDG_STAT WDG_STAT_KEY1 = false ∧ t.getF WDG_TIMER WDG_TIMER_ELAPSED = 0 ∧
            t.wdg = { s.wdg with elapsed := 0, period := s.getF WDG_PERIOD WDG_PERIOD_P, win := s.getF WDG_CTL WDG_CTL_WIN }) ∧
          (w ≠ 0x5A3C96 → (w ≠ 0xA5C369 ∨ s.flag WDG_STAT WDG_STAT_KEY1 = false) → Completes (.wdgKeyWrite a w e) s (expired 3))))) ∧
    (s.admitsPut a cfg w = true → s.legalWord cfg w = true →
      (s.wdg.running = true → s.wdg.lapsed now = false →
        (s.wdg.closed now = false → Completes (.wdgConfigWrite a k w e) s takes) ∧
        (s.wdg.closed now = true → Completes (.wdgConfigWrite a k w e) s fun t => still t wdgRegs ∧ t.ports = s.ports ∧ t.ans = (3, []) ∧
          t.raised WDG_CFG_REFUSED 0xFF)) ∧
      (s.wdg.running = false → s.flag WDG_STAT WDG_STAT_EXPIRED = true → Completes (.wdgConfigWrite a k w e) s fun t => still t [] ∧ t.ans = (3, [])) ∧
      (s.wdg.running = false → s.flag WDG_STAT WDG_STAT_EXPIRED = false → Completes (.wdgConfigWrite a k w e) s takes)) ∧
    (s.wdg.running = true →
      (s.wdg.lapsed now = true → Completes (.wdgExpiry e cyc) s (expired 1)) ∧
      (s.wdg.lapsed now = false → Completes (.wdgExpiry e cyc) s fun t => still t wdgRegs ∧ t.ports = s.ports ∧ t.wdg = { s.wdg with elapsed := now }) ∧
      Completes (.oscLost cyc) s (expired 4) ∧ Completes (.clkLost e) s (expired 5)) ∧
    (s.wdg.running = false → ∀ c ∈ [Instr.wdgExpiry e cyc, .oscLost cyc, .clkLost e], Completes c s fun t => t = s)

/-- R363, R366, R367, R369, R370, R373 to R377: RECORDER_FLUSH, FLUSH_PERIODIC, REC_FLUSH_CMD, FLUSH_COMPLETE, TOKEN_REFILL, REC_CLEAR,
REC_FETCH, REC_FETCH_DONE, REC_HQ_WRITE, REC_STREAM_SEND. -/
def Obligations.RecorderRules : Prop :=
  ∀ (s : State) (a : Arr) (failed : List Nat) (ok : Bool) (i q m cyc k v : Nat) (w : Word) (r : Rec) (b : Session), a.port < 21 → q < 64 →
    let still := fun (t : State) (own : List Loc) => Leaves s t own ∧ t.ports = s.ports ∧ t.links = s.links
    let x := s.rcd
    let triggers := [Instr.recorderFlush, .flushPeriodic]
    let starts := fun (t : State) => still t [REC_STAT2] ∧ (x.flushing = true → t.rcd = { x with again := true } ∧ t.rd REC_STAT2 = s.rd REC_STAT2) ∧
      (x.flushing = false → t.flag REC_STAT2 REC_STAT2_FLUSHING = true ∧
        t.rcd = { x with flushing := true, flushN := x.buf.length, supOut := s.supRecords, supp := [], next := x.next + s.supRecords.length })
    let l := x.buf.take x.flushN ++ x.supOut
    (∀ c ∈ triggers, Completes c s starts) ∧
    (s.admitsPut a REC_CMD 1 = true → Completes (.recFlushCmd a) s starts) ∧
    (x.flushing = true → x.clearWait = [] → x.again = false → l.Pairwise (fun y z => y.rnum % 16384 ≠ z.rnum % 16384) →
      Completes (.flushComplete failed ok cyc) s fun t => still t [REC_STAT, REC_STAT2] ∧ t.rcd.flushing = false ∧ t.rcd.buf = x.buf.drop x.flushN ∧
        t.rcd.supOut = [] ∧ t.flag REC_STAT2 REC_STAT2_FLUSHING = false ∧ ((t.core 128).sreg 3).getLsbD 12 = true ∧
        (∀ y ∈ l, (y.rnum ∉ failed → Tab.get none t.rcd.rolling (y.rnum % 16384) = some y ∧ (y.rnum < 4096 → Tab.get none t.rcd.perm y.rnum = some y)) ∧
          (y.rnum ∈ failed → Tab.get none t.rcd.rolling (y.rnum % 16384) = none ∧ y.rnum ∈ t.rcd.bad ∧ t.raised REC_NVM_ERR 0xFF) ∧
          (y.rnum = 4095 → t.flag REC_STAT2 REC_STAT2_PERM_FULL = true)) ∧
        (ok = true → (∀ z, x.newest = some z → z.seq + 1 < 2 ^ 24) → ∃ c : RecSave, t.rcd.newest = some c ∧ c.bins = x.bins ∧ c.ext = x.ext ∧ c.base = x.base ∧ c.hours = x.hours ∧ c.cycles = x.cycles ∧
          (t.rcd.copies.a = x.copies.a ∨ t.rcd.copies.b = x.copies.b)) ∧
        (ok = false → t.rcd.newest = x.newest ∧ t.raised REC_NVM_ERR 0xFF)) ∧
    (x.spent = [] → Completes .tokenRefill s fun t => t = { s with rcd := { x with lack := x.lack - 1 } }) ∧
    (x.spent = [(k, some v)] → Completes .tokenRefill s fun t => still t [] ∧ t.rcd.lack = x.lack - 1 ∧ (Tab.get none t.rcd.spent k).getD t.rcd.lack = v - 1) ∧
    (s.admitsPut a REC_CMD 2 = true →
      (x.flushing = true → Completes (.recClear a) s fun t => still t [] ∧ t.rcd = { x with clearWait := x.clearWait ++ [a.port] }) ∧
      (x.flushing = false → x.wait = [] → x.buf.length < 1820 → Completes (.recClear a) s fun t => still t [REC_STAT, REC_STAT2] ∧
        t.rcd.clears = min 0xFFFFFF (x.clears + 1) ∧ t.rcd.base = x.next ∧ t.rcd.bins = [] ∧ t.rcd.ext = [] ∧ t.rcd.flushing = true ∧
        ∃ y ∈ t.rcd.buf, y.type = 2 ∧ y.code = 9 ∧ y.arg = a.port ∧ y.d0 = min 0xFFFFFF (x.clears + 1) ∧ y.rnum = x.next)) ∧
    (s.admitsPut a REC_RD_IDX_HI w = true → Completes (.recFetch a w) s fun t => still t [REC_RD_IDX_LO, REC_RD_IDX_HI, REC_RD_STAT] ∧
      t.rcd = { x with fetch := some (s.getF REC_RD_SEL REC_RD_SEL_AREA, t.rdPair REC_RD_IDX_LO REC_RD_IDX_HI) } ∧
      t.rd REC_RD_IDX_LO = (Tab.get none s.wide REC_RD_IDX_LO.addr).getD (s.rd REC_RD_IDX_LO) ∧ t.flag REC_RD_STAT REC_RD_STAT_BUSY = true) ∧
    (let done := fun (t : State) (res : Nat) => still t (REC_RD_STAT :: (List.range 12).map REC_RD_W) ∧ t.rcd = { x with fetch := none } ∧
        t.flag REC_RD_STAT REC_RD_STAT_BUSY = false ∧ t.getF REC_RD_STAT REC_RD_STAT_RESULT = res
     (x.fetch = some (0, i) →
        (s.recFind i = some (some r) → Completes .recFetchDone s fun t => done t 0 ∧ ∀ j, j < 12 → t.rd (REC_RD_W j) = r.words.getD j 0) ∧
        (s.recFind i = none → Completes .recFetchDone s fun t => done t 1 ∧ ∀ j, j < 12 → t.rd (REC_RD_W j) = s.rd (REC_RD_W j)) ∧
        (s.recFind i = some none → Completes .recFetchDone s fun t => done t 2)) ∧
      (x.fetch = some (1, i) → i < 2048 → Completes .recFetchDone s fun t => done t 0 ∧ t.rd (REC_RD_W 0) = lo24 (Tab.get 0 x.bins i)) ∧
      (x.fetch = some (2, i) → i < 64 → Completes .recFetchDone s fun t => done t 0 ∧ t.rd (REC_RD_W 0) = (Tab.get {} x.ext i).min ∧
        t.rd (REC_RD_W 1) = (Tab.get {} x.ext i).max) ∧
      (x.fetch = none → Completes .recFetchDone s fun t => t = s)) ∧
    (s.admitsPut a (REC_HQ0 q) w = true →
      (hqOk w = true → Completes (.recHqWrite a q w) s fun t => still t [REC_HQ0 q] ∧ t.getF (REC_HQ0 q) REC_HQ0_ADDR = REC_HQ0_ADDR.get w ∧
        t.flag (REC_HQ0 q) REC_HQ0_EN = REC_HQ0_EN.on w ∧ Tab.get {} t.rcd.ext q = {} ∧
        (∀ j, j / 32 = q → Tab.get 0 t.rcd.bins j = 0) ∧ (∀ j, j / 32 ≠ q → Tab.get 0 t.rcd.bins j = Tab.get 0 x.bins j)) ∧
      (hqOk w = false → Completes (.recHqWrite a q w) s fun t => still t [] ∧ t.rcd = x ∧ t.ans = (3, []))) ∧
    (s.flag REC_CTL REC_CTL_STRM_EN = false → Completes (.recStreamSend cyc) s fun t => t = s) ∧
    (s.flag REC_CTL REC_CTL_STRM_EN = true →
      (s.flag REC_CTL REC_CTL_STRM_LINK = true → s.recNext x.strmNext = some r → s.routeTo (s.getF REC_STRM REC_STRM_DEST) = some m → (s.link m).shared.length < 64 →
        Completes (.recStreamSend cyc) s fun t => Leaves s t [] ∧ t.rcd = { x with strmNext := r.rnum + 1 } ∧ (t.link m).shared = (s.link m).shared ++
          [⟨(s.number (s.cellOf 0xB (s.getF REC_STRM REC_STRM_DEST) (r.words ++ [0, 0, 0, 0]))).1, false, s.mer.count, cyc, false⟩]) ∧
      (s.flag REC_CTL REC_CTL_STRM_LINK = false → s.mgt.recs = some b → s.recNext b.live = some r → s.getF MGT_STAT MGT_STAT_REC < 2 →
        Completes (.recStreamSend cyc) s fun t => still t [] ∧ t.rcd = x ∧ t.mgt = { s.mgt.sentOn (s.getF MGT_STAT MGT_STAT_REC) (s.toward b.ip)
          (.dgram { s.dgramOf 0x12 b.ip b.sport b.num r.words with off := r.rnum }) with recs := some { b with live := r.rnum + 1 } }))

/-- R381 to R384, R386, R387, R389, R390, R392, R393: RO_MONITOR_REPORT, AVS_STEP, CAP_PROBE_BURST_START, CAP_PROBE_COMPLETE, ATLAS_REVISION,
ATLAS_REVISION_COMPLETE, AGE_BASELINE_RESET. -/
def Obligations.AgeingRules : Prop :=
  ∀ (s : State) (a : Arr) (n p r cyc : Nat) (m : Fin 4 → Nat) (tj : Int) (rev : List (Int × Int)) (ok : Bool) (b : Burst), a.port < 21 → n < 8 → p < 128 → r < 16 →
    let still := fun (t : State) (own : List Loc) => Leaves s t own ∧ t.ports = s.ports ∧ t.cores = s.cores
    let run := (List.range 8).filter s.tileRuns
    let least := run.foldl (fun m n => min m (s.tileMargin n)) 63
    let old := s.getF AGE_VREQ AGE_VREQ_MV
    let req := if run = [] then old else if least < s.getF AGE_AVS AGE_AVS_LO then min (old + 5) 850 else if s.getF AGE_AVS AGE_AVS_HI < least then max (old - 5) 700 else old
    let closed := fun (q z : AgeQ) => z.sum = 0 ∧ z.n = 0 ∧ (q.base ≠ some 0 → z.ratio = (match q.base with
      | some v => if q.n ≠ 0 ∧ s.getF AGE_CTL AGE_CTL_MINS ≤ q.n then min 0x7FFFFF (65536 * (q.sum / q.n) / v) else q.ratio
      | none => q.ratio))
    let rebased := fun (x y : AgePort) => y.rho = { x.rho with base := none, await := true, ratio := 65536 } ∧
      y.kf = { x.kf with base := none, await := true, ratio := 65536 } ∧ y.res = none ∧ y.d = x.d
    (s.tileRuns n = false → Completes (.roMonitorReport n (m 0) (m 1) (m 2) (m 3) tj cyc) s fun t => t = s) ∧
    (s.tileRuns n = true → -2048 ≤ tj → tj < 2048 → Completes (.roMonitorReport n (m 0) (m 1) (m 2) (m 3) tj cyc) s fun t =>
      still t (AGE_TJ n :: (List.range 4).map (AGE_RO n)) ∧ t.age = s.age ∧ (∀ k : Fin 4, t.getF (AGE_RO n k) AGE_RO_MARGIN = min 63 (m k)) ∧
      (BitVec.ofNat 12 (t.getF (AGE_TJ n) AGE_TJ_TJ)).toInt = tj ∧ ((∃ k, m k < 4) → t.raised (tileSrc n AGE_RO_LOW) n)) ∧
    (s.getF AGE_AVS AGE_AVS_TADDR = 0 → Completes (.avsStep cyc) s fun t => still t (AGE_VREQ :: recordLocs) ∧ t.buses = s.buses ∧
      t.getF AGE_VREQ AGE_VREQ_MV = req ∧ (req ≠ old → t.age.avs = 1) ∧
      (least < s.getF AGE_AVS AGE_AVS_LO → old = 850 → s.age.lowRun = 9 → t.raised AGE_VCORE_LIMIT 0xFF)) ∧
    (let k := s.getF AGE_AVS_BUS AGE_AVS_BUS_BUS
     s.getF AGE_AVS AGE_AVS_TADDR ≠ 0 → s.busController k = true → s.flag (TWB_STAT k) TWB_STAT_BUSY = false → req ≠ old → Completes (.avsStep cyc) s fun t =>
      still t (AGE_VREQ :: TWB_STAT k :: recordLocs) ∧ t.getF AGE_VREQ AGE_VREQ_MV = req ∧ t.flag (TWB_STAT k) TWB_STAT_BUSY = true ∧
      t.age.avs = 0 ∧ ∃ y, t.age.sent = some y ∧
        t.bus k = { s.bus k with
          xfer := some (s.getF (TWB_CTL k) TWB_CTL_RETRY), avs := true, wrote := writePart (s.getF AGE_AVS AGE_AVS_TADDR) [0x21, y % 256, y / 256] true }) ∧
    (s.flag (AGE_CAP_CTL r) AGE_CAP_CTL_EN = true → s.burst r = none → Completes (.capProbeBurstStart r) s fun t => still t [] ∧
      t.burst r = some { caps := s.capEntries } ∧ ∀ q, q ≠ r → t.burst q = s.burst q) ∧
    (s.flag (AGE_CAP_CTL r) AGE_CAP_CTL_EN = false ∨ s.burst r ≠ none → Completes (.capProbeBurstStart r) s fun t => t = s) ∧
    (s.burst r = some b → b.ended = true → Completes (.capProbeComplete r rev) s fun t => still t [] ∧ t.burst r = none ∧
      let h := s.halfTicks r
      let a2 := b.plus - b.minus
      let j := (rev.map fun e => (e.2 - e.1).natAbs).foldl (· + ·) 0
      let few := a2 < 2 * (8 * (h : Int)) * (s.getF (AGE_CAP_AMP r) AGE_CAP_AMP_AMIN * 4096)
      (few → t.ageRail r = s.ageRail r) ∧
      (¬ few →
        (∃ x, (t.ageRail r).kc = (s.ageRail r).kc.add x ∧ (b.dv ≠ 0 → x = a2.toNat * 16 * h * 2 ^ 24 / (2 * (8 * h) * b.dv))) ∧
        ∃ y, (t.ageRail r).ke = (s.ageRail r).ke.add y ∧ (a2 ≠ 0 → y = j * (8 * h) * 2 ^ 24 / (16 * a2.toNat)))) ∧
    (s.burst r = some b → b.ended = false → Completes (.capProbeComplete r rev) s fun t => t = s) ∧
    (s.opSeconds < s.age.due → Completes (.atlasRevision cyc) s fun t => t = s) ∧
    (s.age.due ≤ s.opSeconds →
      (s.reviseWaits = true → Completes (.atlasRevision cyc) s fun t => t = { s with age := { s.age with again := true } }) ∧
      (s.reviseWaits = false → s.flag AGE_CTL AGE_CTL_APPLY = false → Completes (.atlasRevision cyc) s fun t => still t (AGE_SI_MEAN :: recordLocs) ∧
        t.age.rev = s.age.rev + 1 ∧ t.age.revising = true ∧ t.age.due = (s.opSeconds / 86400 + 1) * 86400 ∧
        closed (s.agePort p).rho (t.agePort p).rho ∧ closed (s.agePort p).kf (t.agePort p).kf ∧
        closed (s.ageRail r).kc (t.ageRail r).kc ∧ closed (s.ageRail r).ke (t.ageRail r).ke)) ∧
    (s.age.revising = false → Completes (.atlasRevisionComplete ok cyc) s fun t => t = s) ∧
    (s.age.revising = true → s.age.again = false → Completes (.atlasRevisionComplete ok cyc) s fun t => still t [] ∧ t.age.revising = false ∧
      t.age.ports = s.age.ports ∧ (ok = false → t.raised AGE_NVM_ERR 0xFF) ∧
      (let x := s.age.copies
       let y := t.age.copies
       (ok = false → y.newest AgeCopy.words (·.seq) = x.newest AgeCopy.words (·.seq)) ∧
       (ok = true → ∃ v : AgeCopy, v.rev = s.age.rev ∧
        (y.a = some (sealCopy AgeCopy.words v) ∧ y.b = x.b ∨ y.b = some (sealCopy AgeCopy.words v) ∧ y.a = x.a)))) ∧
    (let w := fun (all : Bool) => AGE_CMD_BASE.put (AGE_CMD_ALL.put (AGE_CMD_PORT.put 0 p) (b2n all)) 1
     (s.admitsPut a AGE_CMD (w false) = true → Completes (.ageBaselineReset a p false) s fun t => still t (AGE_CMD :: recordLocs) ∧
      rebased (s.agePort p) (t.agePort p) ∧ ∀ q, q ≠ p → t.agePort q = s.agePort q) ∧
     (s.admitsPut a AGE_CMD (w true) = true → Completes (.ageBaselineReset a p true) s fun t => still t (AGE_CMD :: recordLocs) ∧
      ∀ q, q < 128 → rebased (s.agePort q) (t.agePort q)))

/-- R429 to R434, R439 to R441: the UPD_ rows, ACTIVATION_CHECKS_DONE, CONFIRM_WINDOW_EXPIRE, FALLBACK, FALLBACK_TIMEOUT. -/
def Obligations.UpdateRules : Prop :=
  ∀ (s : State) (a : Arr) (ok : Bool) (cyc n : Nat) (w : Word) (d : DlSt), a.port < 21 → n < 8 →
    let st := s.updState
    let still := fun (t : State) => t.dmem = s.dmem ∧ t.otp = s.otp ∧ t.ports = s.ports ∧ t.pending = s.pending
    let quiet := fun (t : State) => still t ∧ Leaves s t (UPD_STAT :: UPD_VER_NEW :: recordLocs)
    let cmd := fun (k : Nat) => s.admitsPut a UPD_CMD (BitVec.ofNat 24 k) = true
    let wrong := fun (t : State) => Leaves s t [UPD_STAT] ∧ t.upd = s.upd ∧ t.updState = st ∧ t.getF UPD_STAT UPD_STAT_ERR = 1 ∧ t.ans = (3, [])
    let failed := fun (t : State) => t.updState = 0 ∧ t.getF UPD_STAT UPD_STAT_ERR = 8 ∧ t.raised UPD_FLASH_ERR 0xFF ∧ t.upd.dl = none ∧ t.flash = s.flash
    let fell := fun (k : Nat) (t : State) => still t ∧ t.flash = s.flash ∧ t.updState = 7 ∧ t.getF UPD_STAT UPD_STAT_FB_REASON = k ∧ t.raised UPD_FALLBACK 0xFF ∧
      t.flag LAN_SW_STAT LAN_SW_STAT_PEND = true ∧ t.upd.confirming = false ∧
      ∃ q, t.switch = some q ∧ q.kind = 2 ∧ q.lanes = s.upd.lanes.filter fun l => !s.tileDown (l / 16)
    let base := slotBase s.target
    let at_ := s.rdPair UPD_DL_ADDR_LO UPD_DL_ADDR_HI
    let dlRegs := [UPD_DL_DATA, UPD_DL_ADDR_LO, UPD_DL_ADDR_HI, UPD_STAT]
    (cmd 1 →
      ((st = 0 ∨ st = 2 ∨ st = 4) → Completes (.updOpen a ok) s fun t => still t ∧ t.getF UPD_STAT UPD_STAT_SLOT = s.target % 2 ∧
        (ok = true → t.updState = 1 ∧ t.upd.dl = some {} ∧ ∀ k, t.flashByte k = if base ≤ k ∧ k < base + 4096 then 0xFF else s.flashByte k) ∧
        (ok = false → failed t)) ∧
      (¬ (st = 0 ∨ st = 2 ∨ st = 4) → Completes (.updOpen a ok) s wrong)) ∧
    (cmd 8 →
      ((st = 1 ∨ st = 2 ∨ st = 4) → Completes (.updAbort a) s fun t => quiet t ∧ t.updState = 0 ∧ t.upd = { s.upd with dl := none }) ∧
      (st = 5 → s.activationSwitch = false → Completes (.updAbort a) s fun t => quiet t ∧ t.updState = 4 ∧ t.raised UPD_ACT_FAIL 0xFF ∧ t.upd.lanes = []) ∧
      ((st = 0 ∨ st = 3 ∨ st = 6 ∨ st = 7 ∨ (st = 5 ∧ s.activationSwitch = true)) → Completes (.updAbort a) s wrong)) ∧
    (cmd 2 →
      (st = 2 → Completes (.updVerify a) s fun t => quiet t ∧ t.updState = 3 ∧ t.getF UPD_STAT UPD_STAT_CHECK = 0 ∧ t.upd = s.upd) ∧
      (st ≠ 2 → Completes (.updVerify a) s wrong)) ∧
    (st = 3 →
      (s.verifySlot s.target = 0 → Completes (.updVerifyComplete cyc) s fun t => quiet t ∧ t.updState = 4 ∧
        t.rd UPD_VER_NEW = BitVec.ofNat 24 (s.imgVersion s.target)) ∧
      (s.verifySlot s.target ≠ 0 → Completes (.updVerifyComplete cyc) s fun t => quiet t ∧ t.updState = 2 ∧
        t.getF UPD_STAT UPD_STAT_CHECK = s.verifySlot s.target ∧ t.getF UPD_STAT UPD_STAT_ERR = 2 ∧ t.raised UPD_VERIFY_FAIL 0xFF)) ∧
    (st ≠ 3 → Completes (.updVerifyComplete cyc) s fun t => t = s) ∧
    (cmd 4 →
      (st = 4 → s.activateErr = 0 → Completes (.updActivate a) s fun t => quiet t ∧ t.updState = 5 ∧ t.upd.lanes = s.imgLanes ∧ t.ans = (0, [])) ∧
      (st = 4 → s.activateErr ≠ 0 → Completes (.updActivate a) s fun t => quiet t ∧ t.updState = 4 ∧ t.getF UPD_STAT UPD_STAT_ERR = s.activateErr ∧
        t.upd = s.upd ∧ t.ans = (3, [])) ∧
      (st ≠ 4 → Completes (.updActivate a) s wrong)) ∧
    (st = 5 → s.activationSwitch = false → Completes .activationChecksDone s fun t => still t ∧
      ((t.updState = 4 ∧ t.raised UPD_ACT_FAIL 0xFF ∧ t.flash = s.flash ∧ t.getF UPD_STAT UPD_STAT_ERR ∈ [4, 6, 7]) ∨
        (t.updState = 5 ∧ t.flag LAN_SW_STAT LAN_SW_STAT_PEND = true ∧ ∃ q, t.switch = some q ∧ q.kind = 1 ∧ q.lanes = s.upd.lanes)) ∧
      (s.upd.lanes = [] → s.switch = none → t.updState = 5) ∧ (s.upd.lanes = [] → s.switch ≠ none → t.updState = 4 ∧ t.getF UPD_STAT UPD_STAT_ERR = 7) ∧
      (s.tileDown n = false → (∀ l ∈ s.upd.lanes, l < 128) → Tab.get false (t.core (128 + n)).verified (1 - (s.core (128 + n)).bank) = true)) ∧
    (cmd 16 → (st = 6 → Completes (.updReject a) s (fell 2)) ∧ (st ≠ 6 → Completes (.updReject a) s wrong)) ∧
    (s.admitsPut a UPD_DL_DATA w = true →
      ((st ≠ 1 ∨ s.durable ≠ at_) → Completes (.updDlDataWrite a w ok) s fun t => Leaves s t [UPD_DL_DATA] ∧ still t ∧ t.upd = s.upd) ∧
      (st = 1 → s.upd.dl = some d → d.exp = at_ →
        (ok = false → Completes (.updDlDataWrite a w ok) s fun t => still t ∧ failed t) ∧
        (ok = true → d.exp + 3 ≤ 512 → Completes (.updDlDataWrite a w ok) s fun t => Leaves s t dlRegs ∧ still t ∧ t.updState = 1 ∧
          t.upd.dl = some { d with exp := d.exp + 3, head := d.head ++ wordBytes w } ∧ t.rdPair UPD_DL_ADDR_LO UPD_DL_ADDR_HI = (at_ + 3) % 2 ^ 32) ∧
        (ok = true → 512 ≤ d.exp → d.exp + 3 < d.length → (d.exp + 2) / 4096 ≤ d.erased → Completes (.updDlDataWrite a w ok) s fun t => still t ∧
          t.updState = 1 ∧ t.upd.dl = some { d with exp := d.exp + 3 } ∧ t.rdPair UPD_DL_ADDR_LO UPD_DL_ADDR_HI = (at_ + 3) % 2 ^ 32 ∧
          ∀ k, t.flashByte k = if base + d.exp ≤ k ∧ k < base + d.exp + 3 then (wordBytes w).getD (k - (base + d.exp)) 0 else s.flashByte k))) ∧
    (s.admitsPut a UPD_CONFIRM w = true →
      (13 ≤ a.port → w = 0x3CC3A5 → st = 6 → Completes (.updConfirm a w) s fun t => quiet t ∧ t.upd = { s.upd with confirming := true } ∧ t.ans = (0, [])) ∧
      ((a.port < 13 ∨ w ≠ 0x3CC3A5 ∨ st ≠ 6) → Completes (.updConfirm a w) s fun t => quiet t ∧ t.upd = s.upd ∧ t.ans = (3, []))) ∧
    (s.upd.confirming = true → st = 6 → (∀ z, s.upd.bootRec = some z → z.seq + 1 < 2 ^ 24) → Completes .updConfirmComplete s fun t => still t ∧ t.updState = 0 ∧ t.getF UPD_REMAIN UPD_REMAIN_SEC = 0 ∧
      t.upd.confirming = false ∧ ∃ q, t.upd.bootRec = some q ∧ q.trial = false ∧ q.cslot = s.runSlot ∧ q.ver = s.runVersion ∧
        ∀ z, s.upd.bootRec = some z → q.seq = z.seq + 1 ∧ q.cset = z.tset) ∧
    (s.upd.confirming = false ∨ st ≠ 6 → Completes .updConfirmComplete s fun t => t = s) ∧
    (s.getF UPD_REMAIN UPD_REMAIN_SEC = 0 → s.upd.confirming = false → st = 6 → Completes (.confirmWindowExpire cyc) s (fell 1)) ∧
    (s.getF UPD_REMAIN UPD_REMAIN_SEC ≠ 0 ∨ s.upd.confirming = true ∨ st ≠ 6 → Completes (.confirmWindowExpire cyc) s fun t => t = s) ∧
    (st = 6 →
      (s.flt.top = 4 → s.flag UPD_CTL UPD_CTL_FB_T3 = true → Completes (.fallback cyc) s (fell 3)) ∧
      (s.tileDown n = true → s.flt.top ≠ 4 → Completes (.fallback cyc) s (fell 4)) ∧
      (s.fallbackDue = none → Completes (.fallback cyc) s fun t => t = s)) ∧
    (st = 7 → Completes .fallbackTimeout s fun t => quiet t ∧ t.updState = 7 ∧ t.getF UPD_STAT UPD_STAT_FB_REASON = 5 ∧
      t.boot = { s.boot with reset := max 1 s.boot.reset }) ∧
    (st ≠ 7 → Completes .fallbackTimeout s fun t => t = s)

/-- R452, R453, R455, R457, R460: PRF_TAG_CTL_WRITE, TAG_POP, CENSUS_DRAIN_DONE, TRACE_ARM, TRACE_FORCE, TRACE_CROSS_TRIGGER, TAP_RESET,
EXTEST, SAMPLE_PRELOAD, IDCODE, BYPASS, DEBUG_SESSION_WRITE. -/
def Obligations.TaggingCensusTrace : Prop :=
  ∀ (a : Arr) (s : State) (n cyc : Nat) (w : Word) (on : Bool) (bits : List Bool), a.port < 21 → n < 8 → s.mer.count < 2 ^ 48 →
    (s.admitsPut a (PRF_TAG_CTL n) w = true → s.legalWord (PRF_TAG_CTL n) w = true → Completes (.prfTagCtlWrite a n w) s fun t =>
      t.getF (PRF_TAG_CTL n) PRF_TAG_CTL_SEED = PRF_TAG_CTL_SEED.get w ∧ t.getF (PRF_TAG_CTL n) PRF_TAG_CTL_K = PRF_TAG_CTL_K.get w ∧
      (∀ i, i < 16 → t.core (16 * n + i) = { s.core (16 * n + i) with lfsr := some (BitVec.ofNat 32 (PRF_TAG_CTL_SEED.get w * 2 ^ 8 + (16 * n + i) + 1)) }) ∧
      ∀ k, k / 16 ≠ n → t.core k = s.core k) ∧
    (s.admits (a.access s false [((PRF_TAG_POP n).addr, 0)]) = true →
      (∀ r rest, (s.tile n).tags = r :: rest → Completes (.tagPop a n) s fun t => t.tile n = { s.tile n with tags := rest } ∧
        (∀ k, k < 4 → t.rd (PRF_TAG_W n k) = r.words.getD k 0) ∧ t.ans = (0, [PRF_TAG_POP_FILL.put (s.rd (PRF_TAG_POP n)) (rest.length + 1)])) ∧
      ((s.tile n).tags = [] → Completes (.tagPop a n) s fun t => t.tiles = s.tiles ∧ ∀ k, k < 4 → t.rd (PRF_TAG_W n k) = s.rd (PRF_TAG_W n k))) ∧
    (let c := (s.tile n).cen
     let head := s.getF (PRF_CEN_HEAD n) PRF_CEN_HEAD_VALUE
     let size := fun (l : List Nat) => l.foldl (· + ·) 0
     let stored := fun (t : State) (l : List Word) (kept : List Nat) => (t.tile n).cen.drain = none ∧ (t.tile n).cen.sizes = kept ++ [l.length] ∧
       t.getF (PRF_CEN_HEAD n) PRF_CEN_HEAD_VALUE = (head + l.length) % 16384 ∧
       t.getF (PRF_CEN_OLD n) PRF_CEN_OLD_VALUE = (head + l.length + 16384 - (size kept + l.length)) % 16384 ∧
       (∀ i, i < l.length → Tab.get 0 (t.tile n).cen.buf ((head + i) % 16384) = l.getD i 0) ∧
       ∀ x, (∀ i, i < l.length → x ≠ (head + i) % 16384) → Tab.get 0 (t.tile n).cen.buf x = Tab.get 0 c.buf x
     ∀ l, c.drain = some l →
      (size c.sizes + l.length ≤ 16384 → Completes (.censusDrainDone n) s fun t => stored t l c.sizes ∧ t.rd (PRF_CEN_DROP n) = s.rd (PRF_CEN_DROP n)) ∧
      (∀ x kept, c.sizes = x :: kept → 16384 < size (x :: kept) + l.length → size kept + l.length ≤ 16384 →
        Completes (.censusDrainDone n) s fun t => stored t l kept ∧ s.counts1 t (PRF_CEN_DROP n))) ∧
    ((s.tile n).cen.drain = none → Completes (.censusDrainDone n) s fun t => t = s) ∧
    (s.admitsField a (TRC_CTL n) TRC_CTL_ARM 1 = true → TRC_CTL_FORCE.get (s.heldWord (TRC_CTL n)) = 0 → Completes (.traceArm a n) s fun t =>
      t.tile n = { s.tile n with trace := { armNext := true } } ∧ t.rd (TRC_STAT n) = 0 ∧ t.flag (TRC_CTL n) TRC_CTL_ARM = true) ∧
    (s.admitsPut a (TRC_CTL n) (TRC_CTL_FORCE.put (TRC_CTL_ARM.put (s.heldWord (TRC_CTL n)) 0) 1) = true → Completes (.traceForce a n) s fun t =>
      t.rd (TRC_STAT n) = s.rd (TRC_STAT n) ∧
      (s.traceWaits n = true → t.tile n = { s.tile n with trace := { (s.tile n).trace with force := true } }) ∧
      (s.traceWaits n = false → t.tiles = s.tiles)) ∧
    ((s.tile n).trace.send = true → Completes (.traceCrossTrigger n cyc) s fun t => (t.tile n).trace = { (s.tile n).trace with send := false } ∧
      ∀ m, m < 8 → m ≠ n →
        ((s.flag (TRC_CTL m) TRC_CTL_XIN = true ∧ s.traceWaits m = true ∧ s.tileRuns m = true) →
          t.flag (TRC_STAT m) TRC_STAT_TRIGGERED = true ∧ t.rdPair (TRC_TRIG_CNT_LO m) (TRC_TRIG_CNT_HI m) = s.mer.count ∧
          t.raised (tileSrc m TRC_TRIGGER) m ∧ (t.tile m).trace.rows = (s.tile m).trace.rows ∧ (t.tile m).trace.after = some 0) ∧
        (¬ (s.flag (TRC_CTL m) TRC_CTL_XIN = true ∧ s.traceWaits m = true ∧ s.tileRuns m = true) → t.tile m = s.tile m ∧ t.rd (TRC_STAT m) = s.rd (TRC_STAT m))) ∧
    ((s.tile n).trace.send = false → Completes (.traceCrossTrigger n cyc) s fun t => t = s) ∧
    (Completes (.extest bits) s fun t => t.dbg.ir = 0 ∧ t.dbg.extest = true ∧ ∀ k, Tab.get false t.dbg.bsr k = bits.getD k false) ∧
    (Completes (.samplePreload bits) s fun t => t.dbg.ir = 1 ∧ t.dbg.extest = false ∧ ∀ k, Tab.get false t.dbg.bsr k = bits.getD k false) ∧
    (Completes .idcode s fun t => t = { s with dbg := { s.dbg with ir := 2, extest := false } } ∧ jtagIdcode.toNat % 2 ^ 28 = 0x8800B87 ∧
      jtagIdcode.toNat / 2 ^ 28 = PKG_ID_STEP.get (t.content PKG_ID) ∧ PKG_ID_STEP.get (t.content PKG_ID) < 2) ∧
    (Completes .bypass s fun t => t = { s with dbg := { s.dbg with ir := 0xFF, extest := false } }) ∧
    (Completes .tapReset s fun t => t.dbg = { s.dbg with ir := 2, extest := false } ∧ t.flag DBG_CTL DBG_CTL_SESSION = false ∧
      ∀ l : Loc, l.ok = true → l ≠ DBG_CTL → t.rd l = s.rd l) ∧
    (s.admitsPut a DBG_CTL (BitVec.ofNat 24 (b2n on)) = true → Completes (.debugSessionWrite a on) s fun t => t.ans = (0, []) ∧
      (a.port = 12 → t.flag DBG_CTL DBG_CTL_SESSION = on) ∧ (a.port ≠ 12 → t.rd DBG_CTL = s.rd DBG_CTL) ∧
      (a.port = 12 → on = true → s.flag DBG_CTL DBG_CTL_SESSION = false → t.raised DBG_SESSION_SRC 0xFF))

/-- R461 to R464: STEWARD_HALT, STEWARD_BREAKPOINT, STEWARD_STEP, STEWARD_RESUME, STEWARD_DEBUG_REQ, STEWARD_HARD_HALT, LANE_HALT,
LANE_BREAKPOINT, LANE_STEP, LANE_RESUME, LANE_HARD_HALT, DEBUG_MEM_ACCESS. -/
def Obligations.HaltsAndDebugMemory : Prop :=
  ∀ (a : Arr) (s : State) (l n : Nat) (w : Word), a.port < 21 → l < 128 → n < 8 →
    let st := 128 + n
    let sctl := fun f => s.admitsField a (DBG_SCTL n) f 1 = true ∧ s.heldWord (DBG_SCTL n) = 0
    let lctl := fun f => s.admitsField a (DBG_LCTL l) f 1 = true ∧ s.heldWord (DBG_LCTL l) &&& 0xF = 0
    let bp := s.flag (DBG_LCTL l) DBG_LCTL_BP_EN
    let live := decide (s.pstate l = 0) || decide (s.portRights a.port / 32 % 2 = 1)
    let others := fun (t : State) (k : Nat) => ∀ j, j ≠ k → t.core j = s.core j
    let safe := fun (t : State) (k : Nat) => (s.pstate k = 0 → t.pstate k = 0) ∧ (s.pstate k ≠ 0 → t.pstate k = 2)
    let held := fun (k : Nat) => (s.core k).running = true ∧ ((s.core k).lock.isSome = true ∨ (s.core k).snap.isSome = true ∨ (s.core k).access.isSome = true)
    let halts := fun (t : State) (k : Nat) => others t k ∧
      (held k → t.core k = { s.core k with haltPend := true } ∧ t.ports = s.ports) ∧
      (¬ held k → t.core k = { s.core k with halted := true, haltPend := false } ∧ (k < 128 → safe t k))
    let hard := fun (t : State) (k : Nat) => others t k ∧ t.raised DBG_HARD_HALT 0xFF ∧ (t.core k).halted = true ∧ (t.core k).lock = none ∧ (k < 128 → safe t k) ∧
      ((s.core k).lock = none → (t.core k).r = (s.core k).r ∧ (t.core k).pc = (s.core k).pc) ∧
      (∀ q, (s.core k).lock = some q → (t.core k).r = q.saved ∧ (t.core k).pc = q.at_)
    let refuses := fun (c : Instr) => Completes c s fun t => t.ans = (3, []) ∧ t.cores = s.cores ∧ t.ports = s.ports ∧
      t.raised (tileSrc (l / 16) DBG_LIVE_REFUSED) (l / 16) ∧ t.rd (DBG_LCTL l) = s.rd (DBG_LCTL l)
    let ready := fun (k : Nat) => (s.core k).asleep = false ∧ (s.core k).dead = false ∧ (s.core k).waiting = false ∧ (s.core k).access = none ∧
      (s.core k).snap = none ∧ (s.core k).lock = none ∧ (k < 128 ∨ (s.core k).mpuAllows 0 (s.core k).pc false true = true)
    let steps := fun (c : Instr) (k : Nat) =>
      ((s.core k).halted = false → Completes c s fun t => t.cores = s.cores) ∧
      ((s.core k).halted = true → Completes c s fun t => (t.core k).halted = true ∧
        ∀ i j, decodeBundle k a.cyc (s.bundle k (s.bankOf k) (s.core k).pc) = some (.nop i, .nop j) → ready k →
          (t.core k).r = (s.core k).r ∧ (t.core k).pc = (loopAfter (s.core k).pc (s.core k).loops).2 % bankSize k ∧
          (t.core k).loops = (loopAfter (s.core k).pc (s.core k).loops).1)
    (sctl DBG_SCTL_HALT → (s.core st).halted = false → Completes (.stewardHalt a n) s fun t => halts t st) ∧
    ((s.core st).halted = false → (s.core st).running = true → (s.core st).snap = none → (s.core st).stepping = false →
      (∃ i, i < 4 ∧ s.flag (DBG_SBP n i) DBG_SBP_EN = true ∧ s.getF (DBG_SBP n i) DBG_SBP_ADDR = (s.core st).pc) →
      Completes (.stewardBreakpoint n) s fun t => halts t st) ∧
    ((∀ i, i < 4 → s.flag (DBG_SBP n i) DBG_SBP_EN = false ∨ s.getF (DBG_SBP n i) DBG_SBP_ADDR ≠ (s.core st).pc) →
      Completes (.stewardBreakpoint n) s fun t => t = s) ∧
    ((s.core st).stepping = true → Completes (.stewardBreakpoint n) s fun t => t = s) ∧
    (sctl DBG_SCTL_STEP → steps (.stewardStep a n) st) ∧
    (sctl DBG_SCTL_RESUME → (s.core st).halted = true → Completes (.stewardResume a n) s fun t =>
      t.core st = { s.core st with halted := false, stepping := true } ∧ others t st) ∧
    (sctl DBG_SCTL_REQ → Completes (.stewardDebugReq a n) s fun t =>
      ((t.core st).sreg 3).getLsbD 15 = true ∧ (t.core st).halted = (s.core st).halted ∧ (t.core st).r = (s.core st).r ∧ others t st) ∧
    (sctl DBG_SCTL_HARD → (s.core st).snap = none → (∀ x, (s.core st).access ≠ some (.commit x)) → Completes (.stewardHardHalt a n) s fun t => hard t st) ∧
    (lctl DBG_LCTL_HALT → live = true → (s.core l).halted = false → Completes (.laneHalt a l) s fun t => halts t l) ∧
    (lctl DBG_LCTL_HALT → live = false → refuses (.laneHalt a l)) ∧
    (lctl DBG_LCTL_HARD → live = false → refuses (.laneHardHalt a l)) ∧
    (lctl DBG_LCTL_STEP → live = false → refuses (.laneStep a l)) ∧
    (bp = true → s.getF (DBG_LCTL l) DBG_LCTL_BP_ADDR = (s.core l).pc → (s.core l).halted = false → (s.core l).running = true → (s.core l).snap = none →
      Completes (.laneBreakpoint l) s fun t => halts t l) ∧
    ((bp = false ∨ s.getF (DBG_LCTL l) DBG_LCTL_BP_ADDR ≠ (s.core l).pc) → Completes (.laneBreakpoint l) s fun t => t = s) ∧
    (lctl DBG_LCTL_STEP → live = true → steps (.laneStep a l) l) ∧
    (lctl DBG_LCTL_RESUME → (bp = false ∨ live = true) → (s.core l).halted = true → Completes (.laneResume a l) s fun t =>
      t.core l = { s.core l with resume := true } ∧ others t l ∧ t.ports = s.ports) ∧
    (lctl DBG_LCTL_HARD → live = true → (s.core l).snap = none → (∀ x, (s.core l).access ≠ some (.commit x)) →
      Completes (.laneHardHalt a l) s fun t => hard t l) ∧
    (let u := s.getF DBG_MEM_SEL DBG_MEM_SEL_UNIT
     let x := s.getF DBG_MEM_ADDR DBG_MEM_ADDR_ADDR
     let space := s.getF DBG_MEM_SEL DBG_MEM_SEL_SPACE
     let next := fun (t : State) => t.getF DBG_MEM_ADDR DBG_MEM_ADDR_ADDR = (x + 1) % 65536
     let free := (s.core u).halted || decide (s.pstate u = 0) || decide (s.portRights a.port / 32 % 2 = 1)
     (s.admitsPut a DBG_MEM_DATA0 w = true →
       (space = 0 → u < 128 → free = true → Completes (.debugMemAccess a true w) s fun t => next t ∧ t.ans = (0, []) ∧ t.dmem = s.dmem ∧
         t.dbg.writes = s.dbg.writes ++ [(dmemIdx u x, w)]) ∧
       (space = 0 → u < 128 → free = false → Completes (.debugMemAccess a true w) s fun t => t.ans = (3, []) ∧ t.dbg.writes = s.dbg.writes ∧
         t.raised (tileSrc (u / 16) DBG_LIVE_REFUSED) (u / 16) ∧ t.rd DBG_MEM_ADDR = s.rd DBG_MEM_ADDR) ∧
       (space = 3 → u < 136 → (s.core u).halted = true → x < 16 → Completes (.debugMemAccess a true w) s fun t => next t ∧ t.ans = (0, []) ∧
         t.core u = { s.core u with r := (s.core u).r.setD x w } ∧ others t u) ∧
       (space = 3 → (s.core u).halted = false → Completes (.debugMemAccess a true w) s fun t => t.ans = (3, []) ∧ t.cores = s.cores) ∧
       (space = 4 → 128 ≤ u → u < 136 → Completes (.debugMemAccess a true w) s fun t => next t ∧ t.ans = (0, []) ∧
         Tab.get 0 t.dmem (dmemIdx u x) = w ∧ ∀ y, y ≠ dmemIdx u x → Tab.get 0 t.dmem y = Tab.get 0 s.dmem y)) ∧
     (s.admits (a.access s false [(DBG_MEM_DATA0.addr, 0)]) = true →
       (space = 0 → u < 128 → Completes (.debugMemAccess a false w) s fun t => next t ∧ t.ans = (0, [Tab.get 0 s.dbg.shown (dmemIdx u x)])) ∧
       (space = 3 → u < 136 → (s.core u).halted = true → x < 16 → Completes (.debugMemAccess a false w) s fun t => next t ∧
         t.ans = (0, [(s.core u).r.getD x]) ∧ t.cores = s.cores) ∧
       (space = 3 → (s.core u).halted = false → Completes (.debugMemAccess a false w) s fun t => t.ans = (3, []) ∧ t.rd DBG_MEM_ADDR = s.rd DBG_MEM_ADDR) ∧
       (space = 4 → 128 ≤ u → u < 136 → Completes (.debugMemAccess a false w) s fun t => next t ∧ t.ans = (0, [Tab.get 0 s.dmem (dmemIdx u x)]) ∧ t.dmem = s.dmem) ∧
       (space = 1 → u < 128 → Completes (.debugMemAccess a false w) s fun t => next t ∧
         (let b := s.bundle u (s.bankOf u) (x % 4096)
          t.ans = (0, [b.extractLsb' 0 24]) ∧ t.rd DBG_MEM_DATA1 = b.extractLsb' 24 24 ∧ t.rd DBG_MEM_DATA2 = (b.extractLsb' 48 16).setWidth 24))))


/-- R82, whole. The words below DATA2 are the ones the registers hold, none held back by R8. -/
def Obligations.BundleLayout : Prop :=
  (∀ (k cyc : Nat) (x y : Instr) (b : BitVec 64), decodeBundle k cyc b = some (x, y) ↔
    decodeWord ⟨k, false, 0, cyc, 0, false, false⟩ (BitVec.ofNat 32 (b.toNat % 2 ^ 32)) = some x ∧
    decodeWord ⟨k, true, 0, cyc, 0, false, false⟩ (BitVec.ofNat 32 (b.toNat / 2 ^ 32)) = some y) ∧
  (∀ (k cyc : Nat) (slot1 : Bool), decodeWord ⟨k, slot1, 0, cyc, 0, false, false⟩ 0 = some (.nop ⟨k, slot1, 0, cyc, 0, false, false⟩)) ∧
  ∀ (a : Arr) (l : Nat) (d0 d1 d2 : Word) (s : State), a.port < 21 → l < 128 → s.admitsPut a (LAN_PGM_DATA2 l) d2 = true → s.windowShut l = false →
    Tab.get none s.wide (LAN_PGM_DATA0 l).addr = some d0 → Tab.get none s.wide (LAN_PGM_DATA1 l).addr = some d1 →
    Completes (.lanPgmDataWrite a l d2) s fun t =>
      let b := t.bundle l (1 - s.bankOf l) (s.getF (LAN_PGM_ADDR l) LAN_PGM_ADDR_ADDR)
      b.toNat % 2 ^ 32 = d0.toNat + d1.toNat % 256 * 2 ^ 24 ∧ b.toNat / 2 ^ 32 = d1.toNat / 256 + d2.toNat % 2 ^ 16 * 2 ^ 16

/-- The reset columns of the register tables, on a few registers of each kind, and R105's reset of s0.MODE. That the OTP is blank and the
queue empty is the model's choice (log entry 1). -/
def Obligations.ResetStated : Prop :=
  (∀ p, p < 128 → State.reset.pstate p = 0 ∧ State.reset.rd (STG_CTL p) = 0 ∧ (State.reset.port p).ga = false ∧ (State.reset.port p).gb = false) ∧
  (∀ n, n < 8 → (State.reset.core (128 + n)).sreg 0 = 1 ∧ (∀ k, 0 < k → k < 8 → (State.reset.core (128 + n)).sreg k = 0) ∧
    State.reset.getF (PRF_TAG_CTL n) PRF_TAG_CTL_SEED = 1 ∧ State.reset.getF (TRC_TRIG n) TRC_TRIG_SRC = 3) ∧
  (∀ k, k < 136 → (State.reset.core k).lock = none ∧ (State.reset.core k).snap = none ∧ (State.reset.core k).halted = false) ∧
  State.reset.getF MER_PERIOD_REQ MER_PERIOD_REQ_N = 4000 ∧ State.reset.getF WDG_PERIOD WDG_PERIOD_P = 1000 ∧
  State.reset.getF WDG_CTL WDG_CTL_ACT = 1 ∧ State.reset.getF WDG_CTL WDG_CTL_WIN = 4 ∧
  State.reset.otp.sealed = 0 ∧ State.reset.otp.lock = false ∧ State.reset.otp.rightsSealed = false ∧ State.reset.otp.prog = 0 ∧ State.reset.otp.revoked = 0 ∧
  State.reset.pending = []

/-- R9, R229, R230, R336, R445, R446, over all commands: the one-time-programmable memory only grows. The first clause is the completion of
every constructor of Instr, those of no other statement among them: SAMPLE_INSTANT, COMPUTE_WINDOW_OPEN, EXCHANGE_WINDOW,
MIRROR_WINDOW, GUARD, NOP, TRAP. No command of the spec stops the machine. -/
def Obligations.EveryStepKeepsOtp : Prop :=
  (∀ (c : Instr) (s : State), Completes c s fun t => t.otp.grownFrom s.otp) ∧ ∀ s t : State, step s = .next t → t.otp.grownFrom s.otp
end

