-- ==== Sys2Proof/Laws/Tab.lean ====
section
/-! SUPPORT. The laws of the sparse arrays: reading after writing, and the canonical form that every write keeps. -/

namespace Sys2Proof.Machine

variable {α : Type}

theorem Tab.find_erase_same (t : Tab α) (n : Nat) : Tab.find (Tab.erase t n) n = none := by
  induction t with
  | nil => rfl
  | cons x t ih =>
    obtain ⟨k, v⟩ := x
    by_cases h : k = n
    · simp [Tab.erase, h, ih]
    · simp [Tab.erase, Tab.find, h, ih]

theorem Tab.find_erase_ne (t : Tab α) {n m : Nat} (h : m ≠ n) : Tab.find (Tab.erase t n) m = Tab.find t m := by
  induction t with
  | nil => rfl
  | cons x t ih =>
    obtain ⟨k, v⟩ := x
    by_cases hk : k = n
    · subst hk
      simp [Tab.erase, Tab.find, ih, Ne.symm h]
    · simp [Tab.erase, Tab.find, hk, ih]

theorem Tab.find_insert_same (t : Tab α) (n : Nat) (v : α) : Tab.find (Tab.insert t n v) n = some v := by
  induction t with
  | nil => simp [Tab.insert, Tab.find]
  | cons x t ih =>
    obtain ⟨k, w⟩ := x
    simp only [Tab.insert]
    split
    · simp [Tab.find]
    · split
      · simp [Tab.find]
      · simp [Tab.find, *]

theorem Tab.find_insert_ne (t : Tab α) {n m : Nat} (v : α) (h : m ≠ n) : Tab.find (Tab.insert t n v) m = Tab.find t m := by
  induction t with
  | nil => simp [Tab.insert, Tab.find, Ne.symm h]
  | cons x t ih =>
    obtain ⟨k, w⟩ := x
    simp only [Tab.insert]
    split
    · simp [Tab.find, Ne.symm h]
    · split
      · rename_i hk
        subst hk
        simp [Tab.find, Ne.symm h]
      · simp [Tab.find, ih]

/-- Reading where one has written gives the value written. -/
@[simp] theorem Tab.get_set_same [DecidableEq α] (d : α) (t : Tab α) (n : Nat) (v : α) : Tab.get d (Tab.set d t n v) n = v := by
  unfold Tab.set Tab.get
  split
  · rename_i h
    simp [Tab.find_erase_same, h]
  · simp [Tab.find_insert_same]

/-- A write leaves every other place as it was. -/
theorem Tab.get_set_ne [DecidableEq α] (d e : α) (t : Tab α) {n m : Nat} (v : α) (h : m ≠ n) :
    Tab.get d (Tab.set e t n v) m = Tab.get d t m := by
  unfold Tab.set Tab.get
  split
  · rw [Tab.find_erase_ne t h]
  · rw [Tab.find_insert_ne t v h]

/-- Reading after a write, in one line. -/
theorem Tab.get_set [DecidableEq α] (d : α) (t : Tab α) (n m : Nat) (v : α) :
    Tab.get d (Tab.set d t n v) m = if m = n then v else Tab.get d t m := by
  split
  · rename_i h
    subst h
    simp
  · rename_i h
    exact Tab.get_set_ne d d t v h

@[simp] theorem Tab.get_nil (d : α) (n : Nat) : Tab.get d [] n = d := rfl

/-- No index of the array lies at or below `b`. -/
theorem Tab.wfFrom_mono [DecidableEq α] (d : Nat → α) (t : Tab α) {b c : Nat} (h : b ≤ c)
    (w : Tab.wfFrom d (some c) t = true) : Tab.wfFrom d (some b) t = true := by
  cases t with
  | nil => rfl
  | cons x t =>
    obtain ⟨k, v⟩ := x
    simp only [Tab.wfFrom, Bool.and_eq_true, decide_eq_true_eq] at w ⊢
    exact ⟨⟨by omega, w.1.2⟩, w.2⟩

theorem Tab.wfFrom_weaken [DecidableEq α] (d : Nat → α) (t : Tab α) (b : Nat) (o : Option Nat) (h : ∀ x, o = some x → x ≤ b)
    (w : Tab.wfFrom d (some b) t = true) : Tab.wfFrom d o t = true := by
  cases o with
  | some x => exact Tab.wfFrom_mono d t (h x rfl) w
  | none =>
    cases t with
    | nil => rfl
    | cons x t =>
      obtain ⟨k, v⟩ := x
      simp only [Tab.wfFrom, Bool.and_eq_true, decide_eq_true_eq] at w ⊢
      exact ⟨⟨trivial, w.1.2⟩, w.2⟩

/-- The bound of a canonical array lies below an index. -/
def Tab.under (o : Option Nat) (n : Nat) : Prop := ∀ x, o = some x → x < n

theorem Tab.wfFrom_cons [DecidableEq α] (d : Nat → α) (o : Option Nat) (k : Nat) (v : α) (t : Tab α) :
    Tab.wfFrom d o ((k, v) :: t) = true ↔ Tab.under o k ∧ v ≠ d k ∧ Tab.wfFrom d (some k) t = true := by
  cases o with
  | none => simp [Tab.wfFrom, Tab.under]
  | some m => simp [Tab.wfFrom, Tab.under, and_assoc]

theorem Tab.wfFrom_erase [DecidableEq α] (d : Nat → α) (t : Tab α) (n : Nat) :
    ∀ o, Tab.wfFrom d o t = true → Tab.wfFrom d o (Tab.erase t n) = true := by
  induction t with
  | nil => exact fun _ _ => rfl
  | cons x t ih =>
    obtain ⟨k, v⟩ := x
    intro o h
    rw [Tab.wfFrom_cons] at h
    simp only [Tab.erase]
    split
    · exact ih o (Tab.wfFrom_weaken d t k o (fun x hx => Nat.le_of_lt (h.1 x hx)) h.2.2)
    · rw [Tab.wfFrom_cons]
      exact ⟨h.1, h.2.1, ih _ h.2.2⟩

theorem Tab.wfFrom_insert [DecidableEq α] (d : Nat → α) (t : Tab α) (n : Nat) (v : α) (hv : v ≠ d n) :
    ∀ o, Tab.under o n → Tab.wfFrom d o t = true → Tab.wfFrom d o (Tab.insert t n v) = true := by
  induction t with
  | nil => intro o ho _; rw [Tab.insert, Tab.wfFrom_cons]; exact ⟨ho, hv, rfl⟩
  | cons x t ih =>
    obtain ⟨k, w⟩ := x
    intro o ho h
    rw [Tab.wfFrom_cons] at h
    simp only [Tab.insert]
    split
    · rw [Tab.wfFrom_cons, Tab.wfFrom_cons]
      exact ⟨ho, hv, fun x hx => by cases hx; assumption, h.2⟩
    · split
      · rename_i hk
        subst hk
        rw [Tab.wfFrom_cons]
        exact ⟨h.1, hv, h.2.2⟩
      · rw [Tab.wfFrom_cons]
        exact ⟨h.1, h.2.1, ih _ (fun x hx => by cases hx; omega) h.2.2⟩

/-- A write keeps the canonical form. -/
theorem Tab.wf_set [DecidableEq α] (d : Nat → α) (t : Tab α) (n : Nat) (v : α) (h : Tab.wf d t = true) :
    Tab.wf d (Tab.set (d n) t n v) = true := by
  unfold Tab.set
  split
  · exact Tab.wfFrom_erase d t n none h
  · exact Tab.wfFrom_insert d t n v (by assumption) none (fun _ hx => by cases hx) h

end Sys2Proof.Machine
end

