-- ==== Sys2Proof/Laws/Regs.lean ====
section
/-! SUPPORT. The laws of the register file: distinct places have distinct addresses, a register reads as it was written,
and a write leaves every other register as it was. -/

namespace Sys2Proof.Machine

/-- The place of a place's address is that place. -/
theorem locate_addr (l : Loc) (h : l.ok = true) : locate l.addr = some l := by
  cases l with
  | pkg o => exact of_decide_eq_true h
  | tile n o =>
    simp only [Loc.ok, decide_eq_true_eq] at h
    obtain ⟨a, ha⟩ : ∃ a, a = (Loc.tile n o).addr := ⟨_, rfl⟩
    rw [← ha]
    simp only [Loc.addr, tileBase] at ha
    unfold locate
    dsimp only
    rw [if_neg (by omega), if_pos (by omega), if_neg (by omega), if_neg (by omega), if_neg (by omega), if_neg (by omega), if_neg (by omega)]
    simp only [Option.some.injEq, Loc.tile.injEq]; omega
  | port p o =>
    simp only [Loc.ok, decide_eq_true_eq] at h
    obtain ⟨a, ha⟩ : ∃ a, a = (Loc.port p o).addr := ⟨_, rfl⟩
    rw [← ha]
    simp only [Loc.addr, tileBase] at ha
    unfold locate
    dsimp only
    rw [if_neg (by omega), if_pos (by omega), if_pos (by omega)]
    simp only [Option.some.injEq, Loc.port.injEq]; omega
  | lane p o =>
    simp only [Loc.ok, decide_eq_true_eq] at h
    obtain ⟨a, ha⟩ : ∃ a, a = (Loc.lane p o).addr := ⟨_, rfl⟩
    rw [← ha]
    simp only [Loc.addr, tileBase] at ha
    unfold locate
    dsimp only
    rw [if_neg (by omega), if_pos (by omega), if_neg (by omega), if_pos (by omega)]
    simp only [Option.some.injEq, Loc.lane.injEq]; omega
  | rail r o =>
    simp only [Loc.ok, decide_eq_true_eq] at h
    obtain ⟨a, ha⟩ : ∃ a, a = (Loc.rail r o).addr := ⟨_, rfl⟩
    rw [← ha]
    simp only [Loc.addr] at ha
    unfold locate
    dsimp only
    rw [if_pos (by omega), if_pos (by omega)]
    simp only [Option.some.injEq, Loc.rail.injEq]; omega
  | string u o =>
    simp only [Loc.ok, decide_eq_true_eq] at h
    obtain ⟨a, ha⟩ : ∃ a, a = (Loc.string u o).addr := ⟨_, rfl⟩
    rw [← ha]
    simp only [Loc.addr] at ha
    unfold locate
    dsimp only
    rw [if_pos (by omega), if_neg (by omega), if_pos (by omega)]
    simp only [Option.some.injEq, Loc.string.injEq]; omega
  | chem c o =>
    simp only [Loc.ok, decide_eq_true_eq] at h
    obtain ⟨a, ha⟩ : ∃ a, a = (Loc.chem c o).addr := ⟨_, rfl⟩
    rw [← ha]
    simp only [Loc.addr] at ha
    unfold locate
    dsimp only
    rw [if_pos (by omega), if_neg (by omega), if_neg (by omega), if_pos (by omega)]
    simp only [Option.some.injEq, Loc.chem.injEq]; omega
  | link l o =>
    simp only [Loc.ok, decide_eq_true_eq] at h
    obtain ⟨a, ha⟩ : ∃ a, a = (Loc.link l o).addr := ⟨_, rfl⟩
    rw [← ha]
    simp only [Loc.addr] at ha
    unfold locate
    dsimp only
    rw [if_pos (by omega), if_neg (by omega), if_neg (by omega), if_neg (by omega), if_pos (by omega)]
    simp only [Option.some.injEq, Loc.link.injEq]; omega
  | entry e o =>
    simp only [Loc.ok, decide_eq_true_eq] at h
    obtain ⟨a, ha⟩ : ∃ a, a = (Loc.entry e o).addr := ⟨_, rfl⟩
    rw [← ha]
    simp only [Loc.addr] at ha
    unfold locate
    dsimp only
    rw [if_pos (by omega), if_neg (by omega), if_neg (by omega), if_neg (by omega), if_neg (by omega), if_pos (by omega)]
    simp only [Option.some.injEq, Loc.entry.injEq]; omega
  | path p o =>
    simp only [Loc.ok, decide_eq_true_eq] at h
    obtain ⟨a, ha⟩ : ∃ a, a = (Loc.path p o).addr := ⟨_, rfl⟩
    rw [← ha]
    simp only [Loc.addr] at ha
    unfold locate
    dsimp only
    rw [if_pos (by omega), if_neg (by omega), if_neg (by omega), if_neg (by omega), if_neg (by omega), if_neg (by omega), if_pos (by omega)]
    simp only [Option.some.injEq, Loc.path.injEq]; omega
  | bus b o =>
    simp only [Loc.ok, decide_eq_true_eq] at h
    obtain ⟨a, ha⟩ : ∃ a, a = (Loc.bus b o).addr := ⟨_, rfl⟩
    rw [← ha]
    simp only [Loc.addr] at ha
    unfold locate
    dsimp only
    rw [if_pos (by omega), if_neg (by omega), if_neg (by omega), if_neg (by omega), if_neg (by omega), if_neg (by omega), if_neg (by omega), if_pos (by omega)]
    simp only [Option.some.injEq, Loc.bus.injEq]; omega
  | probe r o =>
    simp only [Loc.ok, decide_eq_true_eq] at h
    obtain ⟨a, ha⟩ : ∃ a, a = (Loc.probe r o).addr := ⟨_, rfl⟩
    rw [← ha]
    simp only [Loc.addr] at ha
    unfold locate
    dsimp only
    rw [if_pos (by omega), if_neg (by omega), if_neg (by omega), if_neg (by omega), if_neg (by omega), if_neg (by omega), if_neg (by omega), if_neg (by omega), if_neg (by omega), if_pos (by omega)]
    simp only [Option.some.injEq, Loc.probe.injEq]; omega
  | pprf b o =>
    simp only [Loc.ok, decide_eq_true_eq] at h
    obtain ⟨a, ha⟩ : ∃ a, a = (Loc.pprf b o).addr := ⟨_, rfl⟩
    rw [← ha]
    simp only [Loc.addr] at ha
    unfold locate
    dsimp only
    rw [if_pos (by omega), if_neg (by omega), if_neg (by omega), if_neg (by omega), if_neg (by omega), if_neg (by omega), if_neg (by omega), if_neg (by omega), if_neg (by omega), if_neg (by omega), if_pos (by omega)]
    simp only [Option.some.injEq, Loc.pprf.injEq]; omega
  | tprf n b o =>
    simp only [Loc.ok, decide_eq_true_eq] at h
    obtain ⟨a, ha⟩ : ∃ a, a = (Loc.tprf n b o).addr := ⟨_, rfl⟩
    rw [← ha]
    simp only [Loc.addr, tileBase] at ha
    unfold locate
    dsimp only
    rw [if_neg (by omega), if_pos (by omega), if_neg (by omega), if_neg (by omega), if_neg (by omega), if_pos (by omega)]
    simp only [Option.some.injEq, Loc.tprf.injEq]; omega
  | fcls x =>
    simp only [Loc.ok, decide_eq_true_eq] at h
    obtain ⟨a, ha⟩ : ∃ a, a = (Loc.fcls x).addr := ⟨_, rfl⟩
    rw [← ha]
    simp only [Loc.addr, tileBase] at ha
    unfold locate
    dsimp only
    by_cases hx : x < 512
    · rw [if_pos hx] at ha
      rw [if_pos (by omega), if_neg (by omega), if_neg (by omega), if_neg (by omega), if_neg (by omega), if_neg (by omega), if_neg (by omega), if_neg (by omega), if_pos (by omega), if_pos (by omega)]
      simp only [Option.some.injEq, Loc.fcls.injEq]; omega
    · rw [if_neg hx] at ha
      rw [if_neg (by omega), if_pos (by omega), if_neg (by omega), if_neg (by omega), if_pos (by omega), if_pos (by omega)]
      simp only [Option.some.injEq, Loc.fcls.injEq]; omega
  | fsrc x =>
    simp only [Loc.ok, decide_eq_true_eq] at h
    obtain ⟨a, ha⟩ : ∃ a, a = (Loc.fsrc x).addr := ⟨_, rfl⟩
    rw [← ha]
    simp only [Loc.addr, tileBase] at ha
    unfold locate
    dsimp only
    by_cases hx : x < 512
    · rw [if_pos hx] at ha
      rw [if_pos (by omega), if_neg (by omega), if_neg (by omega), if_neg (by omega), if_neg (by omega), if_neg (by omega), if_neg (by omega), if_neg (by omega), if_pos (by omega), if_neg (by omega)]
      simp only [Option.some.injEq, Loc.fsrc.injEq]; omega
    · rw [if_neg hx] at ha
      rw [if_neg (by omega), if_pos (by omega), if_neg (by omega), if_neg (by omega), if_pos (by omega), if_neg (by omega)]
      simp only [Option.some.injEq, Loc.fsrc.injEq]; omega
  | cram n w =>
    simp only [Loc.ok, decide_eq_true_eq] at h
    obtain ⟨a, ha⟩ : ∃ a, a = (Loc.cram n w).addr := ⟨_, rfl⟩
    rw [← ha]
    simp only [Loc.addr, tileBase] at ha
    unfold locate
    dsimp only
    rw [if_neg (by omega), if_pos (by omega), if_neg (by omega), if_neg (by omega), if_neg (by omega), if_neg (by omega), if_pos (by omega)]
    simp only [Option.some.injEq, Loc.cram.injEq]; omega

/-- Distinct places have distinct addresses. -/
theorem Loc.addr_eq_iff {l m : Loc} (hl : l.ok = true) (hm : m.ok = true) : l.addr = m.addr ↔ l = m := by
  constructor
  · intro h
    have a := locate_addr l hl
    rw [h, locate_addr m hm] at a
    exact (Option.some.inj a).symm
  · intro h; rw [h]

/-- A register reads as it was written. -/
@[simp] theorem State.rd_wr_same (s : State) (l : Loc) (w : Word) : (s.wr l w).rd l = w := by
  simp [State.rd, State.wr]

/-- A write leaves a register at another address as it was. -/
theorem State.rd_wr_ne (s : State) {l m : Loc} (w : Word) (h : m.addr ≠ l.addr) : (s.wr l w).rd m = s.rd m := by
  simp only [State.rd, State.wr]
  exact Tab.get_set_ne _ _ _ _ h

/-- A register after a write, where both places are places of the map. -/
theorem State.rd_wr (s : State) (l m : Loc) (w : Word) (hl : l.ok = true) (hm : m.ok = true) :
    (s.wr l w).rd m = if m = l then w else s.rd m := by
  split
  · rename_i h
    subst h
    simp
  · rename_i h
    exact State.rd_wr_ne s w (fun e => h ((Loc.addr_eq_iff hm hl).1 e))

/-- A register file is canonical: addresses rise, and no register is listed at its reset value. -/
def State.regsWf (s : State) : Bool := Tab.wf resetWord s.regs

/-- A register write keeps the canonical form. -/
theorem State.wr_regsWf (s : State) (l : Loc) (w : Word) (h : s.regsWf = true) : (s.wr l w).regsWf = true :=
  Tab.wf_set resetWord s.regs l.addr w h

end Sys2Proof.Machine
end

