-- ==== Sys2Proof/Laws/State.lean ====
section
/-! SUPPORT. What each update of the state leaves as it was, field by field, and how a unit reads after an update. -/

namespace Sys2Proof.Machine

variable (s : State)

/-! ### wr -/

@[simp] theorem State.pending_wr (l : Loc) (w : Word) : (s.wr l w).pending = s.pending := rfl
@[simp] theorem State.free_wr (l : Loc) (w : Word) : (s.wr l w).free = s.free := rfl
@[simp] theorem State.capt_wr (l : Loc) (w : Word) : (s.wr l w).capt = s.capt := rfl
@[simp] theorem State.wide_wr (l : Loc) (w : Word) : (s.wr l w).wide = s.wide := rfl
@[simp] theorem State.mer_wr (l : Loc) (w : Word) : (s.wr l w).mer = s.mer := rfl
@[simp] theorem State.tiles_wr (l : Loc) (w : Word) : (s.wr l w).tiles = s.tiles := rfl
@[simp] theorem State.cores_wr (l : Loc) (w : Word) : (s.wr l w).cores = s.cores := rfl
@[simp] theorem State.dmem_wr (l : Loc) (w : Word) : (s.wr l w).dmem = s.dmem := rfl
@[simp] theorem State.code_wr (l : Loc) (w : Word) : (s.wr l w).code = s.code := rfl
@[simp] theorem State.extent_wr (l : Loc) (w : Word) : (s.wr l w).extent = s.extent := rfl
@[simp] theorem State.cram_wr (l : Loc) (w : Word) : (s.wr l w).cram = s.cram := rfl
@[simp] theorem State.send_wr (l : Loc) (w : Word) : (s.wr l w).send = s.send := rfl
@[simp] theorem State.recv_wr (l : Loc) (w : Word) : (s.wr l w).recv = s.recv := rfl
@[simp] theorem State.present_wr (l : Loc) (w : Word) : (s.wr l w).present = s.present := rfl
@[simp] theorem State.cells_wr (l : Loc) (w : Word) : (s.wr l w).cells = s.cells := rfl
@[simp] theorem State.gains_wr (l : Loc) (w : Word) : (s.wr l w).gains = s.gains := rfl
@[simp] theorem State.switch_wr (l : Loc) (w : Word) : (s.wr l w).switch = s.switch := rfl
@[simp] theorem State.upd_wr (l : Loc) (w : Word) : (s.wr l w).upd = s.upd := rfl
@[simp] theorem State.ports_wr (l : Loc) (w : Word) : (s.wr l w).ports = s.ports := rfl
@[simp] theorem State.fuses_wr (l : Loc) (w : Word) : (s.wr l w).fuses = s.fuses := rfl
@[simp] theorem State.otp_wr (l : Loc) (w : Word) : (s.wr l w).otp = s.otp := rfl
@[simp] theorem State.rails_wr (l : Loc) (w : Word) : (s.wr l w).rails = s.rails := rfl
@[simp] theorem State.mgt_wr (l : Loc) (w : Word) : (s.wr l w).mgt = s.mgt := rfl
@[simp] theorem State.buses_wr (l : Loc) (w : Word) : (s.wr l w).buses = s.buses := rfl
@[simp] theorem State.mir_wr (l : Loc) (w : Word) : (s.wr l w).mir = s.mir := rfl
@[simp] theorem State.age_wr (l : Loc) (w : Word) : (s.wr l w).age = s.age := rfl
@[simp] theorem State.cap_wr (l : Loc) (w : Word) : (s.wr l w).cap = s.cap := rfl
@[simp] theorem State.links_wr (l : Loc) (w : Word) : (s.wr l w).links = s.links := rfl
@[simp] theorem State.trp_wr (l : Loc) (w : Word) : (s.wr l w).trp = s.trp := rfl
@[simp] theorem State.strings_wr (l : Loc) (w : Word) : (s.wr l w).strings = s.strings := rfl
@[simp] theorem State.hld_wr (l : Loc) (w : Word) : (s.wr l w).hld = s.hld := rfl
@[simp] theorem State.flt_wr (l : Loc) (w : Word) : (s.wr l w).flt = s.flt := rfl
@[simp] theorem State.wdg_wr (l : Loc) (w : Word) : (s.wr l w).wdg = s.wdg := rfl
@[simp] theorem State.rcd_wr (l : Loc) (w : Word) : (s.wr l w).rcd = s.rcd := rfl
@[simp] theorem State.pws_wr (l : Loc) (w : Word) : (s.wr l w).pws = s.pws := rfl
@[simp] theorem State.boot_wr (l : Loc) (w : Word) : (s.wr l w).boot = s.boot := rfl
@[simp] theorem State.dbg_wr (l : Loc) (w : Word) : (s.wr l w).dbg = s.dbg := rfl
@[simp] theorem State.ans_wr (l : Loc) (w : Word) : (s.wr l w).ans = s.ans := rfl
@[simp] theorem State.flash_wr (l : Loc) (w : Word) : (s.wr l w).flash = s.flash := rfl
@[simp] theorem State.port_wr (l : Loc) (w : Word) (k : Nat) : (s.wr l w).port k = s.port k := rfl
@[simp] theorem State.core_wr (l : Loc) (w : Word) (k : Nat) : (s.wr l w).core k = s.core k := rfl
@[simp] theorem State.tile_wr (l : Loc) (w : Word) (k : Nat) : (s.wr l w).tile k = s.tile k := rfl
@[simp] theorem State.fuse_wr (l : Loc) (w : Word) (k : Nat) : (s.wr l w).fuse k = s.fuse k := rfl
@[simp] theorem State.rail_wr (l : Loc) (w : Word) (k : Nat) : (s.wr l w).rail k = s.rail k := rfl
@[simp] theorem State.str_wr (l : Loc) (w : Word) (k : Nat) : (s.wr l w).str k = s.str k := rfl
@[simp] theorem State.link_wr (l : Loc) (w : Word) (k : Nat) : (s.wr l w).link k = s.link k := rfl

/-! ### setPort -/

@[simp] theorem State.pending_setPort (p : Nat) (x : PortSt) : (s.setPort p x).pending = s.pending := rfl
@[simp] theorem State.free_setPort (p : Nat) (x : PortSt) : (s.setPort p x).free = s.free := rfl
@[simp] theorem State.regs_setPort (p : Nat) (x : PortSt) : (s.setPort p x).regs = s.regs := rfl
@[simp] theorem State.capt_setPort (p : Nat) (x : PortSt) : (s.setPort p x).capt = s.capt := rfl
@[simp] theorem State.wide_setPort (p : Nat) (x : PortSt) : (s.setPort p x).wide = s.wide := rfl
@[simp] theorem State.mer_setPort (p : Nat) (x : PortSt) : (s.setPort p x).mer = s.mer := rfl
@[simp] theorem State.tiles_setPort (p : Nat) (x : PortSt) : (s.setPort p x).tiles = s.tiles := rfl
@[simp] theorem State.cores_setPort (p : Nat) (x : PortSt) : (s.setPort p x).cores = s.cores := rfl
@[simp] theorem State.dmem_setPort (p : Nat) (x : PortSt) : (s.setPort p x).dmem = s.dmem := rfl
@[simp] theorem State.code_setPort (p : Nat) (x : PortSt) : (s.setPort p x).code = s.code := rfl
@[simp] theorem State.extent_setPort (p : Nat) (x : PortSt) : (s.setPort p x).extent = s.extent := rfl
@[simp] theorem State.cram_setPort (p : Nat) (x : PortSt) : (s.setPort p x).cram = s.cram := rfl
@[simp] theorem State.send_setPort (p : Nat) (x : PortSt) : (s.setPort p x).send = s.send := rfl
@[simp] theorem State.recv_setPort (p : Nat) (x : PortSt) : (s.setPort p x).recv = s.recv := rfl
@[simp] theorem State.present_setPort (p : Nat) (x : PortSt) : (s.setPort p x).present = s.present := rfl
@[simp] theorem State.cells_setPort (p : Nat) (x : PortSt) : (s.setPort p x).cells = s.cells := rfl
@[simp] theorem State.gains_setPort (p : Nat) (x : PortSt) : (s.setPort p x).gains = s.gains := rfl
@[simp] theorem State.switch_setPort (p : Nat) (x : PortSt) : (s.setPort p x).switch = s.switch := rfl
@[simp] theorem State.upd_setPort (p : Nat) (x : PortSt) : (s.setPort p x).upd = s.upd := rfl
@[simp] theorem State.fuses_setPort (p : Nat) (x : PortSt) : (s.setPort p x).fuses = s.fuses := rfl
@[simp] theorem State.otp_setPort (p : Nat) (x : PortSt) : (s.setPort p x).otp = s.otp := rfl
@[simp] theorem State.rails_setPort (p : Nat) (x : PortSt) : (s.setPort p x).rails = s.rails := rfl
@[simp] theorem State.mgt_setPort (p : Nat) (x : PortSt) : (s.setPort p x).mgt = s.mgt := rfl
@[simp] theorem State.buses_setPort (p : Nat) (x : PortSt) : (s.setPort p x).buses = s.buses := rfl
@[simp] theorem State.mir_setPort (p : Nat) (x : PortSt) : (s.setPort p x).mir = s.mir := rfl
@[simp] theorem State.age_setPort (p : Nat) (x : PortSt) : (s.setPort p x).age = s.age := rfl
@[simp] theorem State.cap_setPort (p : Nat) (x : PortSt) : (s.setPort p x).cap = s.cap := rfl
@[simp] theorem State.links_setPort (p : Nat) (x : PortSt) : (s.setPort p x).links = s.links := rfl
@[simp] theorem State.trp_setPort (p : Nat) (x : PortSt) : (s.setPort p x).trp = s.trp := rfl
@[simp] theorem State.strings_setPort (p : Nat) (x : PortSt) : (s.setPort p x).strings = s.strings := rfl
@[simp] theorem State.hld_setPort (p : Nat) (x : PortSt) : (s.setPort p x).hld = s.hld := rfl
@[simp] theorem State.flt_setPort (p : Nat) (x : PortSt) : (s.setPort p x).flt = s.flt := rfl
@[simp] theorem State.wdg_setPort (p : Nat) (x : PortSt) : (s.setPort p x).wdg = s.wdg := rfl
@[simp] theorem State.rcd_setPort (p : Nat) (x : PortSt) : (s.setPort p x).rcd = s.rcd := rfl
@[simp] theorem State.pws_setPort (p : Nat) (x : PortSt) : (s.setPort p x).pws = s.pws := rfl
@[simp] theorem State.boot_setPort (p : Nat) (x : PortSt) : (s.setPort p x).boot = s.boot := rfl
@[simp] theorem State.dbg_setPort (p : Nat) (x : PortSt) : (s.setPort p x).dbg = s.dbg := rfl
@[simp] theorem State.ans_setPort (p : Nat) (x : PortSt) : (s.setPort p x).ans = s.ans := rfl
@[simp] theorem State.flash_setPort (p : Nat) (x : PortSt) : (s.setPort p x).flash = s.flash := rfl
@[simp] theorem State.core_setPort (p : Nat) (x : PortSt) (k : Nat) : (s.setPort p x).core k = s.core k := rfl
@[simp] theorem State.tile_setPort (p : Nat) (x : PortSt) (k : Nat) : (s.setPort p x).tile k = s.tile k := rfl
@[simp] theorem State.fuse_setPort (p : Nat) (x : PortSt) (k : Nat) : (s.setPort p x).fuse k = s.fuse k := rfl
@[simp] theorem State.rail_setPort (p : Nat) (x : PortSt) (k : Nat) : (s.setPort p x).rail k = s.rail k := rfl
@[simp] theorem State.str_setPort (p : Nat) (x : PortSt) (k : Nat) : (s.setPort p x).str k = s.str k := rfl
@[simp] theorem State.link_setPort (p : Nat) (x : PortSt) (k : Nat) : (s.setPort p x).link k = s.link k := rfl
@[simp] theorem State.rd_setPort (p : Nat) (x : PortSt) (m : Loc) : (s.setPort p x).rd m = s.rd m := rfl

/-! ### setCore -/

@[simp] theorem State.pending_setCore (c : Nat) (x : Core) : (s.setCore c x).pending = s.pending := rfl
@[simp] theorem State.free_setCore (c : Nat) (x : Core) : (s.setCore c x).free = s.free := rfl
@[simp] theorem State.regs_setCore (c : Nat) (x : Core) : (s.setCore c x).regs = s.regs := rfl
@[simp] theorem State.capt_setCore (c : Nat) (x : Core) : (s.setCore c x).capt = s.capt := rfl
@[simp] theorem State.wide_setCore (c : Nat) (x : Core) : (s.setCore c x).wide = s.wide := rfl
@[simp] theorem State.mer_setCore (c : Nat) (x : Core) : (s.setCore c x).mer = s.mer := rfl
@[simp] theorem State.tiles_setCore (c : Nat) (x : Core) : (s.setCore c x).tiles = s.tiles := rfl
@[simp] theorem State.dmem_setCore (c : Nat) (x : Core) : (s.setCore c x).dmem = s.dmem := rfl
@[simp] theorem State.code_setCore (c : Nat) (x : Core) : (s.setCore c x).code = s.code := rfl
@[simp] theorem State.extent_setCore (c : Nat) (x : Core) : (s.setCore c x).extent = s.extent := rfl
@[simp] theorem State.cram_setCore (c : Nat) (x : Core) : (s.setCore c x).cram = s.cram := rfl
@[simp] theorem State.send_setCore (c : Nat) (x : Core) : (s.setCore c x).send = s.send := rfl
@[simp] theorem State.recv_setCore (c : Nat) (x : Core) : (s.setCore c x).recv = s.recv := rfl
@[simp] theorem State.present_setCore (c : Nat) (x : Core) : (s.setCore c x).present = s.present := rfl
@[simp] theorem State.cells_setCore (c : Nat) (x : Core) : (s.setCore c x).cells = s.cells := rfl
@[simp] theorem State.gains_setCore (c : Nat) (x : Core) : (s.setCore c x).gains = s.gains := rfl
@[simp] theorem State.switch_setCore (c : Nat) (x : Core) : (s.setCore c x).switch = s.switch := rfl
@[simp] theorem State.upd_setCore (c : Nat) (x : Core) : (s.setCore c x).upd = s.upd := rfl
@[simp] theorem State.ports_setCore (c : Nat) (x : Core) : (s.setCore c x).ports = s.ports := rfl
@[simp] theorem State.fuses_setCore (c : Nat) (x : Core) : (s.setCore c x).fuses = s.fuses := rfl
@[simp] theorem State.otp_setCore (c : Nat) (x : Core) : (s.setCore c x).otp = s.otp := rfl
@[simp] theorem State.rails_setCore (c : Nat) (x : Core) : (s.setCore c x).rails = s.rails := rfl
@[simp] theorem State.mgt_setCore (c : Nat) (x : Core) : (s.setCore c x).mgt = s.mgt := rfl
@[simp] theorem State.buses_setCore (c : Nat) (x : Core) : (s.setCore c x).buses = s.buses := rfl
@[simp] theorem State.mir_setCore (c : Nat) (x : Core) : (s.setCore c x).mir = s.mir := rfl
@[simp] theorem State.age_setCore (c : Nat) (x : Core) : (s.setCore c x).age = s.age := rfl
@[simp] theorem State.cap_setCore (c : Nat) (x : Core) : (s.setCore c x).cap = s.cap := rfl
@[simp] theorem State.links_setCore (c : Nat) (x : Core) : (s.setCore c x).links = s.links := rfl
@[simp] theorem State.trp_setCore (c : Nat) (x : Core) : (s.setCore c x).trp = s.trp := rfl
@[simp] theorem State.strings_setCore (c : Nat) (x : Core) : (s.setCore c x).strings = s.strings := rfl
@[simp] theorem State.hld_setCore (c : Nat) (x : Core) : (s.setCore c x).hld = s.hld := rfl
@[simp] theorem State.flt_setCore (c : Nat) (x : Core) : (s.setCore c x).flt = s.flt := rfl
@[simp] theorem State.wdg_setCore (c : Nat) (x : Core) : (s.setCore c x).wdg = s.wdg := rfl
@[simp] theorem State.rcd_setCore (c : Nat) (x : Core) : (s.setCore c x).rcd = s.rcd := rfl
@[simp] theorem State.pws_setCore (c : Nat) (x : Core) : (s.setCore c x).pws = s.pws := rfl
@[simp] theorem State.boot_setCore (c : Nat) (x : Core) : (s.setCore c x).boot = s.boot := rfl
@[simp] theorem State.dbg_setCore (c : Nat) (x : Core) : (s.setCore c x).dbg = s.dbg := rfl
@[simp] theorem State.ans_setCore (c : Nat) (x : Core) : (s.setCore c x).ans = s.ans := rfl
@[simp] theorem State.flash_setCore (c : Nat) (x : Core) : (s.setCore c x).flash = s.flash := rfl
@[simp] theorem State.port_setCore (c : Nat) (x : Core) (k : Nat) : (s.setCore c x).port k = s.port k := rfl
@[simp] theorem State.tile_setCore (c : Nat) (x : Core) (k : Nat) : (s.setCore c x).tile k = s.tile k := rfl
@[simp] theorem State.fuse_setCore (c : Nat) (x : Core) (k : Nat) : (s.setCore c x).fuse k = s.fuse k := rfl
@[simp] theorem State.rail_setCore (c : Nat) (x : Core) (k : Nat) : (s.setCore c x).rail k = s.rail k := rfl
@[simp] theorem State.str_setCore (c : Nat) (x : Core) (k : Nat) : (s.setCore c x).str k = s.str k := rfl
@[simp] theorem State.link_setCore (c : Nat) (x : Core) (k : Nat) : (s.setCore c x).link k = s.link k := rfl
@[simp] theorem State.rd_setCore (c : Nat) (x : Core) (m : Loc) : (s.setCore c x).rd m = s.rd m := rfl

/-! ### setTile -/

@[simp] theorem State.pending_setTile (n : Nat) (x : TileSt) : (s.setTile n x).pending = s.pending := rfl
@[simp] theorem State.free_setTile (n : Nat) (x : TileSt) : (s.setTile n x).free = s.free := rfl
@[simp] theorem State.regs_setTile (n : Nat) (x : TileSt) : (s.setTile n x).regs = s.regs := rfl
@[simp] theorem State.capt_setTile (n : Nat) (x : TileSt) : (s.setTile n x).capt = s.capt := rfl
@[simp] theorem State.wide_setTile (n : Nat) (x : TileSt) : (s.setTile n x).wide = s.wide := rfl
@[simp] theorem State.mer_setTile (n : Nat) (x : TileSt) : (s.setTile n x).mer = s.mer := rfl
@[simp] theorem State.cores_setTile (n : Nat) (x : TileSt) : (s.setTile n x).cores = s.cores := rfl
@[simp] theorem State.dmem_setTile (n : Nat) (x : TileSt) : (s.setTile n x).dmem = s.dmem := rfl
@[simp] theorem State.code_setTile (n : Nat) (x : TileSt) : (s.setTile n x).code = s.code := rfl
@[simp] theorem State.extent_setTile (n : Nat) (x : TileSt) : (s.setTile n x).extent = s.extent := rfl
@[simp] theorem State.cram_setTile (n : Nat) (x : TileSt) : (s.setTile n x).cram = s.cram := rfl
@[simp] theorem State.send_setTile (n : Nat) (x : TileSt) : (s.setTile n x).send = s.send := rfl
@[simp] theorem State.recv_setTile (n : Nat) (x : TileSt) : (s.setTile n x).recv = s.recv := rfl
@[simp] theorem State.present_setTile (n : Nat) (x : TileSt) : (s.setTile n x).present = s.present := rfl
@[simp] theorem State.cells_setTile (n : Nat) (x : TileSt) : (s.setTile n x).cells = s.cells := rfl
@[simp] theorem State.gains_setTile (n : Nat) (x : TileSt) : (s.setTile n x).gains = s.gains := rfl
@[simp] theorem State.switch_setTile (n : Nat) (x : TileSt) : (s.setTile n x).switch = s.switch := rfl
@[simp] theorem State.upd_setTile (n : Nat) (x : TileSt) : (s.setTile n x).upd = s.upd := rfl
@[simp] theorem State.ports_setTile (n : Nat) (x : TileSt) : (s.setTile n x).ports = s.ports := rfl
@[simp] theorem State.fuses_setTile (n : Nat) (x : TileSt) : (s.setTile n x).fuses = s.fuses := rfl
@[simp] theorem State.otp_setTile (n : Nat) (x : TileSt) : (s.setTile n x).otp = s.otp := rfl
@[simp] theorem State.rails_setTile (n : Nat) (x : TileSt) : (s.setTile n x).rails = s.rails := rfl
@[simp] theorem State.mgt_setTile (n : Nat) (x : TileSt) : (s.setTile n x).mgt = s.mgt := rfl
@[simp] theorem State.buses_setTile (n : Nat) (x : TileSt) : (s.setTile n x).buses = s.buses := rfl
@[simp] theorem State.mir_setTile (n : Nat) (x : TileSt) : (s.setTile n x).mir = s.mir := rfl
@[simp] theorem State.age_setTile (n : Nat) (x : TileSt) : (s.setTile n x).age = s.age := rfl
@[simp] theorem State.cap_setTile (n : Nat) (x : TileSt) : (s.setTile n x).cap = s.cap := rfl
@[simp] theorem State.links_setTile (n : Nat) (x : TileSt) : (s.setTile n x).links = s.links := rfl
@[simp] theorem State.trp_setTile (n : Nat) (x : TileSt) : (s.setTile n x).trp = s.trp := rfl
@[simp] theorem State.strings_setTile (n : Nat) (x : TileSt) : (s.setTile n x).strings = s.strings := rfl
@[simp] theorem State.hld_setTile (n : Nat) (x : TileSt) : (s.setTile n x).hld = s.hld := rfl
@[simp] theorem State.flt_setTile (n : Nat) (x : TileSt) : (s.setTile n x).flt = s.flt := rfl
@[simp] theorem State.wdg_setTile (n : Nat) (x : TileSt) : (s.setTile n x).wdg = s.wdg := rfl
@[simp] theorem State.rcd_setTile (n : Nat) (x : TileSt) : (s.setTile n x).rcd = s.rcd := rfl
@[simp] theorem State.pws_setTile (n : Nat) (x : TileSt) : (s.setTile n x).pws = s.pws := rfl
@[simp] theorem State.boot_setTile (n : Nat) (x : TileSt) : (s.setTile n x).boot = s.boot := rfl
@[simp] theorem State.dbg_setTile (n : Nat) (x : TileSt) : (s.setTile n x).dbg = s.dbg := rfl
@[simp] theorem State.ans_setTile (n : Nat) (x : TileSt) : (s.setTile n x).ans = s.ans := rfl
@[simp] theorem State.flash_setTile (n : Nat) (x : TileSt) : (s.setTile n x).flash = s.flash := rfl
@[simp] theorem State.port_setTile (n : Nat) (x : TileSt) (k : Nat) : (s.setTile n x).port k = s.port k := rfl
@[simp] theorem State.core_setTile (n : Nat) (x : TileSt) (k : Nat) : (s.setTile n x).core k = s.core k := rfl
@[simp] theorem State.fuse_setTile (n : Nat) (x : TileSt) (k : Nat) : (s.setTile n x).fuse k = s.fuse k := rfl
@[simp] theorem State.rail_setTile (n : Nat) (x : TileSt) (k : Nat) : (s.setTile n x).rail k = s.rail k := rfl
@[simp] theorem State.str_setTile (n : Nat) (x : TileSt) (k : Nat) : (s.setTile n x).str k = s.str k := rfl
@[simp] theorem State.link_setTile (n : Nat) (x : TileSt) (k : Nat) : (s.setTile n x).link k = s.link k := rfl
@[simp] theorem State.rd_setTile (n : Nat) (x : TileSt) (m : Loc) : (s.setTile n x).rd m = s.rd m := rfl

/-! ### setFuse -/

@[simp] theorem State.pending_setFuse (p : Nat) (x : FuseSt) : (s.setFuse p x).pending = s.pending := rfl
@[simp] theorem State.free_setFuse (p : Nat) (x : FuseSt) : (s.setFuse p x).free = s.free := rfl
@[simp] theorem State.regs_setFuse (p : Nat) (x : FuseSt) : (s.setFuse p x).regs = s.regs := rfl
@[simp] theorem State.capt_setFuse (p : Nat) (x : FuseSt) : (s.setFuse p x).capt = s.capt := rfl
@[simp] theorem State.wide_setFuse (p : Nat) (x : FuseSt) : (s.setFuse p x).wide = s.wide := rfl
@[simp] theorem State.mer_setFuse (p : Nat) (x : FuseSt) : (s.setFuse p x).mer = s.mer := rfl
@[simp] theorem State.tiles_setFuse (p : Nat) (x : FuseSt) : (s.setFuse p x).tiles = s.tiles := rfl
@[simp] theorem State.cores_setFuse (p : Nat) (x : FuseSt) : (s.setFuse p x).cores = s.cores := rfl
@[simp] theorem State.dmem_setFuse (p : Nat) (x : FuseSt) : (s.setFuse p x).dmem = s.dmem := rfl
@[simp] theorem State.code_setFuse (p : Nat) (x : FuseSt) : (s.setFuse p x).code = s.code := rfl
@[simp] theorem State.extent_setFuse (p : Nat) (x : FuseSt) : (s.setFuse p x).extent = s.extent := rfl
@[simp] theorem State.cram_setFuse (p : Nat) (x : FuseSt) : (s.setFuse p x).cram = s.cram := rfl
@[simp] theorem State.send_setFuse (p : Nat) (x : FuseSt) : (s.setFuse p x).send = s.send := rfl
@[simp] theorem State.recv_setFuse (p : Nat) (x : FuseSt) : (s.setFuse p x).recv = s.recv := rfl
@[simp] theorem State.present_setFuse (p : Nat) (x : FuseSt) : (s.setFuse p x).present = s.present := rfl
@[simp] theorem State.cells_setFuse (p : Nat) (x : FuseSt) : (s.setFuse p x).cells = s.cells := rfl
@[simp] theorem State.gains_setFuse (p : Nat) (x : FuseSt) : (s.setFuse p x).gains = s.gains := rfl
@[simp] theorem State.switch_setFuse (p : Nat) (x : FuseSt) : (s.setFuse p x).switch = s.switch := rfl
@[simp] theorem State.upd_setFuse (p : Nat) (x : FuseSt) : (s.setFuse p x).upd = s.upd := rfl
@[simp] theorem State.ports_setFuse (p : Nat) (x : FuseSt) : (s.setFuse p x).ports = s.ports := rfl
@[simp] theorem State.otp_setFuse (p : Nat) (x : FuseSt) : (s.setFuse p x).otp = s.otp := rfl
@[simp] theorem State.rails_setFuse (p : Nat) (x : FuseSt) : (s.setFuse p x).rails = s.rails := rfl
@[simp] theorem State.mgt_setFuse (p : Nat) (x : FuseSt) : (s.setFuse p x).mgt = s.mgt := rfl
@[simp] theorem State.buses_setFuse (p : Nat) (x : FuseSt) : (s.setFuse p x).buses = s.buses := rfl
@[simp] theorem State.mir_setFuse (p : Nat) (x : FuseSt) : (s.setFuse p x).mir = s.mir := rfl
@[simp] theorem State.age_setFuse (p : Nat) (x : FuseSt) : (s.setFuse p x).age = s.age := rfl
@[simp] theorem State.cap_setFuse (p : Nat) (x : FuseSt) : (s.setFuse p x).cap = s.cap := rfl
@[simp] theorem State.links_setFuse (p : Nat) (x : FuseSt) : (s.setFuse p x).links = s.links := rfl
@[simp] theorem State.trp_setFuse (p : Nat) (x : FuseSt) : (s.setFuse p x).trp = s.trp := rfl
@[simp] theorem State.strings_setFuse (p : Nat) (x : FuseSt) : (s.setFuse p x).strings = s.strings := rfl
@[simp] theorem State.hld_setFuse (p : Nat) (x : FuseSt) : (s.setFuse p x).hld = s.hld := rfl
@[simp] theorem State.flt_setFuse (p : Nat) (x : FuseSt) : (s.setFuse p x).flt = s.flt := rfl
@[simp] theorem State.wdg_setFuse (p : Nat) (x : FuseSt) : (s.setFuse p x).wdg = s.wdg := rfl
@[simp] theorem State.rcd_setFuse (p : Nat) (x : FuseSt) : (s.setFuse p x).rcd = s.rcd := rfl
@[simp] theorem State.pws_setFuse (p : Nat) (x : FuseSt) : (s.setFuse p x).pws = s.pws := rfl
@[simp] theorem State.boot_setFuse (p : Nat) (x : FuseSt) : (s.setFuse p x).boot = s.boot := rfl
@[simp] theorem State.dbg_setFuse (p : Nat) (x : FuseSt) : (s.setFuse p x).dbg = s.dbg := rfl
@[simp] theorem State.ans_setFuse (p : Nat) (x : FuseSt) : (s.setFuse p x).ans = s.ans := rfl
@[simp] theorem State.flash_setFuse (p : Nat) (x : FuseSt) : (s.setFuse p x).flash = s.flash := rfl
@[simp] theorem State.port_setFuse (p : Nat) (x : FuseSt) (k : Nat) : (s.setFuse p x).port k = s.port k := rfl
@[simp] theorem State.core_setFuse (p : Nat) (x : FuseSt) (k : Nat) : (s.setFuse p x).core k = s.core k := rfl
@[simp] theorem State.tile_setFuse (p : Nat) (x : FuseSt) (k : Nat) : (s.setFuse p x).tile k = s.tile k := rfl
@[simp] theorem State.rail_setFuse (p : Nat) (x : FuseSt) (k : Nat) : (s.setFuse p x).rail k = s.rail k := rfl
@[simp] theorem State.str_setFuse (p : Nat) (x : FuseSt) (k : Nat) : (s.setFuse p x).str k = s.str k := rfl
@[simp] theorem State.link_setFuse (p : Nat) (x : FuseSt) (k : Nat) : (s.setFuse p x).link k = s.link k := rfl
@[simp] theorem State.rd_setFuse (p : Nat) (x : FuseSt) (m : Loc) : (s.setFuse p x).rd m = s.rd m := rfl

/-! ### setRail -/

@[simp] theorem State.pending_setRail (r : Nat) (x : RailSt) : (s.setRail r x).pending = s.pending := rfl
@[simp] theorem State.free_setRail (r : Nat) (x : RailSt) : (s.setRail r x).free = s.free := rfl
@[simp] theorem State.regs_setRail (r : Nat) (x : RailSt) : (s.setRail r x).regs = s.regs := rfl
@[simp] theorem State.capt_setRail (r : Nat) (x : RailSt) : (s.setRail r x).capt = s.capt := rfl
@[simp] theorem State.wide_setRail (r : Nat) (x : RailSt) : (s.setRail r x).wide = s.wide := rfl
@[simp] theorem State.mer_setRail (r : Nat) (x : RailSt) : (s.setRail r x).mer = s.mer := rfl
@[simp] theorem State.tiles_setRail (r : Nat) (x : RailSt) : (s.setRail r x).tiles = s.tiles := rfl
@[simp] theorem State.cores_setRail (r : Nat) (x : RailSt) : (s.setRail r x).cores = s.cores := rfl
@[simp] theorem State.dmem_setRail (r : Nat) (x : RailSt) : (s.setRail r x).dmem = s.dmem := rfl
@[simp] theorem State.code_setRail (r : Nat) (x : RailSt) : (s.setRail r x).code = s.code := rfl
@[simp] theorem State.extent_setRail (r : Nat) (x : RailSt) : (s.setRail r x).extent = s.extent := rfl
@[simp] theorem State.cram_setRail (r : Nat) (x : RailSt) : (s.setRail r x).cram = s.cram := rfl
@[simp] theorem State.send_setRail (r : Nat) (x : RailSt) : (s.setRail r x).send = s.send := rfl
@[simp] theorem State.recv_setRail (r : Nat) (x : RailSt) : (s.setRail r x).recv = s.recv := rfl
@[simp] theorem State.present_setRail (r : Nat) (x : RailSt) : (s.setRail r x).present = s.present := rfl
@[simp] theorem State.cells_setRail (r : Nat) (x : RailSt) : (s.setRail r x).cells = s.cells := rfl
@[simp] theorem State.gains_setRail (r : Nat) (x : RailSt) : (s.setRail r x).gains = s.gains := rfl
@[simp] theorem State.switch_setRail (r : Nat) (x : RailSt) : (s.setRail r x).switch = s.switch := rfl
@[simp] theorem State.upd_setRail (r : Nat) (x : RailSt) : (s.setRail r x).upd = s.upd := rfl
@[simp] theorem State.ports_setRail (r : Nat) (x : RailSt) : (s.setRail r x).ports = s.ports := rfl
@[simp] theorem State.fuses_setRail (r : Nat) (x : RailSt) : (s.setRail r x).fuses = s.fuses := rfl
@[simp] theorem State.otp_setRail (r : Nat) (x : RailSt) : (s.setRail r x).otp = s.otp := rfl
@[simp] theorem State.mgt_setRail (r : Nat) (x : RailSt) : (s.setRail r x).mgt = s.mgt := rfl
@[simp] theorem State.buses_setRail (r : Nat) (x : RailSt) : (s.setRail r x).buses = s.buses := rfl
@[simp] theorem State.mir_setRail (r : Nat) (x : RailSt) : (s.setRail r x).mir = s.mir := rfl
@[simp] theorem State.age_setRail (r : Nat) (x : RailSt) : (s.setRail r x).age = s.age := rfl
@[simp] theorem State.cap_setRail (r : Nat) (x : RailSt) : (s.setRail r x).cap = s.cap := rfl
@[simp] theorem State.links_setRail (r : Nat) (x : RailSt) : (s.setRail r x).links = s.links := rfl
@[simp] theorem State.trp_setRail (r : Nat) (x : RailSt) : (s.setRail r x).trp = s.trp := rfl
@[simp] theorem State.strings_setRail (r : Nat) (x : RailSt) : (s.setRail r x).strings = s.strings := rfl
@[simp] theorem State.hld_setRail (r : Nat) (x : RailSt) : (s.setRail r x).hld = s.hld := rfl
@[simp] theorem State.flt_setRail (r : Nat) (x : RailSt) : (s.setRail r x).flt = s.flt := rfl
@[simp] theorem State.wdg_setRail (r : Nat) (x : RailSt) : (s.setRail r x).wdg = s.wdg := rfl
@[simp] theorem State.rcd_setRail (r : Nat) (x : RailSt) : (s.setRail r x).rcd = s.rcd := rfl
@[simp] theorem State.pws_setRail (r : Nat) (x : RailSt) : (s.setRail r x).pws = s.pws := rfl
@[simp] theorem State.boot_setRail (r : Nat) (x : RailSt) : (s.setRail r x).boot = s.boot := rfl
@[simp] theorem State.dbg_setRail (r : Nat) (x : RailSt) : (s.setRail r x).dbg = s.dbg := rfl
@[simp] theorem State.ans_setRail (r : Nat) (x : RailSt) : (s.setRail r x).ans = s.ans := rfl
@[simp] theorem State.flash_setRail (r : Nat) (x : RailSt) : (s.setRail r x).flash = s.flash := rfl
@[simp] theorem State.port_setRail (r : Nat) (x : RailSt) (k : Nat) : (s.setRail r x).port k = s.port k := rfl
@[simp] theorem State.core_setRail (r : Nat) (x : RailSt) (k : Nat) : (s.setRail r x).core k = s.core k := rfl
@[simp] theorem State.tile_setRail (r : Nat) (x : RailSt) (k : Nat) : (s.setRail r x).tile k = s.tile k := rfl
@[simp] theorem State.fuse_setRail (r : Nat) (x : RailSt) (k : Nat) : (s.setRail r x).fuse k = s.fuse k := rfl
@[simp] theorem State.str_setRail (r : Nat) (x : RailSt) (k : Nat) : (s.setRail r x).str k = s.str k := rfl
@[simp] theorem State.link_setRail (r : Nat) (x : RailSt) (k : Nat) : (s.setRail r x).link k = s.link k := rfl
@[simp] theorem State.rd_setRail (r : Nat) (x : RailSt) (m : Loc) : (s.setRail r x).rd m = s.rd m := rfl

/-! ### setStr -/

@[simp] theorem State.pending_setStr (u : Nat) (x : StringSt) : (s.setStr u x).pending = s.pending := rfl
@[simp] theorem State.free_setStr (u : Nat) (x : StringSt) : (s.setStr u x).free = s.free := rfl
@[simp] theorem State.regs_setStr (u : Nat) (x : StringSt) : (s.setStr u x).regs = s.regs := rfl
@[simp] theorem State.capt_setStr (u : Nat) (x : StringSt) : (s.setStr u x).capt = s.capt := rfl
@[simp] theorem State.wide_setStr (u : Nat) (x : StringSt) : (s.setStr u x).wide = s.wide := rfl
@[simp] theorem State.mer_setStr (u : Nat) (x : StringSt) : (s.setStr u x).mer = s.mer := rfl
@[simp] theorem State.tiles_setStr (u : Nat) (x : StringSt) : (s.setStr u x).tiles = s.tiles := rfl
@[simp] theorem State.cores_setStr (u : Nat) (x : StringSt) : (s.setStr u x).cores = s.cores := rfl
@[simp] theorem State.dmem_setStr (u : Nat) (x : StringSt) : (s.setStr u x).dmem = s.dmem := rfl
@[simp] theorem State.code_setStr (u : Nat) (x : StringSt) : (s.setStr u x).code = s.code := rfl
@[simp] theorem State.extent_setStr (u : Nat) (x : StringSt) : (s.setStr u x).extent = s.extent := rfl
@[simp] theorem State.cram_setStr (u : Nat) (x : StringSt) : (s.setStr u x).cram = s.cram := rfl
@[simp] theorem State.send_setStr (u : Nat) (x : StringSt) : (s.setStr u x).send = s.send := rfl
@[simp] theorem State.recv_setStr (u : Nat) (x : StringSt) : (s.setStr u x).recv = s.recv := rfl
@[simp] theorem State.present_setStr (u : Nat) (x : StringSt) : (s.setStr u x).present = s.present := rfl
@[simp] theorem State.cells_setStr (u : Nat) (x : StringSt) : (s.setStr u x).cells = s.cells := rfl
@[simp] theorem State.gains_setStr (u : Nat) (x : StringSt) : (s.setStr u x).gains = s.gains := rfl
@[simp] theorem State.switch_setStr (u : Nat) (x : StringSt) : (s.setStr u x).switch = s.switch := rfl
@[simp] theorem State.upd_setStr (u : Nat) (x : StringSt) : (s.setStr u x).upd = s.upd := rfl
@[simp] theorem State.ports_setStr (u : Nat) (x : StringSt) : (s.setStr u x).ports = s.ports := rfl
@[simp] theorem State.fuses_setStr (u : Nat) (x : StringSt) : (s.setStr u x).fuses = s.fuses := rfl
@[simp] theorem State.otp_setStr (u : Nat) (x : StringSt) : (s.setStr u x).otp = s.otp := rfl
@[simp] theorem State.rails_setStr (u : Nat) (x : StringSt) : (s.setStr u x).rails = s.rails := rfl
@[simp] theorem State.mgt_setStr (u : Nat) (x : StringSt) : (s.setStr u x).mgt = s.mgt := rfl
@[simp] theorem State.buses_setStr (u : Nat) (x : StringSt) : (s.setStr u x).buses = s.buses := rfl
@[simp] theorem State.mir_setStr (u : Nat) (x : StringSt) : (s.setStr u x).mir = s.mir := rfl
@[simp] theorem State.age_setStr (u : Nat) (x : StringSt) : (s.setStr u x).age = s.age := rfl
@[simp] theorem State.cap_setStr (u : Nat) (x : StringSt) : (s.setStr u x).cap = s.cap := rfl
@[simp] theorem State.links_setStr (u : Nat) (x : StringSt) : (s.setStr u x).links = s.links := rfl
@[simp] theorem State.trp_setStr (u : Nat) (x : StringSt) : (s.setStr u x).trp = s.trp := rfl
@[simp] theorem State.hld_setStr (u : Nat) (x : StringSt) : (s.setStr u x).hld = s.hld := rfl
@[simp] theorem State.flt_setStr (u : Nat) (x : StringSt) : (s.setStr u x).flt = s.flt := rfl
@[simp] theorem State.wdg_setStr (u : Nat) (x : StringSt) : (s.setStr u x).wdg = s.wdg := rfl
@[simp] theorem State.rcd_setStr (u : Nat) (x : StringSt) : (s.setStr u x).rcd = s.rcd := rfl
@[simp] theorem State.pws_setStr (u : Nat) (x : StringSt) : (s.setStr u x).pws = s.pws := rfl
@[simp] theorem State.boot_setStr (u : Nat) (x : StringSt) : (s.setStr u x).boot = s.boot := rfl
@[simp] theorem State.dbg_setStr (u : Nat) (x : StringSt) : (s.setStr u x).dbg = s.dbg := rfl
@[simp] theorem State.ans_setStr (u : Nat) (x : StringSt) : (s.setStr u x).ans = s.ans := rfl
@[simp] theorem State.flash_setStr (u : Nat) (x : StringSt) : (s.setStr u x).flash = s.flash := rfl
@[simp] theorem State.port_setStr (u : Nat) (x : StringSt) (k : Nat) : (s.setStr u x).port k = s.port k := rfl
@[simp] theorem State.core_setStr (u : Nat) (x : StringSt) (k : Nat) : (s.setStr u x).core k = s.core k := rfl
@[simp] theorem State.tile_setStr (u : Nat) (x : StringSt) (k : Nat) : (s.setStr u x).tile k = s.tile k := rfl
@[simp] theorem State.fuse_setStr (u : Nat) (x : StringSt) (k : Nat) : (s.setStr u x).fuse k = s.fuse k := rfl
@[simp] theorem State.rail_setStr (u : Nat) (x : StringSt) (k : Nat) : (s.setStr u x).rail k = s.rail k := rfl
@[simp] theorem State.link_setStr (u : Nat) (x : StringSt) (k : Nat) : (s.setStr u x).link k = s.link k := rfl
@[simp] theorem State.rd_setStr (u : Nat) (x : StringSt) (m : Loc) : (s.setStr u x).rd m = s.rd m := rfl

/-! ### setLink -/

@[simp] theorem State.pending_setLink (l : Nat) (x : LinkSt) : (s.setLink l x).pending = s.pending := rfl
@[simp] theorem State.free_setLink (l : Nat) (x : LinkSt) : (s.setLink l x).free = s.free := rfl
@[simp] theorem State.regs_setLink (l : Nat) (x : LinkSt) : (s.setLink l x).regs = s.regs := rfl
@[simp] theorem State.capt_setLink (l : Nat) (x : LinkSt) : (s.setLink l x).capt = s.capt := rfl
@[simp] theorem State.wide_setLink (l : Nat) (x : LinkSt) : (s.setLink l x).wide = s.wide := rfl
@[simp] theorem State.mer_setLink (l : Nat) (x : LinkSt) : (s.setLink l x).mer = s.mer := rfl
@[simp] theorem State.tiles_setLink (l : Nat) (x : LinkSt) : (s.setLink l x).tiles = s.tiles := rfl
@[simp] theorem State.cores_setLink (l : Nat) (x : LinkSt) : (s.setLink l x).cores = s.cores := rfl
@[simp] theorem State.dmem_setLink (l : Nat) (x : LinkSt) : (s.setLink l x).dmem = s.dmem := rfl
@[simp] theorem State.code_setLink (l : Nat) (x : LinkSt) : (s.setLink l x).code = s.code := rfl
@[simp] theorem State.extent_setLink (l : Nat) (x : LinkSt) : (s.setLink l x).extent = s.extent := rfl
@[simp] theorem State.cram_setLink (l : Nat) (x : LinkSt) : (s.setLink l x).cram = s.cram := rfl
@[simp] theorem State.send_setLink (l : Nat) (x : LinkSt) : (s.setLink l x).send = s.send := rfl
@[simp] theorem State.recv_setLink (l : Nat) (x : LinkSt) : (s.setLink l x).recv = s.recv := rfl
@[simp] theorem State.present_setLink (l : Nat) (x : LinkSt) : (s.setLink l x).present = s.present := rfl
@[simp] theorem State.cells_setLink (l : Nat) (x : LinkSt) : (s.setLink l x).cells = s.cells := rfl
@[simp] theorem State.gains_setLink (l : Nat) (x : LinkSt) : (s.setLink l x).gains = s.gains := rfl
@[simp] theorem State.switch_setLink (l : Nat) (x : LinkSt) : (s.setLink l x).switch = s.switch := rfl
@[simp] theorem State.upd_setLink (l : Nat) (x : LinkSt) : (s.setLink l x).upd = s.upd := rfl
@[simp] theorem State.ports_setLink (l : Nat) (x : LinkSt) : (s.setLink l x).ports = s.ports := rfl
@[simp] theorem State.fuses_setLink (l : Nat) (x : LinkSt) : (s.setLink l x).fuses = s.fuses := rfl
@[simp] theorem State.otp_setLink (l : Nat) (x : LinkSt) : (s.setLink l x).otp = s.otp := rfl
@[simp] theorem State.rails_setLink (l : Nat) (x : LinkSt) : (s.setLink l x).rails = s.rails := rfl
@[simp] theorem State.mgt_setLink (l : Nat) (x : LinkSt) : (s.setLink l x).mgt = s.mgt := rfl
@[simp] theorem State.buses_setLink (l : Nat) (x : LinkSt) : (s.setLink l x).buses = s.buses := rfl
@[simp] theorem State.mir_setLink (l : Nat) (x : LinkSt) : (s.setLink l x).mir = s.mir := rfl
@[simp] theorem State.age_setLink (l : Nat) (x : LinkSt) : (s.setLink l x).age = s.age := rfl
@[simp] theorem State.cap_setLink (l : Nat) (x : LinkSt) : (s.setLink l x).cap = s.cap := rfl
@[simp] theorem State.trp_setLink (l : Nat) (x : LinkSt) : (s.setLink l x).trp = s.trp := rfl
@[simp] theorem State.strings_setLink (l : Nat) (x : LinkSt) : (s.setLink l x).strings = s.strings := rfl
@[simp] theorem State.hld_setLink (l : Nat) (x : LinkSt) : (s.setLink l x).hld = s.hld := rfl
@[simp] theorem State.flt_setLink (l : Nat) (x : LinkSt) : (s.setLink l x).flt = s.flt := rfl
@[simp] theorem State.wdg_setLink (l : Nat) (x : LinkSt) : (s.setLink l x).wdg = s.wdg := rfl
@[simp] theorem State.rcd_setLink (l : Nat) (x : LinkSt) : (s.setLink l x).rcd = s.rcd := rfl
@[simp] theorem State.pws_setLink (l : Nat) (x : LinkSt) : (s.setLink l x).pws = s.pws := rfl
@[simp] theorem State.boot_setLink (l : Nat) (x : LinkSt) : (s.setLink l x).boot = s.boot := rfl
@[simp] theorem State.dbg_setLink (l : Nat) (x : LinkSt) : (s.setLink l x).dbg = s.dbg := rfl
@[simp] theorem State.ans_setLink (l : Nat) (x : LinkSt) : (s.setLink l x).ans = s.ans := rfl
@[simp] theorem State.flash_setLink (l : Nat) (x : LinkSt) : (s.setLink l x).flash = s.flash := rfl
@[simp] theorem State.port_setLink (l : Nat) (x : LinkSt) (k : Nat) : (s.setLink l x).port k = s.port k := rfl
@[simp] theorem State.core_setLink (l : Nat) (x : LinkSt) (k : Nat) : (s.setLink l x).core k = s.core k := rfl
@[simp] theorem State.tile_setLink (l : Nat) (x : LinkSt) (k : Nat) : (s.setLink l x).tile k = s.tile k := rfl
@[simp] theorem State.fuse_setLink (l : Nat) (x : LinkSt) (k : Nat) : (s.setLink l x).fuse k = s.fuse k := rfl
@[simp] theorem State.rail_setLink (l : Nat) (x : LinkSt) (k : Nat) : (s.setLink l x).rail k = s.rail k := rfl
@[simp] theorem State.str_setLink (l : Nat) (x : LinkSt) (k : Nat) : (s.setLink l x).str k = s.str k := rfl
@[simp] theorem State.rd_setLink (l : Nat) (x : LinkSt) (m : Loc) : (s.setLink l x).rd m = s.rd m := rfl

/-! ### A unit after its own update -/

@[simp] theorem State.port_setPort_same (k : Nat) (x : PortSt) : (s.setPort k x).port k = x := by simp [State.port, State.setPort]
theorem State.port_setPort_ne (k : Nat) (x : PortSt) {m : Nat} (h : m ≠ k) : (s.setPort k x).port m = s.port m := Tab.get_set_ne _ _ _ _ h
@[simp] theorem State.core_setCore_same (k : Nat) (x : Core) : (s.setCore k x).core k = x := by simp [State.core, State.setCore]
theorem State.core_setCore_ne (k : Nat) (x : Core) {m : Nat} (h : m ≠ k) : (s.setCore k x).core m = s.core m := Tab.get_set_ne _ _ _ _ h
@[simp] theorem State.tile_setTile_same (k : Nat) (x : TileSt) : (s.setTile k x).tile k = x := by simp [State.tile, State.setTile]
theorem State.tile_setTile_ne (k : Nat) (x : TileSt) {m : Nat} (h : m ≠ k) : (s.setTile k x).tile m = s.tile m := Tab.get_set_ne _ _ _ _ h
@[simp] theorem State.fuse_setFuse_same (k : Nat) (x : FuseSt) : (s.setFuse k x).fuse k = x := by simp [State.fuse, State.setFuse]
theorem State.fuse_setFuse_ne (k : Nat) (x : FuseSt) {m : Nat} (h : m ≠ k) : (s.setFuse k x).fuse m = s.fuse m := Tab.get_set_ne _ _ _ _ h
@[simp] theorem State.rail_setRail_same (k : Nat) (x : RailSt) : (s.setRail k x).rail k = x := by simp [State.rail, State.setRail]
theorem State.rail_setRail_ne (k : Nat) (x : RailSt) {m : Nat} (h : m ≠ k) : (s.setRail k x).rail m = s.rail m := Tab.get_set_ne _ _ _ _ h
@[simp] theorem State.str_setStr_same (k : Nat) (x : StringSt) : (s.setStr k x).str k = x := by simp [State.str, State.setStr]
theorem State.str_setStr_ne (k : Nat) (x : StringSt) {m : Nat} (h : m ≠ k) : (s.setStr k x).str m = s.str m := Tab.get_set_ne _ _ _ _ h
@[simp] theorem State.link_setLink_same (k : Nat) (x : LinkSt) : (s.setLink k x).link k = x := by simp [State.link, State.setLink]
theorem State.link_setLink_ne (k : Nat) (x : LinkSt) {m : Nat} (h : m ≠ k) : (s.setLink k x).link m = s.link m := Tab.get_set_ne _ _ _ _ h

/-- A field of a register reads as it was put, in the bits the field has. -/
theorem State.rd_setF (l m : Loc) (f : Fld) (v : Nat) (hl : l.ok = true) (hm : m.ok = true) :
    (s.setF l f v).rd m = if m = l then f.put (s.rd l) v else s.rd m := State.rd_wr s l m _ hl hm

end Sys2Proof.Machine
end

