-- ==== Sys2Proof/Laws/Issue.lean ====
section
/-! SUPPORT. The issue of an instruction: what counting, tagging and the ends of a bundle leave alone, and what an instruction
that takes effect does. -/

namespace Sys2Proof.Machine

/-! ### Loops -/

/-- What every round keeps, a loop keeps. -/
theorem forEach_keeps {σ : Type} (P : σ → Prop) (n : Nat) (f : Nat → σ → σ) (h : ∀ k s, P s → P (f k s)) (s : σ) (hs : P s) :
    P (forEach n f s) := by
  unfold forEach
  generalize List.range n = l
  induction l generalizing s with
  | nil => exact hs
  | cons k l ih => exact ih _ (h k s hs)

/-- What every round keeps, a loop over a list keeps. -/
theorem forList_keeps {σ α : Type} (P : σ → Prop) (l : List α) (f : α → σ → σ) (h : ∀ x s, P s → P (f x s)) (s : σ) (hs : P s) :
    P (forList l f s) := by
  unfold forList
  induction l generalizing s with
  | nil => exact hs
  | cons x l ih => exact ih _ (h x s hs)

/-! ### Quiet changes -/

theorem Quiet.refl (k : Nat) (s : State) : Quiet k s s :=
  ⟨⟨rfl, fun _ _ => rfl, fun _ => rfl, fun _ _ => rfl, fun _ _ _ => rfl⟩, ⟨rfl, rfl⟩, ⟨rfl, rfl, rfl, rfl, rfl⟩, rfl⟩

theorem Quiet.trans {k : Nat} {s t u : State} (a : Quiet k s t) (b : Quiet k t u) : Quiet k s u where
  rest := by rw [b.rest, a.rest]
  others := fun j h => (b.others j h).trans (a.others j h)
  priv := ⟨b.priv.1.trans a.priv.1, b.priv.2.trans a.priv.2⟩
  stops := ⟨b.stops.1.trans a.stops.1, b.stops.2.1.trans a.stops.2.1, b.stops.2.2.1.trans a.stops.2.2.1,
    b.stops.2.2.2.1.trans a.stops.2.2.2.1, b.stops.2.2.2.2.trans a.stops.2.2.2.2⟩
  held := b.held.trans a.held
  tiles := fun n => by
    have h1 := a.tiles n
    have h2 := b.tiles n
    rw [← h2] at h1
    simpa using h1
  ports := fun p h => (b.ports p h).trans (a.ports p h)
  regs := fun l h c => (b.regs l h c).trans (a.regs l h c)

/-- A write of a counted register. -/
theorem Quiet.wr (k : Nat) (s : State) (l : Loc) (w : Word) (hl : l.ok = true) (hc : l.counted k = true) : Quiet k s (s.wr l w) where
  rest := rfl
  others := fun _ _ => rfl
  priv := ⟨rfl, rfl⟩
  stops := ⟨rfl, rfl, rfl, rfl, rfl⟩
  held := rfl
  tiles := fun _ => rfl
  ports := fun _ _ => rfl
  regs := fun m hm c => by
    rw [State.rd_wr s l m w hl hm, if_neg]
    intro e
    rw [e, hc] at c
    cases c

/-- A change of the core's record that leaves its privileged registers, its stops and its held writes. -/
theorem Quiet.setCore (k : Nat) (s : State) (c : Core) (h1 : c.s = (s.core k).s) (h2 : c.mpu = (s.core k).mpu)
    (h3 : c.running = (s.core k).running) (h4 : c.waiting = (s.core k).waiting) (h5 : c.dead = (s.core k).dead)
    (h6 : c.access = (s.core k).access) (h7 : c.retired = (s.core k).retired) (h8 : c.heldWrites = (s.core k).heldWrites) :
    Quiet k s (s.setCore k c) where
  rest := rfl
  others := fun j h => State.core_setCore_ne s k c h
  priv := by simp [h1, h2]
  stops := by simp [h3, h4, h5, h6, h7]
  held := by simp [h8]
  tiles := fun _ => rfl
  ports := fun _ _ => rfl
  regs := fun _ _ _ => rfl

/-! ### Counting -/

theorem Loc.tally_counted {k : Nat} {l : Loc} (h : l.counted k = false) : l.tally = false := by
  cases l <;> simp_all [Loc.counted, Loc.tally]

/-- The state with other registers, in the counter blocks. -/
def Counts (_k : Nat) (s t : State) : Prop := t = { s with regs := t.regs } ∧ ∀ l : Loc, l.ok = true → l.tally = false → t.rd l = s.rd l

theorem Counts.refl (k : Nat) (s : State) : Counts k s s := ⟨rfl, fun _ _ _ => rfl⟩

theorem Counts.trans {k : Nat} {s t u : State} (a : Counts k s t) (b : Counts k t u) : Counts k s u :=
  ⟨by rw [b.1, a.1], fun l h c => (b.2 l h c).trans (a.2 l h c)⟩

theorem Counts.wr (k : Nat) (s : State) (l : Loc) (w : Word) (hl : l.ok = true) (hc : l.tally = true) : Counts k s (s.wr l w) :=
  ⟨rfl, fun m hm c => by
    rw [State.rd_wr s l m w hl hm, if_neg]
    intro e
    rw [e, hc] at c
    cases c⟩

theorem Counts.core {k : Nat} {s t : State} (h : Counts k s t) (j : Nat) : t.core j = s.core j := by
  rw [h.1]; rfl

theorem Counts.quiet {k : Nat} {s t : State} (h : Counts k s t) : Quiet k s t where
  rest := by rw [h.1]
  others := fun j _ => h.core j
  priv := by simp [h.core]
  stops := by simp [h.core]
  held := by simp [h.core]
  tiles := fun n => by rw [h.1]; rfl
  ports := fun p _ => by rw [h.1]; rfl
  regs := fun l hl c => h.2 l hl (Loc.tally_counted c)

theorem Counts.countReg (k : Nat) (s : State) (sel lo hi : Loc) (e n : Nat) (h1 : sel.ok = true) (h2 : lo.ok = true) (h3 : hi.ok = true)
    (c1 : sel.tally = true) (c2 : lo.tally = true) (c3 : hi.tally = true) : Counts k s (s.countReg sel lo hi e n) := by
  unfold State.countReg
  split
  · dsimp only
    have a : Counts k s (s.wrPair lo hi ((s.rdPair lo hi + n) % 2 ^ 48)) :=
      (Counts.wr k s lo _ h2 c2).trans (Counts.wr k _ hi _ h3 c3)
    split
    · exact a.trans (Counts.wr k _ sel _ h1 c1)
    · exact a
  · exact Counts.refl k s

/-- The counters of a tile's block count. -/
theorem Counts.countT (k : Nat) (s : State) (t b e n : Nat) (ht : t < 8) (hb : b < 36) : Counts k s (s.countT t b e n) := by
  unfold State.countT
  split
  · have h : ∀ m, m ≤ 8 → Counts k s (forEach m (fun c s => s.countReg (TPRF_SEL t b c) (TPRF_CNT_LO t b c) (TPRF_CNT_HI t b c) e n) s) := by
      intro m
      induction m with
      | zero => exact fun _ => Counts.refl k s
      | succ m ih =>
        intro hm
        have := ih (by omega)
        simp only [forEach, List.range_succ, List.foldl_append, List.foldl_cons, List.foldl_nil] at this ⊢
        refine this.trans (Counts.countReg k _ _ _ _ e n ?_ ?_ ?_ rfl rfl rfl) <;> simp [Loc.ok] <;> omega
    exact h 8 (Nat.le_refl 8)
  · exact Counts.refl k s

theorem coreTile_lt {c : Nat} (h : c < 136) : coreTile c < 8 := by unfold coreTile; split <;> omega

/-- The counters of a lane or a steward count. -/
theorem Counts.countCore (k : Nat) (s : State) (c e n : Nat) (h : c < 136) : Counts k s (s.countCore c e n) := by
  unfold State.countCore
  split
  · exact Counts.countT k s _ _ e n (by omega) (by omega)
  · exact Counts.countT k s _ _ e n (by omega) (by omega)

/-! ### Parts of an issue -/

/-- Quiet work that leaves the core's registers and its LOCK sequence, and gives its snapshot. -/
structure Begun (k : Nat) (s t : State) : Prop where
  quiet : Quiet k s t
  r : (t.core k).r = (s.core k).r
  lock : (t.core k).lock = (s.core k).lock
  loops : (t.core k).loops = (s.core k).loops
  pc : (t.core k).pc = (s.core k).pc
  snap : (t.core k).snap = (s.core k).snap
  only : t = { s with regs := t.regs, cores := t.cores }
  rd : ∀ l : Loc, l.ok = true → l.tally = false → t.rd l = s.rd l

theorem Begun.refl (k : Nat) (s : State) : Begun k s s := ⟨Quiet.refl k s, rfl, rfl, rfl, rfl, rfl, rfl, fun _ _ _ => rfl⟩

theorem Begun.trans {k : Nat} {s t u : State} (a : Begun k s t) (b : Begun k t u) : Begun k s u :=
  ⟨a.quiet.trans b.quiet, b.r.trans a.r, b.lock.trans a.lock, b.loops.trans a.loops, b.pc.trans a.pc, b.snap.trans a.snap,
    by rw [b.only, a.only], fun l h c => (b.rd l h c).trans (a.rd l h c)⟩

theorem Counts.begun {k : Nat} {s t : State} (h : Counts k s t) : Begun k s t :=
  ⟨h.quiet, by rw [h.core], by rw [h.core], by rw [h.core], by rw [h.core], by rw [h.core], by rw [h.1], h.2⟩

theorem Begun.setCore (k : Nat) (s : State) (c : Core) (h1 : c.s = (s.core k).s) (h2 : c.mpu = (s.core k).mpu)
    (h3 : c.running = (s.core k).running) (h4 : c.waiting = (s.core k).waiting) (h5 : c.dead = (s.core k).dead)
    (h6 : c.access = (s.core k).access) (h7 : c.retired = (s.core k).retired) (h8 : c.lock = (s.core k).lock)
    (h9 : c.r = (s.core k).r) (h10 : c.loops = (s.core k).loops) (h11 : c.pc = (s.core k).pc)
    (h12 : c.snap = (s.core k).snap) : Begun k s (s.setCore k c) :=
  ⟨Quiet.setCore k s c h1 h2 h3 h4 h5 h6 h7 (by unfold Core.heldWrites; rw [h8]), by simp [h9], by simp [h8], by simp [h10], by simp [h11], by simp [h12],
    rfl, fun _ _ _ => rfl⟩

/-- The same, where the record is changed by a function. -/
theorem Begun.modCore (k : Nat) (s : State) (f : Core → Core)
    (h : ∀ c : Core, (f c).s = c.s ∧ (f c).mpu = c.mpu ∧ (f c).running = c.running ∧ (f c).waiting = c.waiting ∧ (f c).dead = c.dead ∧
      (f c).access = c.access ∧ (f c).retired = c.retired ∧ (f c).lock = c.lock ∧ (f c).r = c.r ∧ (f c).loops = c.loops ∧ (f c).pc = c.pc ∧
      (f c).snap = c.snap) :
    Begun k s (s.modCore k f) :=
  have g := h (s.core k)
  Begun.setCore k s _ g.1 g.2.1 g.2.2.1 g.2.2.2.1 g.2.2.2.2.1 g.2.2.2.2.2.1 g.2.2.2.2.2.2.1 g.2.2.2.2.2.2.2.1
    g.2.2.2.2.2.2.2.2.1 g.2.2.2.2.2.2.2.2.2.1 g.2.2.2.2.2.2.2.2.2.2.1 g.2.2.2.2.2.2.2.2.2.2.2

/-- Charging the ledger and stepping the tag register (R451, R452). -/
theorem Begun.bundleStart (s : State) (i : Issue) (h : i.core < 136) : Begun i.core s (s.bundleStart i) := by
  unfold State.bundleStart
  split
  · exact (Counts.countCore _ s _ _ _ h).begun
  · dsimp only
    refine Begun.trans ?_ (Begun.modCore _ _ _ fun _ => ⟨rfl, rfl, rfl, rfl, rfl, rfl, rfl, rfl, rfl, rfl, rfl, rfl⟩)
    refine Begun.trans ?_ (Begun.setCore _ _ _ rfl rfl rfl rfl rfl rfl rfl rfl rfl rfl rfl rfl)
    have a := ((Counts.countCore i.core s i.core 0x10 (i.cyc - (s.core i.core).lastIssue - 1 + 1) h).trans (Counts.countCore i.core _ i.core 0x11 1 h)).begun
    refine a.trans ?_
    split <;> split
    · exact (Counts.countT _ _ _ _ _ _ (coreTile_lt h) (by omega)).begun
    · exact ((Counts.countCore _ _ _ _ _ h).trans (Counts.countT _ _ _ _ _ _ (coreTile_lt h) (by omega))).begun
    · exact Begun.refl _ _
    · exact (Counts.countCore _ _ _ _ _ h).begun

theorem Begun.slotCharge (s : State) (i : Issue) (nop on : Bool) (h : i.core < 136) : Begun i.core s (s.slotCharge i nop on) := by
  unfold State.slotCharge
  split
  · exact Begun.refl _ _
  · generalize (if nop then 0x13 else if on then 0x12 else 0x14) = e
    have a := (Counts.countCore i.core s i.core e 1 h).begun
    dsimp only
    split
    · refine a.trans ?_
      exact Begun.modCore _ _ _ (fun _ => ⟨rfl, rfl, rfl, rfl, rfl, rfl, rfl, rfl, rfl, rfl, rfl, rfl⟩)
    · exact a

/-! ### Ends of a bundle -/

/-- Quiet work that leaves the core's registers. -/
def Calm (k : Nat) (s t : State) : Prop := Quiet k s t ∧ (t.core k).r = (s.core k).r

theorem Calm.refl (k : Nat) (s : State) : Calm k s s := ⟨Quiet.refl k s, rfl⟩
theorem Calm.trans {k : Nat} {s t u : State} (a : Calm k s t) (b : Calm k t u) : Calm k s u := ⟨a.1.trans b.1, b.2.trans a.2⟩
theorem Begun.calm {k : Nat} {s t : State} (a : Begun k s t) : Calm k s t := ⟨a.quiet, a.r⟩
theorem Counts.calm {k : Nat} {s t : State} (a : Counts k s t) : Calm k s t := a.begun.calm

theorem Calm.wr (k : Nat) (s : State) (l : Loc) (w : Word) (hl : l.ok = true) (hc : l.counted k = true) : Calm k s (s.wr l w) :=
  ⟨Quiet.wr k s l w hl hc, rfl⟩

theorem Calm.setPort (k : Nat) (s : State) (x : PortSt) : Calm k s (s.setPort k x) :=
  ⟨⟨⟨rfl, fun _ _ => rfl, fun _ => rfl, fun p h => State.port_setPort_ne s k x h, fun _ _ _ => rfl⟩, ⟨rfl, rfl⟩, ⟨rfl, rfl, rfl, rfl, rfl⟩, rfl⟩, rfl⟩

/-- The core's own port enters SAFE. -/
theorem Calm.enterSafe (k : Nat) (s : State) (cause : Nat) (h : k < 128) : Calm k s (s.enterSafe k cause) := by
  unfold State.enterSafe
  split
  · exact Calm.refl k s
  · dsimp only
    refine Calm.trans ?_ (Calm.setPort k _ _)
    refine (Calm.wr k s _ _ ?_ ?_).trans (Calm.wr k _ _ _ ?_ ?_) <;> simp [Loc.ok, Loc.counted, h]

theorem Calm.enterSafeOn (k : Nat) (s : State) (cause : Nat) (h : k < 128) : Calm k s (s.enterSafeOn k cause) := by
  unfold State.enterSafeOn
  split
  · exact Calm.refl k s
  · exact Calm.enterSafe k s cause h

theorem Core.endBundle_keeps (c : Core) (k : Nat) :
    (c.endBundle k).s = c.s ∧ (c.endBundle k).mpu = c.mpu ∧ (c.endBundle k).running = c.running ∧ (c.endBundle k).waiting = c.waiting ∧
      (c.endBundle k).dead = c.dead ∧ (c.endBundle k).access = c.access ∧ (c.endBundle k).retired = c.retired ∧
      (c.endBundle k).lock = c.lock ∧ (c.endBundle k).r = c.r := by
  unfold Core.endBundle
  cases c.snap with
  | none => exact ⟨rfl, rfl, rfl, rfl, rfl, rfl, rfl, rfl, rfl⟩
  | some x =>
    cases c.jump with
    | none =>
      dsimp only
      split <;> exact ⟨rfl, rfl, rfl, rfl, rfl, rfl, rfl, rfl, rfl⟩
    | some t =>
      dsimp only
      split <;> exact ⟨rfl, rfl, rfl, rfl, rfl, rfl, rfl, rfl, rfl⟩

/-- The end of a slot, where no LOCK sequence of a steward crosses the end of a LOOP body. -/
theorem Calm.closeSlot (s : State) (i : Issue) (h : i.core < 136)
    (hl : isSteward i.core = true → (s.core i.core).lock.isSome = true → i.slot1 = true → (s.core i.core).atLoopEnd = false) :
    Calm i.core s (s.closeSlot i) := by
  unfold State.closeSlot
  dsimp only
  split
  · exact Calm.refl _ s
  · rename_i h1
    split
    · rename_i h2
      have := hl h2.1 h2.2.2.1 (by simpa using h1)
      rw [this] at h2
      simp at h2
    · have k := Core.endBundle_keeps (s.core i.core) i.core
      have a : Calm i.core s (s.modCore i.core fun c => { c.endBundle i.core with stepping := false }) := by
        have e : (s.modCore i.core fun c => { c.endBundle i.core with stepping := false }) =
            s.setCore i.core { (s.core i.core).endBundle i.core with stepping := false } := rfl
        rw [e]
        generalize (s.core i.core).endBundle i.core = c at k
        refine ⟨Quiet.setCore _ s _ k.1 k.2.1 k.2.2.1 k.2.2.2.1 k.2.2.2.2.1 k.2.2.2.2.2.1 k.2.2.2.2.2.2.1 ?_, ?_⟩
        · simp only [Core.heldWrites]; rw [k.2.2.2.2.2.2.2.1]
        · rw [State.core_setCore_same]; exact k.2.2.2.2.2.2.2.2
      split
      · rename_i h3
        exact a.trans (Calm.enterSafeOn _ _ _ (by have := h3.1; simp [isSteward] at this; omega))
      · exact a

/-- An event of a source is queued, and SEEN shows it. -/
theorem Calm.raise (k : Nat) (s : State) (src arg cyc : Nat) (h : src < 3584) : Calm k s (s.raise src arg cyc) := by
  have a : Counts k s (s.countFault src 0x60) := by
    unfold State.countFault
    split
    · exact Counts.countT k s _ _ _ _ (by unfold srcTile; split <;> omega) (by omega)
    · exact Counts.refl k s
  have b := a.calm.trans (Calm.wr k _ (FLT_SRC src) (FLT_SRC_SEEN.put ((s.countFault src 0x60).rd (FLT_SRC src)) 1) (by simp [Loc.ok, h]) rfl)
  refine b.trans ?_
  exact ⟨⟨⟨rfl, fun _ _ => rfl, fun _ => rfl, fun _ _ => rfl, fun _ _ _ => rfl⟩, ⟨rfl, rfl⟩, ⟨rfl, rfl, rfl, rfl, rfl⟩, rfl⟩, rfl⟩

theorem Calm.tagEnd (s : State) (i : Issue) (h : i.core < 136) : Calm i.core s (s.tagEnd i) := by
  unfold State.tagEnd
  split
  · exact Calm.refl _ s
  · dsimp only
    have ht := coreTile_lt h
    have a : Calm i.core s (s.modCore i.core fun c => { c with tag := none }) :=
      (Begun.modCore i.core s (fun c => { c with tag := none }) fun _ => ⟨rfl, rfl, rfl, rfl, rfl, rfl, rfl, rfl, rfl, rfl, rfl, rfl⟩).calm
    refine a.trans ?_
    split
    · refine ⟨⟨⟨rfl, fun _ _ => rfl, fun n => ?_, fun _ _ => rfl, fun _ _ _ => rfl⟩, ⟨rfl, rfl⟩, ⟨rfl, rfl, rfl, rfl, rfl⟩, rfl⟩, rfl⟩
      by_cases hn : n = coreTile i.core
      · subst hn; simp [State.modTile]
      · simp [State.modTile, State.tile_setTile_ne _ _ _ hn]
    · refine (Calm.wr _ _ _ _ ?_ ?_).trans (Calm.raise _ _ _ _ _ ?_)
      · simp [Loc.ok]; omega
      · simp [Loc.counted]
      · show 512 + 384 * coreTile i.core + 363 < 3584; omega

/-! ### An instruction that takes effect -/

/-- What is left of an issue once the instruction has had its effect. -/
def State.finishIssue (s : State) (i : Issue) : State := if i.slot1 then (s.closeSlot i).tagEnd i else s.closeSlot i

theorem Calm.finishIssue (s : State) (i : Issue) (h : i.core < 136)
    (hl : isSteward i.core = true → (s.core i.core).lock.isSome = true → i.slot1 = true → (s.core i.core).atLoopEnd = false) :
    Calm i.core s (s.finishIssue i) := by
  unfold State.finishIssue
  split
  · exact (Calm.closeSlot s i h hl).trans (Calm.tagEnd _ i h)
  · exact Calm.closeSlot s i h hl

/-- Quiet work that leaves the core's registers, LOCK sequence, LOOP levels and pc. -/
structure Opened (k : Nat) (s t : State) : Prop where
  quiet : Quiet k s t
  r : (t.core k).r = (s.core k).r
  lock : (t.core k).lock = (s.core k).lock
  loops : (t.core k).loops = (s.core k).loops
  pc : (t.core k).pc = (s.core k).pc
  only : t = { s with regs := t.regs, cores := t.cores, flt := t.flt }
  rd : ∀ l : Loc, l.ok = true → l.counted k = false → t.rd l = s.rd l

theorem Begun.opened {k : Nat} {s t : State} (a : Begun k s t) : Opened k s t := by
  have e : t.flt = s.flt := by rw [a.only]
  exact ⟨a.quiet, a.r, a.lock, a.loops, a.pc, by rw [e]; exact a.only, fun l h c => a.rd l h (Loc.tally_counted c)⟩
theorem Opened.trans {k : Nat} {s t u : State} (a : Opened k s t) (b : Opened k t u) : Opened k s u :=
  ⟨a.quiet.trans b.quiet, b.r.trans a.r, b.lock.trans a.lock, b.loops.trans a.loops, b.pc.trans a.pc, by rw [b.only, a.only],
    fun l h c => (b.rd l h c).trans (a.rd l h c)⟩
theorem Opened.calm {k : Nat} {s t : State} (a : Opened k s t) : Calm k s t := ⟨a.quiet, a.r⟩

/-- A corrected memory error raises its source (R65). -/
theorem Opened.corrected (k : Nat) (s : State) (ce : Bool) (cyc : Nat) (h : k < 136) :
    Opened k s (s.corrected ce k cyc) ∧ ((s.corrected ce k cyc).core k).snap = (s.core k).snap := by
  unfold State.corrected
  split
  · have a := Counts.countCore k s k 0x0C 1 h
    have hs : tileSrc (coreTile k) LAN_MEM_CE < 3584 := by
      have := coreTile_lt h
      show 512 + 384 * coreTile k + _ < 3584
      simp only [LAN_MEM_CE]
      omega
    have b := a.calm.trans (Calm.raise k _ _ (if isSteward k then 0xFF else k) cyc hs)
    have e : ∀ (u : State) (src arg : Nat), src < 3584 → (u.raise src arg cyc).core k = u.core k ∧
        u.raise src arg cyc = { u with regs := (u.raise src arg cyc).regs, flt := (u.raise src arg cyc).flt } := by
      intro u src arg hs
      have c : Counts k u (u.countFault src 0x60) := by
        unfold State.countFault
        split
        · exact Counts.countT k u _ _ _ _ (by unfold srcTile; split <;> omega) (by omega)
        · exact Counts.refl k u
      refine ⟨(c.core k : _), ?_⟩
      unfold State.raise
      dsimp only
      rw [c.1]
      rfl
    have f := e (s.countCore k 0x0C 1) (tileSrc (coreTile k) LAN_MEM_CE) (if isSteward k then 0xFF else k) hs
    have g := f.1.trans (a.core k)
    refine ⟨⟨b.1, b.2, by rw [g], by rw [g], by rw [g], ?_, b.1.regs⟩, by rw [g]⟩
    obtain ⟨r, hr⟩ : ∃ r, s.countCore k 0x0C 1 = { s with regs := r } := ⟨_, a.1⟩
    rw [f.2, hr]
  · exact ⟨(Begun.refl k s).opened, rfl⟩

/-- The registers that an opened slot reads are those it was to read. -/
theorem Core.openSlot_snap (c d : Core) (slot1 : Bool) (x : Instr) (h1 : d.snap = c.snap) (h2 : d.r = c.r) :
    (d.openSlot slot1 x).snap = some (c.reads slot1) := by
  unfold Core.openSlot Core.reads
  cases slot1 with
  | false => simp [h2]
  | true => cases hsn : c.snap with
    | none => simp [h1, h2, hsn]
    | some x => simp [h1, hsn]

theorem Core.openSlot_keeps (c : Core) (slot1 : Bool) (x : Instr) : (c.openSlot slot1 x).s = c.s ∧ (c.openSlot slot1 x).mpu = c.mpu ∧
    (c.openSlot slot1 x).running = c.running ∧ (c.openSlot slot1 x).waiting = c.waiting ∧ (c.openSlot slot1 x).dead = c.dead ∧
    (c.openSlot slot1 x).access = c.access ∧ (c.openSlot slot1 x).retired = c.retired ∧ (c.openSlot slot1 x).lock = c.lock ∧
    (c.openSlot slot1 x).r = c.r ∧ (c.openSlot slot1 x).loops = c.loops ∧ (c.openSlot slot1 x).pc = c.pc := by
  unfold Core.openSlot
  split <;> exact ⟨rfl, rfl, rfl, rfl, rfl, rfl, rfl, rfl, rfl, rfl, rfl⟩

theorem Opened.openSlot (k : Nat) (s : State) (slot1 : Bool) (x : Instr) : Opened k s (s.setCore k ((s.core k).openSlot slot1 x)) := by
  have g := Core.openSlot_keeps (s.core k) slot1 x
  generalize (s.core k).openSlot slot1 x = c at g
  refine ⟨Quiet.setCore _ s _ g.1 g.2.1 g.2.2.1 g.2.2.2.1 g.2.2.2.2.1 g.2.2.2.2.2.1 g.2.2.2.2.2.2.1 ?_, ?_, ?_, ?_, ?_, rfl, fun _ _ _ => rfl⟩
  · simp only [Core.heldWrites]; rw [g.2.2.2.2.2.2.2.1]
  · rw [State.core_setCore_same]; exact g.2.2.2.2.2.2.2.2.1
  · rw [State.core_setCore_same]; exact g.2.2.2.2.2.2.2.1
  · rw [State.core_setCore_same]; exact g.2.2.2.2.2.2.2.2.2.1
  · rw [State.core_setCore_same]; exact g.2.2.2.2.2.2.2.2.2.2

/-- A slot that issues and whose predicate holds: its body runs on a state in which nothing but the bundle's bookkeeping differs. -/
theorem issueAny_issues (x : Instr) (i : Issue) (s : State) (body : CoreRegs → State → State) (hc : i.core < 136)
    (h : s.fires i = true) (hx : s.legal x i = true) : ∃ s1, Opened i.core s s1 ∧ (s1.core i.core).snap = some ((s.core i.core).reads i.slot1) ∧
      issueAny x i s body = (body ((s.core i.core).reads i.slot1) s1).finishIssue i := by
  simp only [State.fires, Bool.and_eq_true] at h
  obtain ⟨⟨hi, hp⟩, hs⟩ := h
  obtain ⟨s0, hs0, b0, n0⟩ : ∃ s0, (if ((s.core i.core).snap.isNone || !i.slot1) = true then (s.corrected i.ce i.core i.cyc).bundleStart i else s) = s0 ∧
      Opened i.core s s0 ∧ (s0.core i.core).snap = (s.core i.core).snap := by
    refine ⟨_, rfl, ?_⟩
    split
    · have a := Opened.corrected i.core s i.ce i.cyc hc
      have b := Begun.bundleStart (s.corrected i.ce i.core i.cyc) i hc
      exact ⟨a.1.trans b.opened, b.snap.trans a.2⟩
    · exact ⟨(Begun.refl _ s).opened, rfl⟩
  have sn := Core.openSlot_snap (s.core i.core) (s0.core i.core) i.slot1 x n0 b0.r
  have src : ((s0.core i.core).openSlot i.slot1 x).src = (s.core i.core).reads i.slot1 := by simp [Core.src, sn]
  have b1 := Opened.openSlot i.core s0 i.slot1 x
  have b2 := Begun.slotCharge (s0.setCore i.core ((s0.core i.core).openSlot i.slot1 x)) i (insInfo x).isNop true hc
  refine ⟨_, (b0.trans b1).trans b2.opened, ?_, ?_⟩
  · rw [b2.snap, State.core_setCore_same, sn]
  · unfold issueAny
    rw [if_neg (by simp [hi]), if_neg, if_neg (by unfold State.legal at hx; simp [hx])]
    · dsimp only
      rw [hs0, src, hp, if_pos rfl]
      rfl
    · intro hx
      cases hsn : (s.core i.core).snap <;> simp_all

/-! ### The shapes of instructions -/

/-- Counting an instruction of an open LOCK sequence. -/
theorem Calm.countLock (k : Nat) (s : State) : Calm k s (s.modCore k Core.countLock) := by
  have e : s.modCore k Core.countLock = s.setCore k (s.core k).countLock := rfl
  rw [e]
  unfold Core.countLock
  cases h : (s.core k).lock with
  | none => exact ⟨Quiet.setCore _ s _ rfl rfl rfl rfl rfl rfl rfl rfl, by simp⟩
  | some l =>
    refine ⟨Quiet.setCore _ s _ rfl rfl rfl rfl rfl rfl rfl ?_, by simp⟩
    simp [Core.heldWrites, h]

/-- An instruction that takes effect, in a LOCK sequence or outside one: its body runs on a state in which nothing but the
bookkeeping differs. -/
theorem issue_issues (x : Instr) (i : Issue) (s : State) (body : CoreRegs → State → State) (hc : i.core < 136) (h : s.issues i = true)
    (hx : s.legal x i = true) :
    ∃ s1, Calm i.core s s1 ∧ (s1.core i.core).snap = some ((s.core i.core).reads i.slot1) ∧
      (s1.core i.core).loops = (s.core i.core).loops ∧ (s1.core i.core).pc = (s.core i.core).pc ∧
      (s1.core i.core).lock.isSome = (s.core i.core).lock.isSome ∧ s1 = { s with regs := s1.regs, cores := s1.cores, flt := s1.flt } ∧
      (∀ l : Loc, l.ok = true → l.counted i.core = false → s1.rd l = s.rd l) ∧
      issue x i s body = (body ((s.core i.core).reads i.slot1) s1).finishIssue i := by
  have hf := ((Bool.and_eq_true _ _).mp h).1
  have hl := ((Bool.and_eq_true _ _).mp h).2
  simp only [State.lockFits, Bool.or_eq_true, Bool.and_eq_true] at hl
  unfold issue
  dsimp only
  rw [if_neg]
  · by_cases hk : (s.core i.core).canIssue = true ∧ (s.core i.core).lock.isSome = true
    · rw [if_pos hk]
      have ca := Calm.countLock i.core s
      have e : (s.modCore i.core Core.countLock).core i.core = (s.core i.core).countLock := by simp [State.modCore]
      have fl : ∀ c : Core, c.countLock = { c with lock := c.lock.map fun l => { l with n := l.n + 1 } } := by
        intro c; cases c with | mk => unfold Core.countLock; dsimp only; split <;> simp_all
      rw [fl] at e
      have iss : (s.modCore i.core Core.countLock).fires i = true := by
        unfold State.fires at hf ⊢
        rw [e]
        exact hf
      have leg : (s.modCore i.core Core.countLock).legal x i = true := by
        unfold State.legal at hx ⊢
        rw [e]
        exact hx
      obtain ⟨s1, o, sn, eq⟩ := issueAny_issues x i _ body hc iss leg
      rw [e] at sn eq
      refine ⟨s1, ca.trans o.calm, sn, ?_, ?_, ?_, by rw [o.only]; rfl, fun l h c => o.rd l h c, eq⟩
      · rw [o.loops, e]
      · rw [o.pc, e]
      · rw [o.lock, e]; cases (s.core i.core).lock <;> rfl
    · rw [if_neg hk]
      obtain ⟨s1, o, sn, eq⟩ := issueAny_issues x i s body hc hf hx
      exact ⟨s1, o.calm, sn, o.loops, o.pc, by rw [o.lock], o.only, o.rd, eq⟩
  · rintro ⟨h1, _, h3⟩
    unfold Core.lockFull at h3
    cases hk : (s.core i.core).lock with
    | none => simp [hk] at h3
    | some l => simp_all [Core.lockFull]; omega

/-- The end of an instruction that broke no rule of a LOCK sequence and touched neither it nor the LOOP levels. -/
theorem Calm.finishOf (s t : State) (i : Issue) (hc : i.core < 136) (h : s.issues i = true)
    (h1 : (t.core i.core).loops = (s.core i.core).loops) (h2 : (t.core i.core).pc = (s.core i.core).pc)
    (h3 : (t.core i.core).lock.isSome = (s.core i.core).lock.isSome) : Calm i.core t (t.finishIssue i) := by
  refine Calm.finishIssue t i hc ?_
  intro a b c
  have hl := ((Bool.and_eq_true _ _).mp h).2
  simp only [State.lockFits, a, c, Bool.not_true, Bool.false_or, Bool.true_and] at hl
  rw [h3] at b
  unfold Core.atLoopEnd at hl ⊢
  rw [h1, h2]
  cases hk : (s.core i.core).lock <;> simp_all

/-- An instruction whose whole effect is on the core's registers: they change as it says, and nothing else does. -/
theorem issueRegs_issues (x : Instr) (i : Issue) (s : State) (f : CoreRegs → CoreRegs → CoreRegs) (hc : i.core < 136)
    (h : s.issues i = true) (hx : s.legal x i = true) :
    ((issueRegs x i s f).core i.core).r = f ((s.core i.core).reads i.slot1) (s.core i.core).r ∧ Quiet i.core s (issueRegs x i s f) := by
  unfold issueRegs
  obtain ⟨s1, ca, sn, lo, pc, lk, _, _, eq⟩ := issue_issues x i s (fun src s =>
    let n := (s.core i.core).r.c7
    let s := s.modRegs i.core (f src)
    if (s.core i.core).r.c7 = n + 1 then s.countCore i.core 0x0F 1 else s) hc h hx
  rw [eq]
  obtain ⟨s2, hs2, b⟩ : ∃ s2, (if ((s1.modRegs i.core (f ((s.core i.core).reads i.slot1))).core i.core).r.c7 = (s1.core i.core).r.c7 + 1 then
      (s1.modRegs i.core (f ((s.core i.core).reads i.slot1))).countCore i.core 0x0F 1 else
      s1.modRegs i.core (f ((s.core i.core).reads i.slot1))) = s2 ∧
      Counts i.core (s1.modRegs i.core (f ((s.core i.core).reads i.slot1))) s2 := by
    refine ⟨_, rfl, ?_⟩
    split
    · exact Counts.countCore _ _ _ _ _ hc
    · exact Counts.refl _ _
  have q : Quiet i.core s1 (s1.modRegs i.core (f ((s.core i.core).reads i.slot1))) :=
    Quiet.setCore _ _ _ rfl rfl rfl rfl rfl rfl rfl rfl
  have r : ((s1.modRegs i.core (f ((s.core i.core).reads i.slot1))).core i.core) =
      { s1.core i.core with r := f ((s.core i.core).reads i.slot1) (s1.core i.core).r } := by simp [State.modRegs, State.modCore]
  have c := Calm.finishOf s s2 i hc h (by rw [b.core, r]; exact lo) (by rw [b.core, r]; exact pc) (by rw [b.core, r]; exact lk)
  show (((_ : State).finishIssue i).core i.core).r = _ ∧ Quiet i.core s ((_ : State).finishIssue i)
  rw [hs2]
  refine ⟨?_, (ca.1.trans q).trans (b.quiet.trans c.1)⟩
  rw [c.2, b.core, r]
  simp [ca.2]

end Sys2Proof.Machine
end

