-- ==== Sys2Proof/Laws/Access.lean ====
section
/-! SUPPORT. An admitted access: what reaches its registers. -/

namespace Sys2Proof.Machine

theorem countT_tally (s : State) (t b e n : Nat) (ht : t < 8) (hb : b < 36) : Counts 0 s (s.countT t b e n) := Counts.countT 0 s t b e n ht hb

theorem ownerTile_lt (a : Nat) : ownerTile a < 8 := by unfold ownerTile; split <;> omega

theorem owners_lt {x : Access} {n : Nat} (h : n ∈ x.owners) : n < 8 := by
  unfold Access.owners at h
  rw [List.mem_eraseDups, List.mem_map] at h
  obtain ⟨e, _, rfl⟩ := h
  exact ownerTile_lt _

theorem portTile_lt {p : Nat} (h : p < 21) : portTile p < 8 := by
  unfold portTile
  repeat' split
  all_goals first | omega | (unfold busTile; repeat' split) <;> omega

/-- Counting an access's transfers changes counters only. -/
theorem fabricCount_counts (s : State) (x : Access) (h : x.port < 21) : Counts 0 s (s.fabricCount x) := by
  unfold State.fabricCount forList
  have : ∀ (l : List Nat) (t : State), (∀ n ∈ l, n < 8) → Counts 0 s t →
      Counts 0 s (l.foldl (fun s n => if n = portTile x.port then s else (s.countT (portTile x.port) 33 0x40 1).countT n 33 0x41 1) t) := by
    intro l
    induction l with
    | nil => exact fun _ _ c => c
    | cons n l ih =>
      intro t hl c
      refine ih _ (fun m hm => hl m (List.mem_cons_of_mem _ hm)) ?_
      dsimp only
      split
      · exact c
      · exact (c.trans (countT_tally _ _ _ _ _ (portTile_lt h) (by omega))).trans (countT_tally _ _ _ _ _ (hl n List.mem_cons_self) (by omega))
  exact this _ s (fun n hn => owners_lt hn) (Counts.refl 0 s)

/-- Transfers that meet no failure change nothing. -/
theorem transfers_clear (s : State) (cyc : Nat) (l : List (Nat × Nat)) (h : l = [] ∨ s.mer.fab = []) : s.transfers cyc l = (s, true) := by
  induction l with
  | nil => rfl
  | cons e l ih =>
    have hf : s.mer.fab = [] := by cases h with | inl h => cases h | inr h => exact h
    have ht : s.transfer e.1 e.2 cyc = (s, true) := by unfold State.transfer; rw [hf]
    unfold State.transfers
    rw [ht]
    exact ih (Or.inr hf)

/-- An admitted access is served at once: its words are reached on a state in which only counters differ. -/
theorem arrive_admitted (s : State) (x : Access) (cyc : Nat) (h : s.admits x = true) (hp : x.port < 21) :
    ∃ u, Counts 0 s u ∧ s.arrive x cyc =
      (if x.write then
        let r := u.writeWords x cyc 0 x.words
        r.1.finish x { status := if r.2 = 0 then 0 else 3, bad := r.2 } cyc
      else
        let r := (u.settleEnv x cyc).readWords x.peek (x.words.map fun e => e.1)
        r.1.finish x { status := if r.2.2 then 0 else 3, vals := r.2.1 } cyc) := by
  refine ⟨s.fabricCount x, fabricCount_counts s x hp, ?_⟩
  simp only [State.admits, Bool.and_eq_true, Bool.not_eq_true'] at h
  obtain ⟨⟨⟨⟨⟨h1, h2⟩, h3⟩, h4⟩, h5⟩, h6⟩ := h
  have clear : ∀ f : Nat → Nat × Nat, s.transfers cyc (x.far.map f) = (s, true) := fun f => by
    refine transfers_clear s cyc _ ?_
    simp only [Bool.or_eq_true, List.isEmpty_iff] at h6
    cases h6 with
    | inl h => exact Or.inl (by rw [h]; rfl)
    | inr h => exact Or.inr h
  have d : s.downRefuse x cyc = none := by
    unfold State.downRefuse
    rw [Option.map_eq_none_iff, List.find?_eq_none]
    intro n hn
    have := List.any_eq_false.1 h3 n hn
    simpa using this
  unfold State.arrive
  rw [if_neg (by simp [h1]), Option.isNone_iff_eq_none.1 h2]
  dsimp only
  rw [d, Option.isNone_iff_eq_none.1 h4]
  dsimp only
  unfold State.complete
  rw [if_neg (by simp [d])]
  simp only [clear, Bool.not_true, Bool.false_eq_true, if_false]
  unfold State.serve
  rw [d]
  dsimp only
  rw [if_neg (by simp [h5])]
  cases x.write <;> rfl

/-- An admitted write of one register that is a register of the map: its word is written on a state in which only counters differ. -/
theorem hostPut_admitted (s : State) (a : Arr) (l : Loc) (d : RegDesc) (w : Word) (h : s.admitsPut a l w = true) (hp : a.port < 21)
    (hl : l.ok = true) (hd : l.desc = some d) :
    ∃ u, Counts 0 s u ∧ s.hostPut a l w =
      (let r := u.writeWord (a.access s true [(l.addr, w)]) l d w a.cyc
       { r.1 with ans := (if r.2 then 0 else 3, []) }) := by
  obtain ⟨u, c, e⟩ := arrive_admitted s (a.access s true [(l.addr, w)]) a.cyc h hp
  refine ⟨u, c, ?_⟩
  have e' : s.hostPut a l w = s.arrive (a.access s true [(l.addr, w)]) a.cyc := rfl
  rw [e', e]
  have ww : u.writeWords (a.access s true [(l.addr, w)]) a.cyc 0 (a.access s true [(l.addr, w)]).words =
      ((u.writeWord (a.access s true [(l.addr, w)]) l d w a.cyc).1,
        if (u.writeWord (a.access s true [(l.addr, w)]) l d w a.cyc).2 then 0 else 1) := by
    simp only [Arr.access, State.writeWords, locate_addr l hl, hd]
    simp
    rfl
  rw [ww]
  generalize u.writeWord (a.access s true [(l.addr, w)]) l d w a.cyc = r
  obtain ⟨t, b⟩ := r
  cases b <;> rfl

end Sys2Proof.Machine
end

