-- ==== Sys2Proof/Tests/Slice0.lean ====
section
/-! SUPPORT. Tests: the checks of well-formedness, witnesses for the statements, small steps. -/

namespace Sys2Proof.Tests

open Sys2Proof Sys2Proof.Machine

set_option Elab.async false

/-! ### States and helpers -/

/-- The state after a command. -/
def after (c : Instr) (s : State) : State := match exec c s with | .next t => t | _ => s

/-- An instruction of a core, in slot 0 or 1, at lane cycle 400, without a predicate. -/
def at0 (k : Nat) : Issue := ⟨k, false, 0, 400, 0, false, false⟩
def at1 (k : Nat) : Issue := ⟨k, true, 0, 400, 0, false, false⟩

/-- An access of the JTAG port, which holds every right after reset. -/
def jtag : Arr := ⟨12, 400⟩

/-- Lane 5 and the steward of tile 2 run, each with some registers. -/
def regs0 : CoreRegs :=
  ((((({} : CoreRegs).setD 1 0x7FFFFF).setD 2 1).setD 3 0x800000).setP 1 0xFFFF).setA 1 0x40000000000000
def lane5 : State := State.reset.setCore 5 { running := true, r := regs0, pc := 7 }
def stw2 : State := State.reset.setCore 130 { running := true, r := regs0, pc := 7 }
/-- The steward in user mode with interrupts enabled, and a region of code that it may execute. -/
def user2 : State := State.reset.setCore 130 { running := true, r := regs0, pc := 7, s := [(0, 4), (6, 0x100)], mpu := [(1, 0x7FFF), (2, 0x30)] }
/-- Lane 5 with an open sequence. -/
def locked5 : State := State.reset.setCore 5 { running := true, r := regs0, pc := 9, lock := some ⟨{}, 7, 1, [.mem (dmemIdx 5 3) 44]⟩ }

/-! ### Well-formed commands: one ill-formed term for each check -/

theorem test_wf_core : (Instr.nop ⟨136, false, 0, 0, 0, false, false⟩).wf = false := by decide
theorem test_wf_pred : (Instr.nop ⟨0, false, 8, 0, 0, false, false⟩).wf = false := by decide
theorem test_wf_wait : (Instr.nop ⟨0, false, 0, 0, 8, false, false⟩).wf = false := by decide
theorem test_wf_register : (Instr.add (at0 5) 16 0 0).wf = false ∧ (Instr.add (at0 5) 0 16 0).wf = false ∧ (Instr.add (at0 5) 0 0 16).wf = false ∧
    (Instr.add (at0 5) 15 15 15).wf = true := by decide
theorem test_wf_accumulator : (Instr.mpy (at0 5) 4 0 0 .uu).wf = false ∧ (Instr.aget (at0 5) 0 0 3).wf = false ∧ (Instr.mvp (at0 5) 8 0).wf = false := by
  decide
theorem test_wf_count : (Instr.asri (at0 5) 0 0 24).wf = false ∧ (Instr.asri (at0 5) 0 0 23).wf = true := by decide
theorem test_wf_offset : (Instr.ld (at0 5) 0 0 .offset 4096 false).wf = false ∧ (Instr.ld (at0 5) 0 0 .offset (-4097) false).wf = false ∧
    (Instr.ld (at0 5) 0 0 .offset (-4096) false).wf = true := by decide
theorem test_wf_loop : (Instr.loop (at0 5) (some 16) 1 1).wf = false ∧ (Instr.loop (at0 5) none 4096 1).wf = false ∧ (Instr.loop (at0 5) none 1 0).wf = false := by
  decide
theorem test_wf_port : (Instr.traceArm ⟨21, 0⟩ 0).wf = false ∧ (Instr.traceArm ⟨20, 0⟩ 7).wf = true ∧ (Instr.traceArm ⟨20, 0⟩ 8).wf = false := by decide
theorem test_wf_exception : (Instr.preciseException 8 0 0 0).wf = false ∧ (Instr.preciseException 0 4 0 0).wf = false ∧
    (Instr.preciseException 0 0 1048576 0).wf = false := by decide

/-! ### Instructions -/

theorem test_add_overflow : ((after (.add (at0 5) 4 1 2) lane5).core 5).r.getD 4 = 0x800000 ∧
    C0_V.on ((after (.add (at0 5) 4 1 2) lane5).core 5).r.c0 = true := by decide
theorem test_adds_clamps : ((after (.adds (at0 5) 4 1 2) lane5).core 5).r.getD 4 = 0x7FFFFF ∧
    ((after (.adds (at0 5) 4 1 2) lane5).core 5).r.c7 = 1 := by decide
theorem test_mac_ii : ((after (.mac (at0 5) 0 2 2 .ii) lane5).core 5).r.getA 0 = 1 := by decide
theorem witness_RegisterResults : (at0 5).wf = true ∧ lane5.issues (at0 5) = true ∧ stw2.issues (at1 130) = true ∧
    lane5.legal (.add (at0 5) 15 14 13) (at0 5) = true ∧ stw2.legal (.cmp (at1 130) true 15 14 .eq) (at1 130) = true := by decide
theorem witness_PredicatedOff : (⟨5, false, 1, 400, 0, false, false⟩ : Issue).wf = true ∧ lane5.lockFits ⟨5, false, 1, 400, 0, false, false⟩ = true ∧
    (lane5.core 5).canIssue = true ∧ predHolds (lane5.srcOf ⟨5, false, 1, 400, 0, false, false⟩).c0 1 = false ∧
    lane5.legal (.add ⟨5, false, 1, 400, 0, false, false⟩ 4 1 2) ⟨5, false, 1, 400, 0, false, false⟩ = true ∧
    ((after (.add ⟨5, false, 1, 400, 0, false, false⟩ 4 1 2) lane5).core 5).r = regs0 := by decide
theorem test_ld_wraps : ((after (.ld (at0 5) 4 1 .postMod 1 false) { lane5 with dmem := [(5 * 65536 + 0xFFF, 77)] }).core 5).r.getD 4 = 77 ∧
    ((after (.ld (at0 5) 4 1 .postMod 1 false) { lane5 with dmem := [(5 * 65536 + 0xFFF, 77)] }).core 5).r.getP 1 = 0 := by decide

theorem witness_FlagRule : (aluAdds 0x7FFFFF 1).sat = true ∧ (aluAdds 1 1).sat = false := by decide
theorem witness_RoundingRule : roundOff 6 2 .halfEven = 2 ∧ roundOff 10 2 .halfEven = 2 ∧ roundOff (-6) 2 .halfEven = -2 ∧ roundOff (-6) 2 .halfUp = -1 ∧
    roundOff (-5) 2 .trunc = -2 := by decide
theorem witness_LoadResults : lane5.issues (at0 5) = true ∧ lane5.mayAccess 5 1 0xFFF false = true ∧ lane5.mayAccess 5 2 0xFFFF false = true ∧
    lane5.legal (.ld (at0 5) 4 1 .postMod 1 false) (at0 5) = true ∧ lane5.legal (.ldp (at0 5) 4 1 .postMod 1 false) (at0 5) = true ∧
    lane5.legal (.ldc (at0 5) 4 1 .offset 4095 false) (at0 5) = true := by decide
theorem witness_StoreResults : (lane5.core 5).lock = none ∧ lane5.mayAccess 5 1 0xFFF true = true ∧ stw2.mayAccess 130 1 0xFFFF true = true ∧
    lane5.legal (.st (at0 5) 1 1 .offset 2) (at0 5) = true ∧ lane5.legal (.stp (at0 5) 1 1 .offset 2) (at0 5) = true := by decide
theorem test_st_frame : (after (.st (at0 5) 1 1 .offset 2) lane5).dmem = [(dmemIdx 5 1, 0x7FFFFF)] := by decide
theorem witness_HeldStores : locked5.issues (at0 5) = true ∧ (locked5.core 5).lock.isSome = true ∧ locked5.mayAccess 5 1 5 true = true ∧
    locked5.legal (.st (at0 5) 1 1 .offset 2) (at0 5) = true ∧ locked5.legal (.xchs (at0 5) 1 7) (at0 5) = true ∧
    (after (.st (at0 5) 1 1 .offset 2) locked5).dmem = [] := by decide
theorem witness_CramAndGazetteerStarts : stw2.issues (at1 130) = true ∧ isSteward 130 = true ∧ (stw2.core 130).lock = none ∧
    stw2.mayAccess 130 2 0xFFFF true = true ∧ stw2.getF (RGT_PORT 15) RGT_PORT_RIGHTS / 4 % 2 = 1 ∧ (stw2.core 130).mpuAllows 3 0xFFFFF true false = true ∧ stw2.cramFull 2 1 = false ∧
    stw2.legal (.stc (at1 130) 4 3 .offset (-1)) (at1 130) = true ∧ stw2.legal (.ldg (at1 130) 4 3 (-1)) (at1 130) = true := by
  decide
/-- The write buffer of tile 2 is full. -/
def full2 : State := stw2.modTile 2 fun t => { t with cramBuf := (List.range 64).map fun k => (k, 1) }
theorem witness_CramAndGazetteerStarts_full : full2.cramFull 2 1 = true ∧ full2.issues (at1 130) = true ∧
    full2.getF (RGT_PORT 15) RGT_PORT_RIGHTS / 4 % 2 = 1 ∧ full2.legal (.stc (at1 130) 4 3 .offset 0) (at1 130) = true ∧
    ((after (.stc (at1 130) 4 3 .offset 0) full2).tile 2).cramBuf.length = 64 := by decide +kernel
theorem witness_CramAndGazetteerStarts_refused :
    (stw2.setF (RGT_PORT 15) RGT_PORT_RIGHTS 0).getF (RGT_PORT 15) RGT_PORT_RIGHTS / 4 % 2 = 0 := by decide
theorem test_ldg_address : ((after (.ldg (at1 130) 4 3 (-1)) stw2).core 130).access = some (.ldg 4 0xFFFFF) := by decide
theorem witness_TransferTargets : lane5.issues (at1 5) = true ∧ lane5.legal (.br (at1 5) (-8)) (at1 5) = true ∧ ((after (.br (at1 5) (-8)) lane5).core 5).pc = 4095 := by decide
theorem witness_LoopsAndBundleEnd : (Instr.loop (at1 5) (some 2) 4095 1).wf = true ∧ (Instr.loop (at1 5) none 0 511).wf = true ∧ lane5.issues (at1 5) = true ∧
    lane5.legal (.loop (at1 5) (some 2) 4095 1) (at1 5) = true ∧ lane5.legal (.nop (at0 5)) (at0 5) = true ∧
    (lane5.core 5).lock = none ∧ ((lane5.core 5).snap = none ∨ (lane5.core 5).jump = none) := by decide
theorem test_loop_register : ((after (.loop (at1 5) (some 2) 4095 1) lane5).core 5).loops = [⟨8, 8, 0, 1⟩] := by decide
theorem witness_PrivilegedResults : stw2.issues (at0 130) = true ∧ (stw2.core 130).privileged = true ∧ (stw2.core 130).lock = none ∧
    stw2.legal (.mvs (at0 130) 7 1) (at0 130) = true ∧ stw2.legal (.reti (at1 130)) (at1 130) = true ∧ stw2.legal (.trap (at0 130) 4095) (at0 130) = true := by decide
theorem witness_PrivilegedResults_space : (⟨23, 20⟩ : Fld).get ((stw2.srcOf (at0 130)).getD 2) ≤ 3 ∧ 3 < (⟨23, 20⟩ : Fld).get ((stw2.srcOf (at0 130)).getD 3) ∧
    ((after (.mpuw (at0 130) 1 2) stw2).core 130).mpu ≠ [] ∧ ((after (.mpuw (at0 130) 1 3) stw2).core 130).mpu = [] := by decide
theorem witness_UserModeTraps : user2.issues (at0 130) = true ∧ (user2.core 130).privileged = false ∧ ((user2.core 130).sreg 0).getLsbD 2 = true ∧
    user2.legal (.wait (at0 130)) (at0 130) = true ∧
    ((after (.wait (at0 130)) user2).core 130).pc = 0x100 := by decide
theorem witness_ExceptionEntry : (Instr.preciseException 2 1 0xFFFFF 400).wf = true ∧ (user2.core 130).running = true ∧ (user2.core 130).dead = false ∧
    (user2.core 130).snap = none ∧ ((after (.preciseException 2 1 0xFFFFF 400) user2).core 130).sreg 7 = 0xFFFFF := by decide
theorem test_double_exception : ((after (.preciseException 2 3 0 400) stw2).core 130).dead = true := by decide
/-- The steward with sources 3 and 15 pending and enabled. -/
def irq2 : State := State.reset.setCore 130 { running := true, pc := 7, s := [(0, 5), (2, 0x8008), (3, 0x8008), (6, 0x100)] }
theorem witness_InterruptEntryRule : (irq2.core 130).access = none ∧ (irq2.core 130).loops = [] ∧ (irq2.core 130).stepping = false ∧
    ((irq2.core 130).sreg 0).getLsbD 2 = true ∧ ((irq2.core 130).sreg 2).getLsbD 3 = true ∧ ((irq2.core 130).sreg 3).getLsbD 3 = true := by decide
theorem test_interrupt_order : ((after (.interruptEntry 2) irq2).core 130).pc = 0x118 ∧ ((after (.interruptEntry 2) irq2).core 130).sreg 3 = 0x8000 := by decide
theorem witness_PortReads : lane5.issues (at0 5) = true ∧ isSteward 5 = false ∧ stw2.issues (at0 130) = true := by decide
/-- Lane 5's port as a phase port in a state. -/
def port5 (st : Nat) : State := ((lane5.setF (STG_STAT 5) STG_STAT_STATE st).wr (ENV_DUTY 5) 0x400000).wr (ENV_SLEW 5) 0x7FFFFF
theorem witness_SendCellAndOut : (port5 0).issues (at0 5) = true ∧ (port5 0).pstate 5 = 0 ∧ (port5 1).pstate 5 = 1 ∧ (port5 2).pstate 5 = 2 ∧
    usesTarget ((port5 1).pers 5) 0 = true ∧ usesTarget ((port5 1).pers 5) 3 = false := by decide
theorem test_out_limited : ((after (.out (at0 5) 1 0) (port5 1)).port 5).pend = [(0, { w := 0x400000, due := 408 })] ∧
    C0_V.on ((after (.out (at0 5) 1 0) (port5 1)).core 5).r.c0 = true := by decide
theorem witness_EnvelopeLimits : ((port5 1).rd (ENV_SLEW 5)).toNat < 2 ^ 23 ∧ ((port5 1).rd (ENV_DUTY 5)).toNat < 2 ^ 23 ∧
    (0x3FFFFF : Word).toInt ≤ ((port5 1).rd (ENV_DUTY 5)).toNat ∧ rawOn (0x3FFFFF : Word).toInt ((port5 1).dutyPer 5) ≤ (port5 1).onTop 5 ((port5 1).dutyPer 5) := by decide
theorem witness_EnvtAndTighten : (tighten 0x80 5 4).2 = true ∧ (tighten 0x80 5 6).2 = false ∧ lane5.issues (at0 5) = true ∧ (lane5.core 5).lock = none ∧
    (lane5.envSettle 5 400).envtOk 5 0 0 = true ∧ (lane5.envSettle 5 400).envtOk 5 0 0x7FFFFF = false := by decide
theorem witness_LockAtomicity : lane5.issues (at0 5) = true ∧ (lane5.core 5).lock = none ∧ (lane5.core 5).atLoopEnd = false ∧ locked5.fires (at0 5) = true ∧
    (after (.unlock (at0 5)) locked5).dmem = [(dmemIdx 5 3, 44)] := by decide
theorem witness_TickendRetires : lane5.issues (at1 5) = true ∧ (at1 5).cyc < 65536 ∧ (lane5.setF (LAN_COST 5) LAN_COST_CYCLES 80).getF (LAN_COST 5) LAN_COST_CYCLES < 81 ∧
    (after (.tickend (at1 5)) lane5).getF (LAN_CYC_LAST 5) LAN_CYC_LAST_CYCLES = 81 := by decide +kernel

/-- Port 13 without rights; tile 3 in reset, tile 4 dozed. -/
def bare : State := State.reset.wr (RGT_PORT 13) 0
def down3 : State := State.reset.modTile 3 fun t => { t with inReset := true }
def doze4 : State := State.reset.modTile 4 fun t => { t with dozed := true }
def exch : State := { State.reset with mer := { State.reset.mer with phase := .exchange } }

theorem witness_AccessRefusals :
    (({ State.reset with pws := { State.reset.pws with keeper := true } }).pws.keeper = true) ∧
    (bare.pws.keeper = false ∧ bare.mayWrite ((⟨13, 0⟩ : Arr).access bare true [((STG_CTL 0).addr, 1)]).rights (STG_CTL 0).addr 1 = false) ∧
    (down3.mayWrite (jtag.access down3 true [((STG_CTL 48).addr, 1)]).rights (STG_CTL 48).addr 1 = true ∧ down3.tileDown (ownerTile (STG_CTL 48).addr) = true) ∧
    (doze4.mayWrite (jtag.access doze4 true [((STG_CTL 64).addr, 1)]).rights (STG_CTL 64).addr 1 = true ∧ doze4.tileDown 4 = false ∧ doze4.waitsAt (jtag.access doze4 true [((STG_CTL 64).addr, 1)]) = some 4) ∧
    (exch.waitsAt (jtag.access exch true [((STG_CTL 64).addr, 1)]) = some 4) ∧
    (State.reset.mayWrite (jtag.access State.reset true [(0xFFFFF, 1)]).rights 0xFFFFF 1 = true ∧ State.reset.tileDown (ownerTile 0xFFFFF) = false ∧ State.reset.waitsAt (jtag.access State.reset true [(0xFFFFF, 1)]) = none ∧ isHole 0xFFFFF = true ∧ State.reset.mer.fab = []) ∧
    (({ State.reset with mer := { State.reset.mer with fab := [true, true] } }.waitsAt (jtag.access State.reset true [((STG_PHS 127).addr, 1)]) = none) ∧ (jtag.access State.reset true [((STG_PHS 127).addr, 1)]).far = [7] ∧ State.reset.mayWrite (jtag.access State.reset true [((STG_PHS 127).addr, 1)]).rights (STG_PHS 127).addr 1 = true) := by decide +kernel

def stgHeld : State := State.reset.setCore 130 { running := true, access := some (.stg (STG_PHS 3).addr 5) }
def ldgHeld : State := State.reset.setCore 130 { running := true, access := some (.ldg 7 (STG_PHS 3).addr) }
def heldRead : State := State.reset.modTile 2 fun t => { t with held := [jtag.access State.reset false [((STG_PHS 3).addr, 0)]] }

theorem witness_PlainAccesses :
    ((STG_PHS 127).writesPlain = true ∧ State.reset.legalWord (STG_PHS 127) 5 = true ∧ State.reset.admitsPut jtag (STG_PHS 127) 5 = true ∧ (STG_PHS 127).ok = true) ∧
    (State.reset.admitsPut jtag (STG_PHS 3) 5 = true) ∧
    (State.reset.dbg.status ≠ 1 ∧ State.reset.admits { who := .jtag, port := 12, rights := State.reset.portRights 12, write := true, words := [((STG_PHS 3).addr, 5)] } = true) ∧
    ((STG_PHS 3).writesPlain = true ∧ (stgHeld.core 130).access = some (.stg (STG_PHS 3).addr 5) ∧ (stgHeld.waiting fun k => match k with | .steward m => m == 2 | _ => false) = false ∧ stgHeld.admits { who := .steward 2, port := 15, rights := stgHeld.portRights 15, write := true, words := [((STG_PHS 3).addr, 5)] } = true) ∧
    ((STG_PHS 3).readsPlain = true ∧ State.reset.admits (jtag.access State.reset false [((STG_PHS 3).addr, 0)]) = true) ∧
    ((STG_PHS 3).readsPlain = true ∧ (Loc.port 127 0x80).readsPlain = true ∧ (State.reset.port 127).envPend = [] ∧ State.reset.admits (jtag.access State.reset false [((ENV_OFFT 127).addr, 0)]) = true ∧ State.reset.mer.fab = []) ∧
    (State.reset.admits { who := .jtag, port := 12, rights := State.reset.portRights 12, write := false, words := [((STG_PHS 3).addr, 0)], peek := true } = true ∧ Tab.get none State.reset.dbg.capt (STG_PHS 3).addr = none) ∧
    ((ldgHeld.core 130).access = some (.ldg 7 (STG_PHS 3).addr) ∧ (ldgHeld.waiting fun k => match k with | .steward m => m == 2 | _ => false) = false ∧ ldgHeld.admits { who := .steward 2, port := 15, rights := ldgHeld.portRights 15, write := false, words := [((STG_PHS 3).addr, 0)] } = true) ∧
    (heldRead.mer.phase ≠ .exchange ∧ (heldRead.tile 2).dozed = false ∧ (heldRead.tile 2).held = [jtag.access heldRead false [((STG_PHS 3).addr, 0)]] ∧ (∀ m ∈ List.range 8, m ≠ 2 → (heldRead.tile m).held = []) ∧ heldRead.tileDown (ownerTile (STG_PHS 3).addr) = false) ∧
    (State.reset.admitsPut jtag (LAN_MBOX 7 7) 9 = true ∧ State.reset.admitsPut ⟨20, 0⟩ (LAN_MBOX 7 7) 9 = true) := by decide +kernel

def allowAll (p : Nat) (s : State) : State := s.setF (ENV_PERS p) ENV_PERS_ALLOW 0x1F
def maskWords (m : Nat) : List Word := (List.range 6).map fun k => BitVec.ofNat 24 (m / 2 ^ (24 * k))
def railedBoth : State := ((State.reset.wr (PHS_RAIL_MASK0 0) 3).wr (PHS_RAIL_LEAD 0) (PHS_RAIL_LEAD_ALT.put (PHS_RAIL_LEAD_LEAD.put 0 0) 1))
def safe5 : State := (allowAll 5 State.reset).setF (STG_STAT 5) STG_STAT_STATE 2
def fuse5 : State := (State.reset.setF (STG_CTL 5) STG_CTL_PERS 1).modPort 5 fun x => { x with persNow := 1 }

theorem witness_PortAndRailWrites :
    ((allowAll 127 State.reset).getF (STG_CTL 127) STG_CTL_PERS ≤ 4 ∧ (allowAll 127 State.reset).admitsField jtag (STG_CTL 127) STG_CTL_EN 1 = true ∧ ((allowAll 127 State.reset).getF (ENV_PERS 127) ENV_PERS_ALLOW).testBit ((allowAll 127 State.reset).pers 127) = true) ∧
    (State.reset.admitsField jtag (STG_CTL 0) STG_CTL_EN 0 = true) ∧
    ((allowAll 5 State.reset).admitsField jtag (STG_CTL 5) STG_CTL_PERS 4 = true ∧ (4 : Nat) ≠ (allowAll 5 State.reset).getF (STG_CTL 5) STG_CTL_PERS ∧ (allowAll 5 State.reset).flag (STG_CTL 5) STG_CTL_EN = false ∧ (allowAll 5 State.reset).pstate 5 ≠ 2 ∧ ((allowAll 5 State.reset).getF (ENV_PERS 5) ENV_PERS_ALLOW).testBit 4 = true) ∧
    (safe5.pstate 5 = 2 ∧ safe5.admitsField jtag (STG_CTL 5) STG_CTL_PERS 4 = true) ∧
    (State.reset.admits (jtag.access State.reset true (wordsFrom (PHS_RAIL_MASK0 15).addr (maskWords (2 ^ 127 + 5)))) = true ∧ 2 ^ 127 + 5 < 2 ^ 128 ∧ State.reset.railState 15 = 0 ∧ (lanesOf (2 ^ 127 + 5)).length ≤ 64 ∧ (∀ q ∈ List.range 16, q ≠ 15 → (2 ^ 127 + 5) &&& State.reset.railMask q = 0)) ∧
    (State.reset.admitsPut jtag (PHS_RAIL_LEAD 3) (PHS_RAIL_LEAD_ALT.put (PHS_RAIL_LEAD_LEAD.put 0 127) 9) = true ∧ State.reset.railState 3 = 0) ∧
    (railedBoth.legalWord (PHS_RAIL_CTL 0) (PHS_RAIL_CTL_STATE.put (railedBoth.heldWord (PHS_RAIL_CTL 0)) 4) = true ∧ railedBoth.admitsField jtag (PHS_RAIL_CTL 0) PHS_RAIL_CTL_STATE 4 = true ∧ (4 : Nat) ≠ railedBoth.railState 0 ∧ (railedBoth.railMask 0).testBit (railedBoth.leadOf 0) = true ∧ (railedBoth.railMask 0).testBit (railedBoth.altOf 0) = true) ∧
    (fuse5.admitsPut jtag (FUS_CMD 5) 1 = true ∧ fuse5.pers 5 = 1 ∧ fuse5.pstate 5 ≠ 1) ∧
    (State.reset.admitsPut jtag (BAT_CTL 31) 0x810105 = true ∧ State.reset.legalWord (BAT_CTL 31) 0x810105 = true ∧ (BAT_CTL_EN.on 0x810105 = true → ∀ v ∈ List.range 32, v ≠ 31 → State.reset.flag (BAT_CTL v) BAT_CTL_EN = true → State.reset.strPort v ≠ BAT_CTL_PORT.get 0x810105)) ∧
    (State.reset.admitsPut jtag (BAT_QNOM 31) 0xFFFFFF = true) ∧
    (State.reset.admitsPut jtag (.port 127 0x87) 1 = true) := by decide +kernel

def pend0 : State := { (State.reset.setF LAN_SW_STAT LAN_SW_STAT_PEND 1) with switch := some ⟨0, false, false, 0, none, false, []⟩ }
def lull3 : State := State.reset.setF PWS_STAT PWS_STAT_STATE 3
def entering : State := { (State.reset.setF PWS_STAT PWS_STAT_ENTERING 1) with pws := { State.reset.pws with entry := 1 } }
def sealed1 : State := { State.reset with otp := { sealed := 1 } }

theorem witness_PackageAndLaneWrites :
    (State.reset.admitsPut jtag MER_CTL 0xFFFFFE = true ∧ MER_CTL_SRC.get 0xFFFFFE ≠ 3) ∧
    (State.reset.admitsPut jtag MER_RATE_CTL 0 = true) ∧
    (State.reset.admitsPut jtag (LAN_PGM_DATA2 127) 0xFFFFFF = true ∧ State.reset.windowShut 127 = false ∧ Tab.get none State.reset.wide (LAN_PGM_DATA0 127).addr = none ∧ Tab.get none State.reset.wide (LAN_PGM_DATA1 127).addr = none) ∧
    (State.reset.admitsPut jtag (LAN_LOAD 0) 1 = true) ∧
    (State.reset.admitsPut jtag LAN_SW_CTL (LAN_SW_CTL_SCHED.put (LAN_SW_CTL_WHEN.put (LAN_SW_CTL_STW.put 0 1) 1) 1) = true ∧ State.reset.flag LAN_SW_STAT LAN_SW_STAT_PEND = false) ∧
    (pend0.switch = some ⟨0, false, false, 0, none, false, []⟩ ∧ pend0.admitsField jtag LAN_SW_CTL LAN_SW_CTL_CANCEL 1 = true ∧ pend0.getF LAN_SW_CTL LAN_SW_CTL_SCHED = 0) ∧
    (State.reset.admitsPut jtag PKG_TILE_RST 0xFE = true) ∧
    (State.reset.admitsPut jtag BOOT_CMD (BOOT_CMD_PKG_RST.put (BOOT_CMD_CONFIRM.put 0 0x3C) 1) = true) ∧
    (entering.admitsPut jtag PWS_CMD 1 = true ∧ entering.pws.entry = 1 ∧ entering.pwState ≠ 3) ∧
    (lull3.admitsPut jtag PWS_CMD 1 = true ∧ lull3.pws.entry = 0 ∧ lull3.pwState = 3 ∧ lull3.pws.waking = none) ∧
    (State.reset.admitsPut jtag ENV_OTP_DATA 5 = true ∧ State.reset.otp.sealed < 4 ∧ (State.reset.setF ENV_OTP_ADDR ENV_OTP_ADDR_ADDR 1024).getF ENV_OTP_ADDR ENV_OTP_ADDR_ADDR < 1025) ∧
    (State.reset.admitsPut jtag ENV_OTP_CMD 1 = true) ∧
    (sealed1.admitsPut jtag ENV_OTP_CMD (ENV_OTP_CMD_LOCK.put (ENV_OTP_CMD_CONFIRM.put 0 0xA5) 1) = true ∧ 0 < sealed1.otp.sealed) ∧
    (State.reset.admitsPut jtag (.pkg 0x2214) 0xFFFFFF = true ∧ State.reset.otp.rightsSealed = false) ∧
    (State.reset.admitsPut jtag RGT_CMD (RGT_CMD_SEAL.put (RGT_CMD_CONFIRM.put 0 0x5A) 1) = true) ∧
    (State.reset.admitsPut jtag (RGT_PORT 20) 7 = true) := by decide +kernel

/-- The block after its boot, at 4,000 lane cycles; lane 5 is to run, lane 6 runs on. -/
def booted : State :=
  { (((State.reset.wr MER_PERIOD 4000).setF (LAN_CTL 5) LAN_CTL_RUN 1).setF (LAN_STAT 5) LAN_STAT_ACT_OK 1) with
    boot := { State.reset.boot with running := true }, mer := { State.reset.mer with count := 2 ^ 48 - 1, err := 300 }, cores := [(5, { runOn := true })] }
def overrun6 : State := (booted.setCore 6 { running := true }).setCore 7 { retired := true, runOn := true }
def windowed : State :=
  { (overrun6.modTile 2 fun t => { t with cramBuf := [(65535, 9)] }) with cells := [(2 * 128 + 7, true)], send := [(7 * 8 + 3, 0x55)] }
def locked : State := booted.setF MER_STAT MER_STAT_LOCK 1
def freed : State := booted.setF MER_STAT MER_STAT_LOCK 3

theorem witness_TickWindows :
    (State.reset.boot.running = false) ∧
    (booted.boot.running = true) ∧
    (windowed.boot.running = true) ∧
    (booted.laneStarts 5 = true) ∧
    (windowed.laneStarts 7 = false) ∧
    ((overrun6.core 6).running = true ∧ (overrun6.core 6).retired = false ∧ (overrun6.core 6).halted = false ∧ overrun6.tileRuns 0 = true) ∧
    ((∀ e ∈ [(0, 7), (7, 127)], e.1 < 8 ∧ e.2 < 128)) ∧
    (windowed.dbg.writes = [] ∧ (windowed.tile 2).cramBuf = [(65535, 9)]) ∧
    (locked.lockState < 2) ∧
    (freed.lockState = 3) := by decide +kernel

def synced (s : State) : State := { s with mer := { s.mer with srcNow := 1, fromEdge := some 63000, since := 7 } }
def good16 : State := { (booted.setF MER_STAT MER_STAT_LOCK 0) with mer := { booted.mer with good := 16 } }
def lost4 : State := { locked with mer := { locked.mer with srcNow := 2, since := 5 } }
def asked (n : Nat) (tick : Option Nat) (late : Bool) : State := { booted with mer := { booted.mer with rate := some ⟨n, false, 0, tick, late, false⟩ } }
def inLullAsked : State := (asked 2000 (some booted.boundary) true).setF PWS_STAT PWS_STAT_STATE 3
def announced : State := { booted with mer := { booted.mer with annRate := some ⟨2000, false, 0, some booted.boundary, false, true⟩ } }
def askedAt : State := { booted with mer := { booted.mer with count := 10, rate := some ⟨4001, true, 12, none, false, false⟩ } }
def adopt9 (auto : Nat) : State := { (booted.setF TRP_CTL TRP_CTL_AUTO_LINK auto) with trp := { booted.trp with adopt := some 9 } }

theorem witness_TickReferences :
    (booted.tileDown 7 = false) ∧
    ((4095 : Nat) < 4096 ∧ 2304 < 4095) ∧
    ((synced booted).mer.srcNow = 1 ∧ inLockRange (63000 + 1000) (spans (63000 + 1000) ((synced booted).syncDiv * (synced booted).period * 16)) ((synced booted).syncDiv * (synced booted).period * 16) = true ∧ inLockRange (63000 + 1) (spans (63000 + 1) ((synced booted).syncDiv * (synced booted).period * 16)) ((synced booted).syncDiv * (synced booted).period * 16) = false) ∧
    (good16.lockState = 0 ∧ 16 ≤ good16.mer.good) ∧
    (lost4.lockState < 2 ∧ 4 * lost4.refTicks < lost4.mer.since ∧ lost4.mer.srcNow = 2) ∧
    ((asked 1999 none false).rateRefusal 1999 = some (3, 0) ∧ (asked 1999 none false).mer.rate = some ⟨1999, false, 0, none, false, false⟩ ∧ (asked 1999 none false).mer.annRate = none) ∧
    ((asked 16000 none false).rateRefusal 16000 = none ∧ (asked 16000 none false).leadsAligned = false) ∧
    (askedAt.rateRefusal 4001 = none ∧ inPast 12 askedAt.mer.count = false ∧ askedAt.leadsAligned = false) ∧
    ((asked 2000 (some booted.boundary) true).mer.rate = some ⟨2000, false, 0, some (asked 2000 (some booted.boundary) true).boundary, true, false⟩ ∧ (asked 2000 (some booted.boundary) true).mer.annRate = none ∧ (asked 2000 (some booted.boundary) true).inLull = false) ∧
    (inLullAsked.inLull = true ∧ inLullAsked.mer.rate = some ⟨2000, false, 0, some inLullAsked.boundary, true, false⟩ ∧ inLullAsked.mer.annRate = none) ∧
    (announced.mer.rate = none ∧ announced.mer.annRate = some ⟨2000, false, 0, some announced.boundary, false, true⟩ ∧ announced.inLull = false) ∧
    ((adopt9 1).trp.adopt = some 9 ∧ (adopt9 1).flag TRP_CTL TRP_CTL_AUTO_LINK = true ∧ (adopt9 0).flag TRP_CTL TRP_CTL_AUTO_LINK = false) := by decide +kernel

def busy (l : Nat) : State := State.reset.setF (LAN_STAT l) LAN_STAT_CHECK_BUSY 1
/-- The inactive bank of a lane holds one bundle, TICKEND in slot 0. -/
def loaded (l : Nat) : State :=
  { ((busy l).setF MER_PERIOD MER_PERIOD_N 4000).setF MER_BUDGET MER_BUDGET_B 2406 with extent := [(l * 2 + 1, some 0)], code := [(codeIdx l 1 0, 0x1C00000C)] }
def switching0 (k : Nat) : State :=
  { (((State.reset.setF (LAN_CTL 127) LAN_CTL_SWITCH_SEL 1).setF (LAN_STAT 127) LAN_STAT_INACT_OK k).setF MER_BUDGET MER_BUDGET_B 2406) with
    switch := some ⟨0, false, false, 0, none, false, []⟩ }
def switching1 : State :=
  { ((State.reset.setF (LAN_STAT 127) LAN_STAT_INACT_OK 1).setF (LAN_COST_INACT 127) LAN_COST_INACT_CYCLES 99) with
    switch := some ⟨0, false, false, 0, some State.reset.boundary, false, [127, 3]⟩ }
def double2 : State := State.reset.setCore 130 { running := true, s := [(0, 5), (6, 0x100)] }

theorem witness_ChecksAndSwitch :
    ((busy 127).flag (LAN_STAT 127) LAN_STAT_CHECK_BUSY = true ∧ ((busy 127).checkBank 127 1 0).1 ≠ 0) ∧
    ((loaded 3).flag (LAN_STAT 3) LAN_STAT_CHECK_BUSY = true) ∧
    ((switching0 1).switchCause ⟨0, false, false, 0, none, false, []⟩ (switching0 1).selected = (0, 0) ∧ (switching0 1).switch = some ⟨0, false, false, 0, none, false, []⟩) ∧
    ((switching0 0).switchCause ⟨0, false, false, 0, none, false, []⟩ (switching0 0).selected = (1, 127)) ∧
    (switching1.switch = some ⟨0, false, false, 0, some switching1.boundary, false, [127, 3]⟩ ∧ [127, 3].Nodup) ∧
    ((127 : Nat) < 128) ∧
    ((double2.core 130).running = true ∧ (double2.core 130).dead = false ∧ (double2.core 130).undoMem = none) := by decide +kernel

/-- A busy state: registers, memories and OTP written, cores running. -/
def used : State :=
  { ((((State.reset.wr (STG_SNS 3) 9).wr FUS_STG_ADDR 5).wr (PWS_KEEP 2) 77).setF WDG_STAT WDG_STAT_CAUSE 1) with
    cores := [(3, { running := true, pc := 9 })], dmem := [(4, 5)], cram := [(7, 8)], otp := { sealed := 1, env := [(0, 3)] }, flash := [(9, 1)],
    boot := { State.reset.boot with running := true }, rcd := { State.reset.rcd with buf := [⟨1, 2, false, 3, 4, 5, 6, 7, 8, 9, 10, 11⟩] }, pending := [.nop (at0 5)] }
def asks (k : Nat) : State := { used with boot := { used.boot with reset := k, running := k == 2 } }
def pulsing (act : Nat) : State := { ((used.setF WDG_CTL WDG_CTL_ACT act).setF WDG_STAT WDG_STAT_EXPIRED 1) with wdg := { used.wdg with pulse := some 5 } }

theorem witness_PackageResets :
    (used.pws.keeper = false ∧ used.powerDown.pws.keeper = true) ∧
    ((asks 2).boot.reset = 2 ∧ (asks 2).rcd.flushing = false) ∧
    ((asks 1).boot.reset = 1 ∧ (asks 1).boot.running = false) ∧
    ((pulsing 2).wdg.pulse = some 5 ∧ (pulsing 2).flag WDG_STAT WDG_STAT_EXPIRED = true ∧ (pulsing 2).getF WDG_CTL WDG_CTL_ACT = 2) ∧
    ((pulsing 1).wdg.pulse = some 5 ∧ (pulsing 1).getF WDG_CTL WDG_CTL_ACT ≠ 2) := by decide +kernel

def staggered : State := { ((State.reset.setF FUS_STG_STAT FUS_STG_STAT_RUNNING 1).setF (ENV_PERS 127) ENV_PERS_ALLOW 127) with boot := { State.reset.boot with auto := [3, 127] } }

theorem witness_BootOutcomes :
    (State.reset.boot.running = false ∧ State.reset.boot.halted = false ∧ State.reset.pws.keeper = false ∧ State.reset.flag BOOT_STAT BOOT_STAT_RECOVERY = false) ∧
    (staggered.flag FUS_STG_STAT FUS_STG_STAT_RUNNING = true ∧ (∀ q ∈ staggered.boot.auto, q < 128) ∧ (127 : Nat) ∈ staggered.boot.auto ∧ staggered.pstate 127 ≠ 2 ∧ staggered.flag (STG_CTL 127) STG_CTL_EN = false ∧ staggered.mayStart 127 = true ∧ (3 : Nat) ∈ staggered.boot.auto ∧ staggered.pstate 3 ≠ 2 ∧ staggered.flag (STG_CTL 3) STG_CTL_EN = false ∧ staggered.mayStart 3 = false) ∧
    ((let s := staggered.setF (STG_CTL 127) STG_CTL_EN 1; s.flag FUS_STG_STAT FUS_STG_STAT_RUNNING = true ∧ s.flag (STG_CTL 127) STG_CTL_EN = true)) := by decide +kernel

def toReset (k : Nat) : State :=
  { (booted.modTile 7 fun t => { t with rstPend := k == 0, inReset := k == 1 }) with dmem := [(127 * 65536 + 65535, 7), (4, 5), (135 * 65536 + 3, 9)], flash := (List.range 512).map fun k => (k, 0) }

theorem witness_TileResets :
    ((toReset 0).boot.running = true ∧ ((toReset 0).tile 7).rstPend = true ∧ ((toReset 0).tile 7).held = [] ∧ ((toReset 0).tile 7).lost = false ∧ (toReset 0).pstate 127 ≠ 2) ∧
    ((let s := (toReset 0).modTile 7 fun t => { t with held := [jtag.access State.reset true [((STG_PHS 127).addr, 5)]] }; (s.tile 7).rstPend = true ∧ (s.tile 7).held = [jtag.access State.reset true [((STG_PHS 127).addr, 5)]] ∧ (jtag.access State.reset true [((STG_PHS 127).addr, 5)]).who = .plain ∧ (jtag.access State.reset true [((STG_PHS 127).addr, 5)]).owners = [7])) ∧
    (((toReset 1).tile 7).inReset = true) ∧
    (booted.tileRuns 7 = true) := by decide +kernel

/-- Every state down to Keeper is allowed, and the dwell time has passed for all. -/
def idle : State :=
  { (((booted.setF PWS_CTL PWS_CTL_KEEP_EN 1).wr PWS_LTOL 0xFFFFFF).setF PWS_DWELL PWS_DWELL_MS 0) with
    pws := { State.reset.pws with held := (List.range 10).map fun k => (k, some 0) }, mer := { booted.mer with tickN := 4000, runN := 4000 } }
def dozing (w : Option Int) : State := idle.modTile 7 fun t => { t with dozed := true, waking := w }
def eventful : State := (dozing none).setCore 135 { s := [(2, 0x8000), (3, 0x8000)] }
def lulled (w : Option Int) (e : Nat) : State := { (idle.setF PWS_STAT PWS_STAT_STATE 3) with pws := { idle.pws with waking := w, entry := e } }
def entered (e : Nat) : State := { idle with pws := { idle.pws with entry := e } }
def keeping : State := { idle with pws := { idle.pws with keeper := true }, boot := {} }

theorem witness_PowerStates :
    (idle.boot.running = true ∧ idle.pwState ≠ 3 ∧ idle.mayDoze 7 = true ∧ idle.dwelt 7 = true ∧ idle.tileWakes 7 = false ∧ (idle.tile 7).dozed = false) ∧
    ((eventful.tile 7).dozed = true ∧ (eventful.tile 7).waking = none ∧ eventful.pwState ≠ 3 ∧ eventful.tileWakes 7 = true) ∧
    ((dozing (some 260000)).mer.phase = .guard ∧ ((dozing (some 260000)).tile 7).waking = some 260000 ∧ 264000 ≤ (dozing (some 260000)).atBoundary 260000) ∧
    (idle.pws.entry = 0 ∧ idle.mayLull = true ∧ idle.dwelt 8 = true ∧ (∀ m ∈ List.range 8, idle.tileWakes m = false)) ∧
    ((entered 1).boot.running = true ∧ (entered 1).pws.entry = 1 ∧ (entered 1).mer.phase = .guard ∧ (entered 1).entryQuiet = true) ∧
    ((lulled none 0).pwState = 3 ∧ (lulled none 0).pws.waking = none ∧ (lulled none 0).pws.entry = 0 ∧ (lulled none 0).pws.wakePin = false) ∧
    ((entered 1).pwState ≠ 3 ∧ (entered 1).pws.entry = 1 ∧ (entered 1).pws.wakePin = false) ∧
    ((lulled (some 1116000) 0).pws.waking = some 1116000 ∧ (lulled (some 1116000) 0).mer.phase = .guard ∧ 1120000 ≤ (lulled (some 1116000) 0).atBoundary 1116000 ∧ (lulled (some 1116000) 0).mer.runN < 2 ^ 17) ∧
    ((lulled none 0).boot.running = true ∧ (lulled none 0).mayKeep = true ∧ (lulled none 0).dwelt 9 = true) ∧
    ((lulled none 2).pws.entry = 2 ∧ (lulled none 2).entryQuiet = true) ∧
    (keeping.pws.keeper = true) := by decide +kernel

/-- A member and a ringmaster with all links at full rate; link 0 of the member is upstream, link 1 is its through link. -/
def linked (s : State) : State := (List.range 6).foldl (fun (s : State) l => s.setF (TRP_LNK_STAT l) TRP_LNK_STAT_STATE 2) s
def member (ss : Nat) : State :=
  ((((linked booted).setF TRP_STAT TRP_STAT_ROLE 1).setF TRP_STAT TRP_STAT_SSTATE ss).setF TRP_ADDR TRP_ADDR_VALID 1).setF TRP_ADDR TRP_ADDR_ADDR 5
def ring : State := (linked booted).setF TRP_STAT TRP_STAT_ROLE 2
/-- A cell, a marker with the CRC of its bytes. -/
def good (c : Cell) : Cell := c.sealed false
def goodM (m : Marker) : Marker := { m with crc := byteCrc m.wire }
def cell0 : Cell := good ⟨0, false, true, true, 5, 9, 0xFF, 0, 0x1F, 77, 66, List.replicate 16 0, 0⟩
def cmdFar : Cell := good { cell0 with ty := 3, dst := 7, bcast := false, seq := 77, payload := [0x010000, 0] }
/-- A member that has lost link 3, behind which the device 7 lies. -/
def cutOff : State := ((member 4).learnRoute 7 3).setF (TRP_LNK_STAT 3) TRP_LNK_STAT_STATE 4
def bad0 : Cell := { cell0 with ty := 6, dst := 9, crc := 1 }
def inv0 : Cell := cell0.sealed true
def marker0 : Marker := goodM ⟨false, true, false, false, 0, 7, 255, 99, 4000, 0, 0, -5, false, 0, 0, 0, 0, 0⟩
def waits (c : Cell) (fwd : Bool) : State := (member 4).modLink 2 fun x => { x with shared := [⟨c, fwd, 2 ^ 48 - 1, 0, false⟩] }
def folding : State := { (member 4) with trp := { (member 4).trp with sent := [(4095, 2 ^ 48 - 17, [⟨1, false, 5, 9, 3⟩])] } }
def owing : State := { (member 4) with trp := { (member 4).trp with streams := [{ src := 9, e := 5, marks := 1, full := 5, owed := true }] } }

theorem witness_LinkSlotsAndMarkers :
    ((member 4).linkUp 5 = true ∧ (member 4).carries 5 = true ∧ 0 < (member 4).slots 5) ∧
    ((18 : Nat) < (member 4).slots 5 ∧ (member 4).slotPick 5 18 = none ∧ ¬ 19 < (member 4).slots 5) ∧
    ((waits { cell0 with ty := 0xA } true).slotPick 2 4 = some ⟨{ cell0 with ty := 0xA }, true, 2 ^ 48 - 1, 0, false⟩) ∧
    ((member 4).linkEn 0 = true ∧ (member 4).linkDown 0 = false ∧ (member 4).isRing = false ∧ marker0.crcOk = true ∧ marker0.sysEpoch ≠ (member 4).getF TRP_SYS TRP_SYS_SYS_EPOCH) ∧
    ((member 4).linkEn 3 = true ∧ (member 4).linkDown 3 = true) ∧
    (({ marker0 with crc := 1 } : Marker).crcOk = false) ∧
    (cell0.crcOk = true) ∧
    ((member 4).carries 3 = true ∧ inv0.crcInv = true) ∧
    ((member 4).carries 3 = true ∧ bad0.crcOk = false ∧ bad0.crcInv = false ∧ classOf bad0.ty = 2 ∧ (member 4).cellRoute 3 bad0 = [0] ∧ ((member 4).link 0).ctl.length < 32) ∧
    (cmdFar.crcOk = true ∧ (member 4).carries 0 = true ∧ (member 4).addressed = true ∧ cmdFar.bcast = false ∧ cmdFar.dst ≠ (member 4).myAddr ∧ cmdFar.ty = 3 ∧ Tab.get none (member 4).trp.route cmdFar.dst = none ∧ (member 4).upLink = some 0 ∧ (member 4).routeTo 9 = some 0 ∧ Tab.get none cutOff.trp.route 7 = some 3 ∧ cutOff.linkUp 3 = false ∧ cutOff.upLink = some 0) ∧
    (folding.trp.sent.find? (fun y => y.1 == 4095) = some (4095, 2 ^ 48 - 17, [⟨1, false, 5, 9, 3⟩]) ∧ 16 ≤ (folding.mer.count + 2 ^ 48 - (2 ^ 48 - 17)) % 2 ^ 48) ∧
    (owing.stream 9 = some { src := 9, e := 5, marks := 1, full := 5, owed := true } ∧ owing.routeTo 9 = some 0 ∧ (owing.link 0).ctl.length < 32) ∧
    (ring.admitsPut jtag TRP_CTL 0x53F1F = true ∧ TRP_CTL_RESURVEY.get 0x53F1F = 0 ∧ TRP_CTL_THRU.get 0x53F1F < 6 ∧ ring.isRing = true) := by decide +kernel

def sv (addr epoch uid : Nat) (path : List Nat) : Cell :=
  good { cell0 with ty := 7, payload := [0, BitVec.ofNat 24 addr, BitVec.ofNat 24 epoch, lo24 uid, hi24 uid] ++ path.map (BitVec.ofNat 24) }
def headed (s : State) (h : HeadSt) : State := s.modLink 2 fun x => { x with head := some h }
def mapped : State := { ring with trp := { ring.trp with map := [⟨[0x201], 3, 1, 0, 1, true, false⟩, ⟨[], 7, 0, 255, 2, true, true⟩], mapEpoch := 255 } }
def away : State := { (member 4) with trp := { (member 4).trp with route := [(9, some 3)] } }
def measuring (n : Nat) : State := { (member 3) with trp := { (member 3).trp with upN := n } }

theorem witness_SurveyRules :
    (mapped.isRing = true ∧ mapped.getF TRP_CTL TRP_CTL_THRU < 6 ∧ mapped.admitsField jtag TRP_CTL TRP_CTL_RESURVEY 1 = true) ∧
    ((member 1).carries 0 = true ∧ (member 1).upLink = some 0 ∧ ((member 1).link 0).ctl.length < 32 ∧ (member 1).sstate = 1) ∧
    (((member 4).setF (TRP_LNK_STAT 1) TRP_LNK_STAT_STATE 4).linkUp ((member 4).setF (TRP_LNK_STAT 1) TRP_LNK_STAT_STATE 4).thru = false ∧ 2 ≤ (member 4).sstate ∧ (member 4).sstate ≠ 6) ∧
    ((sv 16383 255 3 [0x201]).crcOk = true) ∧
    ((headed (member 4) { pos := 32 }).headLinks.contains 2 = true ∧ ((headed (member 4) { pos := 32 }).link 2).head = some { pos := 32 } ∧ (headed (member 4) { pos := 32 }).getF TRP_SYS TRP_SYS_HOPS + 32 ≤ 64) ∧
    ((headed mapped { pos := 1 }).headLinks.contains 2 = true ∧ ((headed mapped { pos := 1 }).assign ((headed mapped { pos := 1 }).headPath 2) 77).2 = some (1, 1)) ∧
    (((headed (member 4) { pos := 33 }).link 2).head = some { pos := 33 } ∧ 32 < ({ pos := 33 } : HeadSt).pos) ∧
    (((headed (member 4) { pos := 3 }).link 2).head = some { pos := 3 }) ∧
    (((headed (member 4) { pos := 32, addr := 9, phase := 3 }).link 2).head = some { pos := 32, addr := 9, phase := 3 } ∧ (sv 9 0 0 []).svAddr = 9) ∧
    (mapped.isRing = true) ∧
    ((mapped.assign [0x301] 8).2 = some (2, 0)) ∧
    (((headed (member 4) { pos := 3, phase := 1, uid := 8 }).addressed && (5 : Nat) == (headed (member 4) { pos := 3, phase := 1, uid := 8 }).myAddr) = true ∧ ((headed (member 4) { pos := 3, phase := 1, uid := 8 }).headLinks.find? fun k => (((((headed (member 4) { pos := 3, phase := 1, uid := 8 }).link k).head).map fun h => h.phase == 1 && h.uid == (8 : Nat)).getD false)) = some 2) ∧
    ((away.addressed && (9 : Nat) == away.myAddr) = false ∧ Tab.get none away.trp.route 9 = some 3) ∧
    (((headed (member 4) { pos := 3 }).link 2).head = some { pos := 3 } ∧ ((headed (member 4) { pos := 3, again := true }).link 2).head = some { pos := 3, again := true }) ∧
    (((headed (member 4) { pos := 3, phase := 5 }).link 2).head = some { pos := 3, phase := 5 } ∧ ((headed (member 4) { pos := 3, phase := 5 }).link 2).ctl.length < 32) ∧
    ((measuring 4000).sstate = 3 ∧ (measuring 4000).adoptRefused = false ∧ (measuring 1999).adoptRefused = true) ∧
    ((member 6).linkEn 0 = true ∧ (member 6).upLink = some 0 ∧ (member 6).sstate = 6) ∧
    ((member 5).linkUp 0 = true ∧ (member 5).sstate = 5) := by decide +kernel

def shared (s : State) : State := ((s.setF TRP_SHR_IN TRP_SHR_IN_EN 1).setF TRP_SHR_IN TRP_SHR_IN_TILE 7).setF TRP_SHR_IN TRP_SHR_IN_BASE 65535
def query0 : Cell := good { cell0 with payload := [2, BitVec.ofNat 24 PKG_ID.addr, BitVec.ofNat 24 (STG_STAT 127).addr] }
def read0 : Cell := good { cell0 with payload := [0x010000, BitVec.ofNat 24 (STG_PHS 3).addr] }
def write0 : Cell := good { cell0 with payload := [0x110000, BitVec.ofNat 24 (STG_PHS 3).addr, 5] }
def open6 (s : State) : State := s.wr (RGT_PORT 6) 0x1F
def stale0 : Cell := good { cell0 with epoch := 1 }
def seen0 : State := { (member 4) with trp := { (member 4).trp with streams := [{ src := 9, e := 77, marks := 1, full := 77 }] } }

theorem witness_DeliveredCells :
    ((member 4).delivers 0 cell0 = true) ∧
    (((member 4).streamIn cell0).2 = 0 ∧ (member 4).isRing = false ∧ (member 4).mgt.relay = []) ∧
    ((seen0.streamIn (good { cell0 with opn := false })).2 ≠ 0 ∧ seen0.delivers 0 (good { cell0 with opn := false }) = true) ∧
    (cell0.epoch = (member 4).myEpoch ∧ (shared (member 4)).flag TRP_SHR_IN TRP_SHR_IN_EN = true) ∧
    (stale0.epoch ≠ (member 4).myEpoch) ∧
    (query0.epoch = (member 4).myEpoch ∧ (member 4).routeTo 9 = some 0 ∧ ((member 4).link 0).ctl.length < 32 ∧ (∀ x ∈ queryAddrs query0.payload, mayRead (query0.rights &&& (member 4).rightsOf 6) x = true)) ∧
    ((member 4).admits { who := .cell read0, port := 6, rights := read0.rights &&& (member 4).rightsOf 6, write := false, words := [((STG_PHS 3).addr, 0)] } = true ∧ (STG_PHS 3).readsPlain = true) ∧
    ((open6 (member 4)).admits { who := .cell write0, port := 6, rights := write0.rights &&& (open6 (member 4)).rightsOf 6, write := true, words := [((STG_PHS 3).addr, 5)] } = true ∧ (STG_PHS 3).writesPlain = true ∧ (member 4).legalWord (STG_PHS 3) 5 = true) ∧
    (holds (cell0.rights &&& (open6 (member 4)).rightsOf 6) clsMaintain = true ∧ (([0, 0x020000] : List Word).getD 1 0).toNat / 2 ^ 16 / 2 % 2 = 1) := by decide +kernel

def pinned (b : Bool) : State := { (ring.setF CAP_CTL CAP_CTL_PIN_EN 1) with cap := { ring.cap with pin := b, nextWid := 4095 } }
def shed (op k at_ : Nat) : Cell := good { cell0 with ty := 2, bcast := true, payload := [BitVec.ofNat 24 (op * 2 ^ 22 + 15 * 2 ^ 18 + k), 0xFFFF, lo24 at_, hi24 at_] }
def heard (k at_ : Nat) : State := { open6 (member 4) with cap := { (member 4).cap with seen := [(k, at_)] } }
def due (op : Nat) (al : Nat) : State := { ((member 4).setF TRP_STAT TRP_STAT_ALIGNED al) with cap := { (member 4).cap with sched := [(⟨5, op, 15, 0xFFFF, 2 ^ 48 - 1⟩, true)] } }

theorem witness_CappingRules :
    ((pinned false).cap.pin = false ∧ (pinned true).cap.pin = true) ∧
    ((pinned true).admitsPut jtag CAP_LOCAL 0xFFFFFF = true) ∧
    ((pinned true).isRing = true ∧ (pinned true).admitsPut jtag CAP_WV_CMD (CAP_WV_CMD_SEND.put (CAP_WV_CMD_OP.put (CAP_WV_CMD_ENT.put (CAP_WV_CMD_MASK.put 0 65535) 15) 2) 1) = true) ∧
    ((member 4).upLink = some 0 ∧ (shed 2 4095 9).crcOk = true ∧ (shed 2 4095 9).bcast = true ∧ (shed 2 4095 9).ty < 0xE ∧ ((shed 2 4095 9).payload.headD 0).toNat / 2 ^ 22 = 2 ∧ ((shed 2 4095 9).rights &&& ((member 4).wr (RGT_PORT 6) 1).rightsOf 6).testBit 1 = false) ∧
    (((shed 2 4095 9).rights &&& (heard 4095 9).rightsOf 6).testBit 1 = true ∧ (heard 4095 9).cap.seen.contains (4095, 9) = true ∧ (heard 4095 9).cap.seen.contains (4095, 8) = false) ∧
    ((due 0 1).cap.sched = [(⟨5, 0, 15, 0xFFFF, 2 ^ 48 - 1⟩, true)] ∧ (due 0 0).flag TRP_STAT TRP_STAT_ALIGNED = false ∧ (due 0 1).flag TRP_STAT TRP_STAT_ALIGNED = true) := by decide +kernel

/-- String 31 serves battery port 127, with a current and a voltage. -/
def string31 (pres i v : Nat) : State :=
  ((((((booted.setF (BAT_CTL 31) BAT_CTL_EN 1).setF (BAT_CTL 31) BAT_CTL_PORT 127).setF (STG_CTL 127) STG_CTL_PERS 3).setF (BAT_STAT 31) BAT_STAT_PRES pres).wr
    (BAT_QFULL 31) 360000).wr (BAT_VPRES 31) 1000).modPort 127 fun x => { x with persNow := 3, smpI := BitVec.ofNat 24 i, smpV := BitVec.ofNat 24 v }
def timed (f : StringSt → StringSt) (s : State) : State := s.modStr 31 f
def saving (again : Bool) : State := (string31 1 0 2000).modStr 31 fun x => { x with writing := some ⟨1, 2, 3, 4, 5⟩, again := again }
def ends (i : Nat) (v : Nat) : State := timed (fun x => { x with eoc := some (10 ^ 15), eod := some (10 ^ 15) }) (((string31 1 i v).wr (BAT_VEOC 31) 2000).wr (BAT_VEOD 31) 2000)
def fits : State := timed (fun x => { x with above := 800000000 }) (string31 0 0 2000)
def rests (v : Nat) : State := timed (fun x => { x with rest := 10 ^ 16 }) (string31 1 0 v)
def lacks : State := timed (fun x => { x with below := 64 }) (string31 1 0 999)

theorem witness_StringEvents :
    (fits.estimates 31 = true ∧ fits.strPres 31 = false ∧ perSecond ≤ (fits.str 31).above) ∧
    (lacks.estimates 31 = true ∧ lacks.strPres 31 = true ∧ 64 ≤ (lacks.str 31).below) ∧
    ((rests 2000).flag (BAT_STAT 31) BAT_STAT_REST = false ∧ ((rests 2000).rd (BAT_TREST 31)).toNat * perSecond ≤ ((rests 2000).str 31).rest ∧ (rests 2000).rd (BAT_QFULL 31) ≠ 0) ∧
    ((string31 1 0 2000).estimates 31 = true) ∧
    (0 < (ends 1 2000).strI 31 ∧ (ends 1 2000).strI 31 < (ends 1 2000).taper 31 ((ends 1 2000).getF (BAT_EOC 31) BAT_EOC_DIV) ∧ ((ends 1 2000).rd (BAT_VEOC 31)).toInt ≤ (ends 1 2000).strV 31 ∧ (ends 1 2000).inHold = false ∧ heldFor ((ends 1 2000).getF (BAT_EOC 31) BAT_EOC_TIME) ((ends 1 2000).str 31).eoc = true) ∧
    ((ends 0xFFFFFF 2000).strI 31 < 0 ∧ -((ends 0xFFFFFF 2000).taper 31 ((ends 0xFFFFFF 2000).getF (BAT_EOD 31) BAT_EOD_DIV)) < (ends 0xFFFFFF 2000).strI 31 ∧ (ends 0xFFFFFF 2000).strV 31 ≤ ((ends 0xFFFFFF 2000).rd (BAT_VEOD 31)).toInt ∧ heldFor ((ends 0xFFFFFF 2000).getF (BAT_EOD 31) BAT_EOD_TIME) ((ends 0xFFFFFF 2000).str 31).eod = true) ∧
    (((string31 1 0 2000).str 31).writing = none) ∧
    (((saving false).str 31).writing = some ⟨1, 2, 3, 4, 5⟩ ∧ ((saving false).str 31).again = false) := by decide +kernel

def holdable : State := { ((booted.setF HLD_CTL HLD_CTL_EN 1)) with hld := { booted.hld with asserted := true } }
def held : State := { ((booted.setF HLD_STAT HLD_STAT_HOLD 1).wr HLD_TREL 3) with hld := { booted.hld with rel := some 2400000 } }
def sealing (o : OtpSt) : State := { ((State.reset.setF ENV_OTP_CMD ENV_OTP_CMD_SEAL 1).setF RGT_CMD RGT_CMD_SEAL 1) with otp := o }
def keyed (a : Nat) : State := { ((State.reset.setF UPD_KEY_ADDR UPD_KEY_ADDR_ADDR a).setF BOOT_KEY BOOT_KEY_SLOT 0) with otp := { prog := 0b0111 } }

theorem witness_HoldupAndSeals :
    (State.reset.hld.pinLow = false ∧ State.reset.boot.running = false ∧ State.reset.flag BOOT_STAT BOOT_STAT_RECOVERY = false) ∧
    (booted.hld.pinLow = false ∧ booted.boot.running = true ∧ (booted.setF UPD_STAT UPD_STAT_STATE 5).getF UPD_STAT UPD_STAT_STATE = 5) ∧
    (holdable.flag HLD_CTL HLD_CTL_EN = true ∧ holdable.inHold = false ∧ (holdable.hld.asserted = true ∨ holdable.hld.busLow = true)  ∧ (booted.flag HLD_CTL HLD_CTL_EN = false)) ∧
    (held.inHold = true ∧ held.hld.pinLow = false ∧ held.released = true) ∧
    ((sealing {}).flag ENV_OTP_CMD ENV_OTP_CMD_SEAL = true ∧ (sealing {}).flag RGT_CMD RGT_CMD_SEAL = true) ∧
    ((keyed 63).admitsPut jtag UPD_KEY_DATA 0xFFFFFF = true ∧ (keyed 63).getF UPD_KEY_ADDR UPD_KEY_ADDR_ADDR / 16 = 3 ∧ (keyed 63).otp.prog.testBit 3 = false) ∧
    ((keyed 0).admitsPut jtag UPD_REVOKE (UPD_REVOKE_GO.put (UPD_REVOKE_CONFIRM.put (UPD_REVOKE_SLOT.put 0 2) 0x96) 1) = true ∧ (2 : Nat) ≠ (keyed 0).getF BOOT_KEY BOOT_KEY_SLOT ∧ (2 : Nat) ≠ (keyed 0).imgKey 0 ∧ (keyed 0).otp.prog.testBit 1 = true ∧ (keyed 0).otp.revoked.testBit 1 = false) := by decide +kernel

/-- The member with both management paths on, linked and UP, its own address 0x0A000001 and MISS 4. -/
def paths : State :=
  (((((((((((member 4).setF MGT_CTL MGT_CTL_EN_A 1).setF MGT_CTL MGT_CTL_EN_B 1).setF (MGT_PATH_STAT 0) MGT_PATH_STAT_LINK 1).setF (MGT_PATH_STAT 0) MGT_PATH_STAT_SYNC 1).setF
    (MGT_PATH_STAT 1) MGT_PATH_STAT_LINK 1).setF (MGT_PATH_STAT 1) MGT_PATH_STAT_SYNC 1).setPath 0 2).setPath 1 2).wr (.pkg 0x1C22) 0x000001).wr (.pkg 0x1C23) 0x00000A).setF MGT_CMP MGT_CMP_MISS 4
def frame (p : Nat) (r : Option Nat) : Frame := ⟨p, 0x445566, r, false, false⟩
def arp0 : MFrame := .arp 0x0A000001
def hushed : State := paths.setF PWS_STAT PWS_STAT_STATE 3
def dupes (n : Nat) (c : MFrame) : State := { paths with mgt := { paths.mgt with dup := (List.range n).map fun k => ⟨0x445566, k, 0, false, some c⟩ } }
def once (n : Nat) : State := { (dupes 3 arp0) with mgt := { (dupes 3 arp0).mgt with heard := [(0x445566, 0)], heardLast := [(0x445566, 1)], miss := [(1, n)] } }
def proving (n : Nat) : State := { (paths.setPath 1 1) with mgt := { paths.mgt with pass := [(1, 65535)], miss := [(1, n)] } }

theorem witness_FramesAndCopies :
    (paths.takes (frame 1 (some 9)) = true ∧ paths.ip4 0x1C22 = 0x0A000001) ∧
    (paths.takes (frame 1 none) = true) ∧
    (((member 4).pathEn 0 && (member 4).pathLink 0) = false ∧ (hushed.pathEn 1 && hushed.pathLink 1) = false) ∧
    (paths.pathEn 1 = true ∧ paths.pathLink 1 = true ∧ ({ frame 1 (some 3) with bad := true }).bad = true) ∧
    (({ frame 1 (some 3) with frag := true }).frag = true ∧ ({ frame 1 (some 3) with frag := true }).bad = false) ∧
    ((dupes 3 arp0).mgt.dup.find? (fun e => e.mac == (frame 1 (some 2)).mac && e.seq == 2) = some ⟨0x445566, 2, 0, false, some arp0⟩) ∧
    ((dupes 1024 arp0).mgt.dup.head?.isSome = true ∧ 1023 ≤ (dupes 1024 arp0).mgt.dup.tail.length ∧ (dupes 1024 arp0).mgt.dup.find? (fun e => e.mac == 0x445566 && e.seq == 9999) = none) ∧
    ((once 2).mgt.dup.find? (fun e => e.mac == 0x445566 && e.seq == 1) = some ⟨0x445566, 1, 0, false, some arp0⟩ ∧ (once 2).doubly 0x445566 = true ∧ (dupes 3 arp0).doubly 0x445566 = false ∧ (2 : Nat) + 1 < (once 2).getF MGT_CMP MGT_CMP_MISS) ∧
    ((proving 3).pathSt 1 = 1 ∧ (proving 3).getF MGT_PROBE MGT_PROBE_PASS ≤ Tab.get 0 (proving 3).mgt.pass 1 ∧ min 255 (Tab.get 0 (proving 3).mgt.miss 1) < (proving 3).getF MGT_CMP MGT_CMP_MISS) ∧
    ((frame 0 none).bad = false ∧ (paths.pathEn 0 || paths.pathEn 1) = true ∧ (hushed.pathEn 0 || hushed.pathEn 1) = false) := by decide +kernel

def probing (st fail : Nat) : State :=
  { (paths.setPath 1 st) with mgt := { paths.mgt with probes := [(0, 5), (1, 2 ^ 32 - 1)], nextProbe := 2 ^ 32 - 1, pass := [(1, 65534)], fail := [(1, fail)] } }
/-- A datagram with the CRC of its bytes. -/
def goodD (d : Dgram) : Dgram := { d with crc := byteCrc d.wire }
def dgram0 : Dgram := goodD ⟨0x0A000077, 40000, 1, 1, 3, 4095, false, 0, 5, 0, 0, [], 0, 0, [], 2 ^ 32 - 1, 0⟩
def saves (st : Nat) : State :=
  { (paths.setF MGT_STAT MGT_STAT_BULK st) with mgt := { paths.mgt with bulk := some ⟨3, 0x0A000077, 40000, false, 9, 11⟩, hold := [(0, 65535)], saves := { a := some (sealCopy SesSave.words ⟨7, none, none, 0, 1⟩) } } }
def dataset (p i : Nat) : PtpSet := ⟨p, 1, 1, 1, 1, i, 1⟩
def clocked (m : Option PtpSet) : State :=
  { ((paths.setF MGT_CTL MGT_CTL_PTP_EN 1).setF MGT_PTP MGT_PTP_PATH 2) with mgt := { paths.mgt with master := m } }

theorem witness_PathsAndShipTime :
    ((probing 2 0).pathEn 1 = true) ∧
    (paths.takesDg (frame 1 (some 9)) dgram0 = true) ∧
    (paths.mgt.probes.contains (1, dgram0.num) = false) ∧
    ((probing 1 0).mgt.probes.contains (1, dgram0.num) = true ∧ (probing 1 0).takesDg (frame 1 none) dgram0 = true) ∧
    ((probing 2 0).mgt.probes.contains (1, 2 ^ 32 - 1) = true ∧ (paths.mgt.probes.contains (0, 0) = false) ∧ (0 : Nat) + 1 < (probing 2 0).getF MGT_PROBE MGT_PROBE_FAIL) ∧
    (((paths.setPath 0 0).setPath 1 0).pathSt 0 = 0 ∧ ((paths.setPath 0 0).setPath 1 0).pathSt 1 = 0) ∧
    ((saves 1).pathSt ((saves 1).getF MGT_CTL MGT_CTL_PREF) = 2 ∧ (saves 1).getF MGT_CTL MGT_CTL_REVERT < (saves 1).pathHold 0 ∧ (saves 1).getF MGT_STAT MGT_STAT_BULK = 1 - (saves 1).getF MGT_CTL MGT_CTL_PREF ∧ (saves 1).mgt.bulk.isSome = true) ∧
    ((clocked (some (dataset 5 9))).listens 1 0 false = true ∧ (clocked none).listens 1 1 false = false ∧ (clocked (some (dataset 5 9))).fromMaster 9 = true ∧ (clocked (some (dataset 5 9))).fromMaster 8 = false) ∧
    (((clocked none).setF MGT_PTP_STAT MGT_PTP_STAT_LOCK 1).flag MGT_CTL MGT_CTL_PTP_EN = true) := by decide +kernel

def fr : Frame := frame 1 (some 9)
def open45 (s : State) : State := (((s.wr (RGT_PORT 4) 0x1F).wr (RGT_PORT 5) 0x1F).wr (RGT_PORT 6) 0x1F)
def managed : State := { (open45 paths) with flash := (List.range 512).map fun k => (k, 0) }
def managedRing : State := managed.setF TRP_STAT TRP_STAT_ROLE 2
def heardDg (e : Nat) : State := { managed with mgt := { managed.mgt with streams := [{ src := dgram0.key, e := e, marks := 1, full := e }] } }
def cmdDg (ws : List Word) (tgt : Nat) : Dgram := (goodD { dgram0 with words := ws, target := tgt })
def sessions (up : Bool) : State := { managed with mgt := { managed.mgt with bulk := some ⟨3, dgram0.ip, 40000, up, 9, 9⟩, recs := some ⟨4, 7, 7, true, 1, 1⟩ } }
def status (d : Dgram) (k : Nat) : Word := BitVec.ofNat 24 (d.seq * 4096 + k)

theorem witness_ManagementDatagrams :
    (managed.pathEn 1 = true ∧ (frame 1 none).rct = none ∧ ({ dgram0 with crc := 1 } : Dgram).crcOk = false) ∧
    (managed.takesDg fr dgram0 = true ∧ (managed.dgStream dgram0).2 = 0) ∧
    (((heardDg 4095).dgStream dgram0).2 ≠ 0) ∧
    ((sessions true).mgt.bulk = some ⟨3, dgram0.ip, 40000, true, 9, 9⟩ ∧ (3 : Nat) = dgram0.session) ∧
    ((sessions true).mgt.recs = some ⟨4, 7, 7, true, 1, 1⟩) ∧
    (managed.isRing = false ∧ managedRing.isRing = true ∧ (managedRing.dgRights fr).testBit 1 = true ∧ (dgram0.words.headD 0).toNat / 2 ^ 22 ≠ 3) ∧
    (managed.takesDg fr (goodD { dgram0 with epoch := 7 }) = true ∧ dgram0.target = managed.myAddr ∧ (goodD { dgram0 with epoch := 7 }).epoch ≠ managed.myEpoch) ∧
    (dgram0.epoch = managed.myEpoch ∧ (queryAddrs [0x000002, 0x9F020, 0x1234]).all fun x => mayRead (managed.dgRights fr) x) ∧
    ((BAT_QFULL 31).ok = true ∧ (BAT_QFULL 31).readsPlain = true ∧ managed.admits { who := .dgram (cmdDg [0x010000, BitVec.ofNat 24 (BAT_QFULL 31).addr] 5), port := 5, rights := managed.dgRights fr, write := false, words := [((BAT_QFULL 31).addr, 0)] } = true) ∧
    ((STG_DT 127).ok = true ∧ (STG_DT 127).writesPlain = true ∧ managed.legalWord (STG_DT 127) 0x123 = true ∧ managed.admits { who := .dgram (cmdDg [0x110000, BitVec.ofNat 24 (STG_DT 127).addr, 0x123] 5), port := 5, rights := managed.dgRights fr, write := true, words := [((STG_DT 127).addr, 0x123)] } = true) ∧
    ((member 4).routeTo 9 = some 0 ∧ managedRing.routeTo 9 = none ∧ (9 : Nat) ≠ managed.myAddr) ∧
    (managed.routeTo 9 = some 0 ∧ (managed.link 0).ctl.length < 32) ∧
    (((heardDg 2000).dgStream dgram0).2 = 4) ∧
    ((managed.pathEn 0 && managed.pathEn 1) = true ∧ holds (managed.dgRights fr) clsMaintain = true ∧ (managed.dgStream (goodD { dgram0 with flags := 2 })).2 = 0) ∧
    (managed.flag MGT_TLM MGT_TLM_EN = false ∧ (managed.pathEn 0 || managed.pathEn 1) = true) ∧
    ((managed.pathEn 0 || managed.pathEn 1) = true ∧ (let z := managed.setF PWS_STAT PWS_STAT_STATE 3; (z.pathEn 0 || z.pathEn 1) = false) ∧ ((managedRing.setF MGT_TLM MGT_TLM_EN 1).setF PWS_STAT PWS_STAT_STATE 3).isRing = true) ∧
    ((managedRing.setF MGT_TLM MGT_TLM_EN 1).flag MGT_TLM MGT_TLM_EN = true ∧ (managed.link 0).shared.length < 64 ∧ managed.routeTo 0 = some 0) := by decide +kernel

/-- Bus 3 is an enabled target under PAGE `pg`, with rights `r`, and port 127 has scales and samples. -/
def bused (pg r : Nat) : State :=
  ((((((((((booted.setF (TWB_CTL 3) TWB_CTL_EN 1).setF (TWB_CTL 3) TWB_CTL_WHISTLE 1).setF (TWB_ADDR 3) TWB_ADDR_ADDR 0x40).setF (TWB_STAT 3) TWB_STAT_PAGE pg).wr (RGT_PORT 3) (BitVec.ofNat 24 r)).wr
    (TWB_PFS_V 127) 54000).wr (TWB_PFS_I 127) 60000).wr (STG_SMP_V 127) 0x6AAAAA).wr (STG_SMP_I 127) 0xC00000).wr (TWB_PT_SPAN 127) 10000).wr HLD_VBUS 0xFFFF00
def mirrored3 (pg r : Nat) : State := (bused pg r).mirrorRefresh
def txn (code : Nat) (pec : Option Bool) : Txn := ⟨3, code, pec, true, 50, 50, 400⟩
def fetched (f : Bool) (buf : List Word) (a n : Nat) : State := (bused 127 0x1F).modBus 3 fun x => { x with ptr := some (a, true, n), fetching := f, buf := buf }
def alerting (al : Nat) : State := ((bused 5 0x1F).setF (TWB_STAT 3) TWB_STAT_ALERT al).modBus 3 fun x => { x with whistle := true }

theorem witness_BusReads :
    ((mirrored3 5 0x1F).pmTakes (txn 0x7E (some true)) (some clsObserve) = true ∧ (mirrored3 5 0x1F).page 3 < 128 ∧ 128 ≤ (mirrored3 255 0x1F).page 3) ∧
    ((mirrored3 127 0x1F).pmTakes (txn 0x7E none) (some clsObserve) = true) ∧
    (booted.busAnswers 3 = false ∧ (bused 5 0x1F).busAnswers 3 = true ∧ ((bused 5 0x1F).setF (TWB_STAT 3) TWB_STAT_QFULL 1).flag (TWB_STAT 3) TWB_STAT_QFULL = true ∧ pmCodes.contains 0x55 = false ∧ (bused 5 0).flag (TWB_STAT 3) TWB_STAT_QFULL = false ∧ holds ((bused 5 0).portRights 3) clsObserve = false ∧ pmCodes.contains 0x8C = true) ∧
    ((fetched true [] (BAT_QFULL 31).addr 1).pmTakes (txn 0xD1 none) none = true ∧ ((fetched true [] (BAT_QFULL 31).addr 1).bus 3).ptr = some ((BAT_QFULL 31).addr, true, 1) ∧ mayRead ((fetched true [] 0 1).portRights 3) (BAT_QFULL 31).addr = true ∧ isHole (BAT_QFULL 31).addr = false ∧ (fetched true [] 0 1).tileDown (ownerTile (BAT_QFULL 31).addr) = false ∧ ((fetched false [7] 0 1).bus 3).buf.length = 1 ∧ (bused 5 0x1F).pmTakes (txn 0xD1 (some true)) none = true ∧ ((bused 5 0x1F).bus 3).ptr = none) ∧
    ((BAT_QFULL 31).ok = true ∧ (BAT_QFULL 31).readsPlain = true ∧ (fetched true [] (BAT_QFULL 31).addr 1).waiting (fun k => match k with | .prefetch j => j == 3 | _ => false) = false ∧ (fetched true [] (BAT_QFULL 31).addr 1).admits { who := .prefetch 3, port := 3, rights := (fetched true [] 0 1).portRights 3, write := false, words := [((BAT_QFULL 31).addr, 0)] } = true) ∧
    ((alerting 1).busTarget 3 = true ∧ (alerting 1).flag (TWB_STAT 3) TWB_STAT_ALERT = true ∧ (alerting 0).flag (TWB_STAT 3) TWB_STAT_ALERT = false) := by decide +kernel

def queue4 (n : Nat) (q : TwbWrite) (r : Nat) : State := (bused 5 r).modBus 3 fun x => { x with queue := List.replicate n q }
def pointed (w : Bool) : State := (bused 5 0x1F).modBus 3 fun x => { x with ptr := some ((STG_DT 127).addr, !w, 1) }
def whistling (al act rep : Nat) : State := (((bused 5 0x1F).setF (TWB_STAT 3) TWB_STAT_ALERT al).setF (TWB_STAT 3) TWB_STAT_WHS_ACT act).setF (TWB_ALERT 3) TWB_ALERT_REP rep |>.modBus 3 fun x => { x with whistle := true }
def controller (busy rt : Nat) : State := (((bused 5 0x1F).setF (TWB_CTL 3) TWB_CTL_ROLE 1).setF (TWB_STAT 3) TWB_STAT_BUSY busy).modBus 3 fun x => { x with xfer := if busy = 1 then some rt else none }

theorem witness_BusWritesAndTransfers :
    ((bused 5 0x1F).pecPasses (txn 0x03 (some true)) = true ∧ (bused 5 0x1F).pmTakes (txn 0x03 (some true)) (some clsConfigure) = true ∧ (bused 5 0x1F).pmTakes (txn 0x03 (some true)) (some clsOperate) = true) ∧
    (((pointed true).bus 3).ptr = some ((STG_DT 127).addr, false, 1) ∧ mayTouch ((pointed true).portRights 3) (STG_DT 127).addr = true ∧ isHole (STG_DT 127).addr = false ∧ (pointed true).tileDown (ownerTile (STG_DT 127).addr) = false ∧ (pointed true).pmTakes (txn 0xD1 none) none = true) ∧
    ((txn 0x03 (some false)).pec = some false ∧ ({ txn 0x03 none with stop := false }).stop = false) ∧
    ((200 : Nat) ≠ 0xFF ∧ (0x81 : Nat) ≠ 0x80) ∧
    (((queue4 4 (.words (STG_DT 127).addr [0x77]) 0x1F).bus 3).queue = .words (STG_DT 127).addr [0x77] :: List.replicate 3 (.words (STG_DT 127).addr [0x77]) ∧ (STG_DT 127).writesPlain = true ∧ (queue4 4 (.clear 5) 0x1F).legalWord (STG_DT 127) 0x77 = true ∧ (queue4 4 (.clear 5) 0x1F).admits { who := .busWrite 3, port := 3, rights := (queue4 4 (.clear 5) 0x1F).portRights 3, write := true, words := [((STG_DT 127).addr, 0x77)] } = true) ∧
    (((queue4 2 (.clear 127) 0x1F).bus 3).queue = .clear 127 :: [.clear 127] ∧ holds ((queue4 2 (.clear 127) 0x1F).portRights 3) clsOperate = true ∧ holds ((queue4 2 (.clear 255) 0).portRights 3) clsOperate = false) ∧
    ((bused 5 0x1F).busTarget 3 = true) ∧
    ((whistling 1 0 5).mayWhistle 3 = true ∧ ((whistling 1 0 5).bus 3).whistle = true ∧ (whistling 1 0 5).getF (TWB_ALERT 3) TWB_ALERT_REP ≠ 0 ∧ (whistling 1 0 0).mayWhistle 3 = true ∧ (whistling 1 0 0).getF (TWB_ALERT 3) TWB_ALERT_REP = 0 ∧ (whistling 0 1 0).flag (TWB_STAT 3) TWB_STAT_WHS_ACT = true) ∧
    ((controller 0 0).busController 3 = true) ∧
    ((controller 0 0).admitsPut jtag (TWB_XFER 3) (TWB_XFER_GO.put 0x204 1) = true ∧ (controller 0 0).legalWord (TWB_XFER 3) (TWB_XFER_GO.put 0x204 1) = true ∧ (controller 1 0).flag (TWB_STAT 3) TWB_STAT_BUSY = true ∧ (controller 0 0).flag (TWB_STAT 3) TWB_STAT_BUSY = false) ∧
    (((controller 1 2).bus 3).xfer = some 2 ∧ ((controller 1 2).bus 3).avs = false ∧ (controller 1 2).age.avs ≠ 1 ∧ ((controller 1 0).bus 3).xfer = some 0) ∧
    ((controller 1 2).admitsPut jtag (TWB_CTL 3) 0x8 = true ∧ (controller 1 2).legalWord (TWB_CTL 3) 0x8 = true ∧ TWB_CTL_EN.on 0x8 = false ∧ (controller 1 2).flag (TWB_STAT 3) TWB_STAT_BUSY = true) := by decide +kernel

/-- Port 127 in a personality and a state; its lane is lane 127. -/
def ported (pers st : Nat) : State :=
  ((((booted.setF (STG_STAT 127) STG_STAT_STATE st).setF (STG_PWM 127) STG_PWM_MULT 2).wr (ENV_FAST 127) 0x400000).wr (ENV_DUTY 127) 0x7FFFFF).modPort 127 fun x =>
    { x with persNow := pers, ga := true, gb := true, drvHold := true, ocHold := true, applied := [(0, 0x400000)] }
def duePort (pers st : Nat) (mid : Bool) : State := (ported pers st).modPort 127 fun x =>
  { x with
    pend := [(0, { w := 0x200000, due := 3 }), (0, { w := 0x300000, due := 40, ref := 0x200000 }), (0, { w := 5, due := 2001 })]
    gen := { len := 64000, m := 2, next := 1, per := 32000, mid := mid } }
def pointOf (mid : Bool) : Point := if mid then ⟨true, 0, 32000, 16000⟩ else ⟨false, 1, 32000, 32000⟩
def slow (k : Nat) : State := (((List.range 16).foldl (fun (s : State) j => s.setF (STG_SNS (112 + j)) STG_SNS_TEN 0) booted).setF (STG_SNS (16 * 7 + k)) STG_SNS_TEN 1).modTile 7 fun t => { t with slowAt := 9 }
def fused (f : Nat) : State := ((ported 1 1).setFus 127 f).modFuse 127 fun x => { x with gref := 9, gb := 9 }
def orred (st : Nat) : State := ((ported 2 1).setF (ORG_STAT 127) ORG_STAT_STATE st).modFuse 127 fun x => { x with gref := 9, gb := 9 }
def fan (run : Bool) (spd : Nat) : State := (((ported 4 1).wr (FAN_FS 127) 5000).wr (FAN_SPD 127) (BitVec.ofNat 24 spd)).modPort 127 fun x => { x with tachRun := run }
def railed (st tr : Nat) : State :=
  ((((((ported 0 1).setF (PHS_RAIL_CTL 15) PHS_RAIL_CTL_STATE st).setF (PHS_RAIL_STAT 15) PHS_RAIL_STAT_TRUNC tr).setF (PHS_RAIL_CTL 15) PHS_RAIL_CTL_TR_EN 1).wr (PHS_RAIL_VOS 15) 1000).wr (PHS_RAIL_HYS 15) 100)

theorem witness_StagePortEvents :
    ((slow 8).tileDown 7 = false ∧ (slow 8).flag (STG_SNS (16 * 7 + 8)) STG_SNS_TEN = true ∧ (slow 8).pers (16 * 7 + 8) ≠ 4) ∧
    (([0, 3, 4].all fun pe => [true, false].all fun mid => (duePort pe 1 mid).pers 127 == pe && (duePort pe 1 mid).nextPoint 127 == some (pointOf mid) && (duePort pe 2 mid).nextPoint 127 == some (pointOf mid)) = true ∧ ((duePort 0 1 true).port 127).envPend = [] ∧ (duePort 0 1 true).pstate 127 = 1 ∧ ((duePort 0 1 true).port 127).stored = [] ∧ ((duePort 0 1 true).port 127).pert = 0 ∧ ((duePort 0 1 true).port 127).trunc = false ∧ ((duePort 0 1 true).port 127).relimit = false ∧ ((duePort 0 1 true).port 127).firstStart = false ∧ (duePort 0 2 true).pstate 127 = 2 ∧ (ported 3 0).nextPoint 127 = none) ∧
    (((ported 0 1).modPort 127 fun x => { x with edges := [100] }).blanked 127 (7 * unitsPerCycle) = true) ∧
    (((ported 0 1).port 127).cmpOld = [] ∧ (ported 0 1).blanked 127 (400 * unitsPerCycle) = false ∧ cmpThreshold ((ported 0 1).rd (ENV_FAST 127)) < (0x400001 : Int).natAbs ∧ (0x400000 : Int).natAbs ≤ cmpThreshold ((ported 0 1).rd (ENV_FAST 127)) ∧ ((fused 2).pers 127 = 1 ∧ (fused 2).pstate 127 = 1 ∧ (fused 2).fusSt 127 = 2) ∧ 1 ∉ ((fused 2).fuse 127).trips) ∧
    ((-1 : Int) < -(((ported 0 1).getF (STG_CMP 127) STG_CMP_RC_THR : Nat) : Int) ∧ (ported 0 1).pers 127 ≠ 1 ∧ (ported 0 1).pers 127 ≠ 2 ∧ (orred 2).pers 127 = 2 ∧ (fused 1).pers 127 = 1) ∧
    ((fan true 5).pers 127 = 4) ∧
    ((fan true 0).pstate 127 = 1 ∧ 0 < (((fan true 0).port 127).app 0).toInt ∧ (fan true 0).rd (FAN_SPD 127) = 0 ∧ ((fan true 0).port 127).tachRun = true ∧ ((fan false 0).port 127).tachRun = false ∧ (fan true 0).rd (FAN_FS 127) ≠ 0 ∧ ¬ ((fan true 5).pstate 127 = 1 ∧ 0 < (((fan true 5).port 127).app 0).toInt ∧ (fan true 5).rd (FAN_SPD 127) = 0)) ∧
    ((ported 0 1).syncLost 127 0 = true ∧ ((ported 0 1).modPort 127 fun x => { x with sync := { x.sync with acc := 1000 } }).syncLost 127 249 = false ∧ ((ported 0 1).setF (STG_PWM 127) STG_PWM_SYNC 1).flag (STG_PWM 127) STG_PWM_SYNC = true ∧ ((ported 0 1).setF (STG_PWM 127) STG_PWM_SYNC 1).flag (STG_STAT 127) STG_STAT_SYNC_HOLD = false) ∧
    ((railed 1 0).presNow 15 = 0 ∧ (railed 1 0).convExcluded 0 9 = false) ∧
    ((let s := ((((railed 3 0).setF (PHS_RAIL_LEAD 15) PHS_RAIL_LEAD_LEAD 127).setF (PHS_RAIL_CTL 15) PHS_RAIL_CTL_AF_EN 1).wr (PHS_RAIL_VUS 15) 900).modRail 15 (fun x => { x with armed := true, pres := 2 ^ 127, hist := [2000, 2000, 2000, 2000, 2000, 2000, 2000, 2000000] }); s.presNow 15 ≠ 0 ∧ (s.presNow 15).testBit (s.leadOf 15) = true ∧ s.railState 15 = 3 ∧ s.flag (PHS_RAIL_CTL 15) PHS_RAIL_CTL_AF_EN = true ∧ (s.rail 15).armed = true ∧ s.calV 127 0 ≤ (s.rd (PHS_RAIL_VUS 15)).toInt ∧ (s.rail 15).hist[7]? = some 2000000 ∧ s.calV 127 0 - 2000000 ≤ -((s.rd (PHS_RAIL_DVDT 15)).toNat : Int) ∧ s.flag (PHS_RAIL_STAT 15) PHS_RAIL_STAT_TRUNC = false)) := by decide +kernel

/-- A fuse or OR-ing unit of port 127 in a state, its request on or off, with limits and currents. -/
def unit (pers st : Nat) (req : Bool) : State :=
  let s := (((((((((ported pers 1).setFus 127 (if pers = 1 then st else 0)).setF (ORG_STAT 127) ORG_STAT_STATE (if pers = 2 then st else 0)).wr (FUS_VDS_ON 127) 1000).wr (FUS_GREF0 127) 5000).wr (FUS_IINR 127) 40000).wr (FUS_PLIM 127) 30000).wr
    (FUS_KG 127) 0x020000).setF (FUS_RETRY 127) FUS_RETRY_COUNT 2).setF (FUS_CTL 127) FUS_CTL_INR_EN 1
  let s := ((((s.wr (ORG_VON 127) 1000).wr (ORG_VOFF 127) 500).wr (ORG_VREG 127) 700).wr (ORG_KG 127) 0x020000).wr (ORG_GMIN 127) 77
  (s.modPort 127 fun x => { x with applied := if req then [(3, 1)] else [], drvHold := false, ocHold := false }).modFuse 127 fun x => { x with gref := 6000, v0 := 900000, vm := 800000 }
def conv (i v : Int) : PortConv := ⟨[i], [v.toNat], []⟩

theorem witness_FuseAndOringUnits :
    ((unit 1 0 true).pstate 127 = 1 ∧ (unit 1 2 false).pers 127 = 1 ∧ ((unit 1 2 false).port 127).envPend = [] ∧ ((unit 1 2 false).port 127).pend = [] ∧ ((unit 1 2 false).port 127).stored = [] ∧ (unit 1 2 false).tileDown 7 = false ∧ (unit 1 2 false).request 127 = false ∧ ((unit 1 2 false).gridMeans 127 400 (conv 9 4000)).1.2 = ((unit 1 2 false).gridMeans 127 400 (conv 9 4000)).1.2 ∧ tripCause [5, 2] = some 5) ∧
    ((unit 1 0 true).request 127 = true ∧ ((unit 1 0 true).fuse 127).toggle = false ∧ (unit 1 0 true).fusSt 127 = 0 ∧ (unit 1 0 true).isShed 127 = false ∧ ((unit 1 0 true).fuse 127).shedOff = false ∧ ((unit 1 0 true).rd (FUS_VDS_ON 127)).toInt < ((unit 1 0 true).gridMeans 127 400 (conv 9 32000)).1.2 ∧ ((unit 1 0 true).fuse 127).offRuns = false) ∧
    ((unit 1 1 true).fusSt 127 = 1 ∧ ((unit 1 1 true).fuse 127).trips = [] ∧ ((unit 1 1 true).gridMeans 127 400 (conv 9 0)).1.2 ≤ ((unit 1 1 true).rd (FUS_VDS_ON 127)).toInt ∧ (unit 1 1 true).flag (FUS_CTL 127) FUS_CTL_INR_EN = true) ∧
    ((unit 1 3 true).fusSt 127 = 3 ∧ ((unit 1 3 true).fuse 127).offRuns = false ∧ (unit 1 3 true).isShed 127 = false ∧ ((unit 1 3 true).modFuse 127 fun x => { x with offRuns := true }).fusSt 127 = 3 ∧ (unit 1 4 true).fusSt 127 = 4) ∧
    ((unit 1 2 true).fusSt 127 = 2 ∧ tripCause [3, 2] = some 2) ∧
    (((unit 1 1 true).setF (FUS_STAT 127) FUS_STAT_RETRY 1).flag (FUS_STAT 127) FUS_STAT_RETRY = true ∧ 7 * (((unit 1 1 true).setF (FUS_STAT 127) FUS_STAT_RETRY 1).fuse 127).v0 < 8 * (((unit 1 1 true).setF (FUS_STAT 127) FUS_STAT_RETRY 1).fuse 127).vm ∧ 8 * (((unit 1 1 true).modFuse 127 fun x => { x with vm := 787500 }).fuse 127).vm ≤ 7 * (((unit 1 1 true).modFuse 127 fun x => { x with vm := 787500 }).fuse 127).v0) ∧
    ((unit 1 3 true).fusSt 127 = 3 ∧ ((unit 1 3 true).setF (CAP_PORT 127) CAP_PORT_SHED 1).isShed 127 = true ∧ (unit 1 2 true).fusSt 127 ≠ 3) ∧
    ((unit 1 2 true).pers 127 = 1) ∧
    ((unit 2 1 true).pers 127 = 2 ∧ (unit 2 1 false).request 127 = false ∧ ((unit 2 1 true).rd (ORG_VON 127)).toInt ≤ ((unit 2 1 true).gridMean ((conv 9 40000).v.map fun c => (unit 2 1 true).calV 127 c)).1 ∧ (unit 2 1 true).gaHeld 127 = false ∧ ((unit 2 2 true).gridMean ((conv 9 0).v.map fun c => (unit 2 2 true).calV 127 c)).1 ≤ ((unit 2 2 true).rd (ORG_VON 127)).toInt) := by decide +kernel

/-- The watchdog runs with a period of 1,000 µs and a window of 4/8, `e` cycles after its service; one port is ON, one is OFF. -/
def dog (e act : Nat) (k1 : Nat) : State :=
  { ((((booted.setF (STG_STAT 127) STG_STAT_STATE 1).setF WDG_CTL WDG_CTL_ACT act).setF WDG_STAT WDG_STAT_RUN 1).setF WDG_STAT WDG_STAT_KEY1 k1) with
    wdg := { running := true, elapsed := e, period := 1000, win := 4 }, flt := { booted.flt with aliveOn := true } }
def aliveIs (on stop sSeen : Bool) (lv : Nat) : State := { ((dog 5 0 0).setF FLT_ALIVE FLT_ALIVE_LEVEL lv) with flt := { booted.flt with aliveOn := on, aliveStopped := stop, sSeen := sSeen } }
def stopped : State := booted.setF WDG_STAT WDG_STAT_EXPIRED 1

theorem witness_FaultWritesAndWatchdog :
    ((10000 : Nat) ≤ 10000 ∧ booted.admits (jtag.access booted true [((FLT_CLS 3517).addr, FLT_CLS_N.put (FLT_CLS_WUNIT.put (FLT_CLS_W.put 0 10000) 1) 255), ((FLT_SRC 3517).addr, FLT_SRC_TIER.put (booted.heldWord (FLT_SRC 3517)) 3)]) = true) ∧
    (isSource 3517 = true ∧ booted.admitsField jtag (FLT_SRC 3517) FLT_SRC_FORCE 1 = true) ∧
    ((aliveIs true false true 1).flt.aliveOn = true ∧ (aliveIs true false true 1).flt.aliveStopped = false ∧ (aliveIs true false true 1).flt.sSeen = true ∧ (aliveIs true false false 1).flt.sSeen = false ∧ (aliveIs false false true 1).flt.aliveOn = false) ∧
    ((dog 0 0 0).admitsPut jtag WDG_KEY 0x5A3C96 = true ∧ booted.wdg.running = false ∧ (dog 0 0 0).wdg.running = true ∧ (dog 0 0 0).wdg.lapsed 100000 = true ∧ (dog 0 0 0).wdg.lapsed 49999 = false ∧ (dog 0 0 0).wdg.closed 49999 = true ∧ (dog 0 0 0).wdg.closed 50000 = false ∧ (dog 0 0 1).flag WDG_STAT WDG_STAT_KEY1 = true) ∧
    (booted.admitsPut jtag (.pkg 0x2601) 2000 = true ∧ booted.legalWord (.pkg 0x2601) 2000 = true ∧ booted.flag WDG_STAT WDG_STAT_EXPIRED = false ∧ stopped.flag WDG_STAT WDG_STAT_EXPIRED = true) ∧
    ((dog 100000 1 0).wdg.lapsed (max 5 (dog 100000 1 0).wdg.elapsed) = true ∧ (dog 5 1 0).wdg.lapsed (max 5 (dog 5 1 0).wdg.elapsed) = false) := by decide +kernel

def rec0 (n : Nat) : Rec := ⟨1, 2, false, 5, 7, 9, 77, 3, 4, 11, 12, n⟩
def recording (fl : Bool) (n : Nat) : State :=
  { booted with rcd := { booted.rcd with buf := [rec0 4094, rec0 4095, rec0 20479], flushing := fl, flushN := n, next := 20480, supp := [(4096 + 5, 9)],
                                         supOut := if fl then [rec0 20480] else [], copies := { a := some (sealCopy RecSave.words ⟨7, [], [], 0, 0, 1, 1, 1⟩) }, clears := 0xFFFFFF, bins := [(63 * 32 + 5, 7), (5, 8)] } }
def fetching (ar i : Nat) : State := { (recording false 0) with rcd := { (recording false 0).rcd with fetch := some (ar, i), perm := [(3, some (rec0 3))], bad := [20000], buf := [rec0 20479] } }
def streaming (lk : Nat) : State :=
  { (((((recording false 0).setF REC_CTL REC_CTL_STRM_EN 1).setF REC_CTL REC_CTL_STRM_LINK lk).setF MGT_STAT MGT_STAT_REC 1).setF (TRP_LNK_STAT 5) TRP_LNK_STAT_STATE 2) with mgt := { booted.mgt with recs := some ⟨0, 0x0A000077, 7, true, 0, 4095⟩ }, rcd := { (recording false 0).rcd with strmNext := 4095 }, trp := { booted.trp with route := [(0, some 5)] } }

theorem witness_RecorderRules :
    (booted.admitsPut jtag REC_CMD 1 = true) ∧
    ((recording true 3).rcd.flushing = true ∧ (recording true 3).rcd.clearWait = [] ∧ (recording true 3).rcd.again = false ∧ ((recording true 3).rcd.newest.map (·.seq)) = some 7 ∧ ((recording true 3).rcd.buf.take (recording true 2).rcd.flushN ++ (recording true 2).rcd.supOut).Pairwise (fun y z => y.rnum % 16384 ≠ z.rnum % 16384)) ∧
    ((recording true 3).rcd.spent = []) ∧
    (booted.admitsPut jtag REC_CMD 2 = true ∧ (recording false 0).rcd.buf.length < 1820 ∧ (recording false 0).rcd.wait = []) ∧
    (booted.admitsPut jtag REC_RD_IDX_HI 0xFF = true) ∧
    ((fetching 0 3).recFind 3 = some (some (rec0 3)) ∧ (fetching 0 4).recFind 4 = none ∧ (fetching 0 20000).recFind 20000 = some none ∧ (fetching 1 2047).rcd.fetch = some (1, 2047) ∧ (fetching 2 63).rcd.fetch = some (2, 63) ∧ booted.rcd.fetch = none) ∧
    (booted.admitsPut jtag (REC_HQ0 63) (REC_HQ0_EN.put (BitVec.ofNat 24 HLD_VBUS.addr) 1) = true ∧ hqOk (REC_HQ0_EN.put (BitVec.ofNat 24 HLD_VBUS.addr) 1) = true ∧ hqOk 0x5 = false) ∧
    ((recording false 0).flag REC_CTL REC_CTL_STRM_EN = false ∧ (streaming 1).flag REC_CTL REC_CTL_STRM_EN = true ∧ (streaming 1).flag REC_CTL REC_CTL_STRM_LINK = true ∧ (streaming 1).recNext (streaming 1).rcd.strmNext = some (rec0 4095) ∧ (streaming 1).routeTo ((streaming 1).getF REC_STRM REC_STRM_DEST) = some 5 ∧ ((streaming 1).link 5).shared.length < 64 ∧ (streaming 0).mgt.recs = some ⟨0, 0x0A000077, 7, true, 0, 4095⟩ ∧ (streaming 0).recNext 4095 = some (rec0 4095) ∧ (streaming 0).getF MGT_STAT MGT_STAT_REC < 2) := by decide +kernel

/-- All tiles run with margin `m`; the request is `v` mV; the regulator is at address `ta` on bus 3. -/
def aged (m v ta : Nat) : State :=
  let s := (List.range 8).foldl (fun (s : State) n => (List.range 4).foldl (fun (s : State) k => s.setF (AGE_RO n k) AGE_RO_MARGIN m) s) booted
  let s := (((s.setF AGE_VREQ AGE_VREQ_MV v).setF AGE_AVS AGE_AVS_TADDR ta).setF AGE_AVS AGE_AVS_LO 10).setF AGE_AVS AGE_AVS_HI 20
  ((s.setF AGE_AVS_BUS AGE_AVS_BUS_BUS 3).setF (TWB_CTL 3) TWB_CTL_EN 1).setF (TWB_CTL 3) TWB_CTL_ROLE 1
def bursting (ov : Bool) (plus minus : Int) : State :=
  { ((booted.setF (AGE_CAP_CTL 15) AGE_CAP_CTL_EN 1).setF (AGE_CAP_CTL 15) AGE_CAP_CTL_H 2) with age := { booted.age with burst := [(15, some { plus := plus, minus := minus, dv := 5, ended := ov, k := 33 })] } }
def revised (due : Nat) : State :=
  { ((booted.setF AGE_CTL AGE_CTL_MINS 3).setF AGE_CTL AGE_CTL_APPLY 0) with age := { booted.age with due := due, ports := [(127, { rho := { sum := 700, n := 7, base := some 90 }, kf := { sum := 2, n := 2, base := some 1 } })], rails := [(15, { kc := { sum := 30, n := 3, base := some 0 }, ke := { sum := 9, n := 3 } })] } }
def writing (ag : Bool) : State := { (revised 86400) with age := { (revised 86400).age with revising := true, again := ag, copies := { a := some (sealCopy AgeCopy.words ⟨4, [], [], {}, 0, 3⟩) } } }
def stepReq (s : State) : Nat :=
  let least := ((List.range 8).filter s.tileRuns).foldl (fun m n => min m (s.tileMargin n)) 63
  let old := s.getF AGE_VREQ AGE_VREQ_MV
  if least < s.getF AGE_AVS AGE_AVS_LO then min (old + 5) 850 else if s.getF AGE_AVS AGE_AVS_HI < least then max (old - 5) 700 else old

theorem witness_AgeingRules :
    (booted.tileRuns 7 = true ∧ (-2048 : Int) ≤ -2048) ∧
    ((aged 5 800 0).getF AGE_AVS AGE_AVS_TADDR = 0 ∧ stepReq (aged 5 800 0) ≠ 800 ∧ (aged 5 800 9).getF AGE_AVS AGE_AVS_TADDR ≠ 0 ∧ (aged 5 800 9).busController 3 = true ∧ (aged 5 800 9).flag (TWB_STAT 3) TWB_STAT_BUSY = false) ∧
    ((booted.setF (AGE_CAP_CTL 15) AGE_CAP_CTL_EN 1).flag (AGE_CAP_CTL 15) AGE_CAP_CTL_EN = true ∧ (booted.setF (AGE_CAP_CTL 15) AGE_CAP_CTL_EN 1).burst 15 = none ∧ booted.flag (AGE_CAP_CTL 15) AGE_CAP_CTL_EN = false) ∧
    ((bursting true 900000000 (-900000000)).burst 15 = some { plus := 900000000, minus := -900000000, dv := 5, ended := true, k := 33 } ∧ ¬ ((900000000 : Int) - (-900000000) < 2 * (8 * ((bursting true 900000000 (-900000000)).halfTicks 15 : Int)) * ((bursting true 900000000 (-900000000)).getF (AGE_CAP_AMP 15) AGE_CAP_AMP_AMIN * 4096))) ∧
    (booted.opSeconds < booted.age.due ∧ (revised 0).age.due ≤ (revised 0).opSeconds ∧ (revised 0).reviseWaits = false ∧ ({ (revised 0) with age := { (revised 0).age with revising := true } }).reviseWaits = true ∧ (revised 0).flag AGE_CTL AGE_CTL_APPLY = false) ∧
    (booted.age.revising = false ∧ (writing false).age.revising = true ∧ (writing false).age.again = false) ∧
    (booted.admitsPut jtag AGE_CMD (AGE_CMD_BASE.put (AGE_CMD_ALL.put (AGE_CMD_PORT.put 0 127) 0) 1) = true ∧ booted.admitsPut jtag AGE_CMD (AGE_CMD_BASE.put (AGE_CMD_ALL.put (AGE_CMD_PORT.put 0 127) 1) 1) = true) := by decide +kernel

/-- The bytes of a number, in big-endian order, in the flash. -/
def flashRun (ofs n v : Nat) : List (Nat × Nat) := (List.range n).map fun i => (0x800000 + ofs + i, v / 256 ^ (n - 1 - i) % 256)
/-- A signed image in slot B, made with an independent implementation of SHA-384 and ECDSA, and the hash of its key in key slot 1. -/
def image : List (Nat × Nat) :=
  flashRun 0 20 0x4c4d524401018800000007000000000100001000 ++
  flashRun 20 96 0xa14aad95673d51513a385309151ee57b66f8ef6d80a03ae54b268767b28cb37f72f272aa5fb5d11d7395157d985b5f33229d4134d1a63d2a1afa184a2d09e52b2d71527e66fb1427c13e6b1cb1978d474a7b7b735d792cdaa0996332db968ab4 ++
  flashRun 116 48 0x000002000000001000000000000000000000000000000000000000000000000000000400000000090000000000000000 ++
  flashRun 320 144 0xd2ec7791b76410dea8e2d675a43735ce6e48dca453cbeb891a07bea5666baadd2f1f2bdb72018cb54c24686fca5e92ee48afa197d5240a3a37ef279584c5f2a24c1a2c7a24c51e41c7388ccce567e98d785020e58c26da548e3b88f89c8d5e74d3b5fb37e82fcd51a6e0ca30baa565efa97d1453e8fdeb91783956bf5cdd3dfaba1f492692b09bf5738217c18650c631 ++
  flashRun 1024 9 0x100000000000000000
def keyWords : List Word := [14316114, 2779497, 5476986, 3154449, 2780672, 3016, 16544498, 205822, 13538954, 9037458, 5913537, 11248462, 12205422, 7824754, 13552143, 13560679]
def imaged (st : Nat) : State :=
  { (booted.setF UPD_STAT UPD_STAT_STATE st) with flash := image.filter fun e => e.2 != 255, otp := { keys := (List.range 16).map (fun k => (16 + k, keyWords.getD k 0)), prog := 0b10 } }
/-- The update in a state, with a boot record, a little flash, and lanes of an activation. -/
def upd (st : Nat) : State :=
  { (booted.setF UPD_STAT UPD_STAT_STATE st) with flash := [(0x800003, 5), (0x800FFF, 6), (0x801000, 7), (0x7FFFFF, 8)], upd := { lanes := [5, 127], dl := none, recs := { a := some (sealCopy BootRec.words ⟨7, true, 1, 1, 0, 0, 3⟩) } } }
def loading (e er : Nat) (hd : List Nat) : State := { ((upd 1).wrPair UPD_DL_ADDR_LO UPD_DL_ADDR_HI e) with upd := { (upd 1).upd with dl := some { exp := e, head := hd, erased := er } } }
def stw13 : Arr := ⟨20, 400⟩
def switching (k st : Nat) : State := { (upd st) with switch := some ⟨k, true, false, 0, none, false, [5]⟩ }

theorem witness_UpdateRules :
    ((upd 0).admitsPut jtag UPD_CMD (BitVec.ofNat 24 1) = true ∧ (upd 0).updState = 0 ∧ (upd 3).updState = 3) ∧
    ((upd 0).admitsPut jtag UPD_CMD (BitVec.ofNat 24 8) = true ∧ (upd 5).activationSwitch = false ∧ (switching 1 5).activationSwitch = true) ∧
    ((upd 0).admitsPut jtag UPD_CMD (BitVec.ofNat 24 2) = true ∧ (upd 2).updState = 2) ∧
    ((upd 3).updState = 3 ∧ (upd 3).verifySlot (upd 3).target ≠ 0) ∧
    ((imaged 4).admitsPut jtag UPD_CMD (BitVec.ofNat 24 4) = true ∧ (upd 4).activateErr ≠ 0 ∧ (imaged 4).activateErr = 0) ∧
    ((imaged 5).updState = 5 ∧ (imaged 5).activationSwitch = false ∧ (imaged 5).upd.lanes = [] ∧ (imaged 5).switch = none ∧ (imaged 5).tileDown 7 = false) ∧
    ((upd 6).admitsPut jtag UPD_CMD (BitVec.ofNat 24 16) = true ∧ (upd 6).updState = 6) ∧
    ((loading 509 0 []).admitsPut jtag UPD_DL_DATA 0x123456 = true ∧ (loading 509 0 []).upd.dl = some { exp := 509, head := [], erased := 0 } ∧ (loading 509 0 []).durable = (loading 509 0 []).rdPair UPD_DL_ADDR_LO UPD_DL_ADDR_HI ∧ (loading 512 0 []).durable = 512 ∧ (512 : Nat) + 3 < ({ exp := 512 } : DlSt).length ∧ ((512 : Nat) + 2) / 4096 ≤ 0) ∧
    ((upd 6).admitsPut stw13 UPD_CONFIRM 0x3CC3A5 = true ∧ (13 : Nat) ≤ stw13.port ∧ jtag.port < 13) ∧
    (({ (upd 6) with upd := { (upd 6).upd with confirming := true } }).upd.confirming = true ∧ ((upd 6).upd.bootRec.map (·.seq)) = some 7) ∧
    ((upd 6).getF UPD_REMAIN UPD_REMAIN_SEC = 0 ∧ (upd 6).upd.confirming = false ∧ ({ (upd 6) with flt := { (upd 6).flt with top := 4 } }).flt.top = 4 ∧ ((upd 6).setF UPD_CTL UPD_CTL_FB_T3 1).flag UPD_CTL UPD_CTL_FB_T3 = true ∧ ((upd 6).modTile 7 fun t => { t with lost := true }).tileDown 7 = true ∧ (upd 6).fallbackDue = none) ∧
    ((upd 7).updState = 7) := by decide +kernel

def stw5 : Arr := ⟨18, 400⟩
def tagged (n : Nat) : State := booted.modTile 7 fun t => { t with tags := (List.range n).map fun k => ⟨127, 9 + k, true, false, 3, 77, 400, 2, 0x0000000001000000⟩ }
def draining (sz : List Nat) (l : List Word) (h : Nat) : State :=
  (booted.setF (PRF_CEN_HEAD 7) PRF_CEN_HEAD_VALUE h).modTile 7 fun t => { t with cen := { buf := [(3, 5), (16383, 6)], sizes := sz, drain := some l } }
def tracing : State :=
  (List.range 8).foldl (fun (s : State) m => (((s.setF (TRC_STAT m) TRC_STAT_ARMED (if m = 3 then 0 else 1)).setF (TRC_STAT m) TRC_STAT_TRIGGERED (if m = 4 then 1 else 0)).setF (TRC_CTL m) TRC_CTL_XIN (if m = 5 then 0 else 1)).modTile m fun t =>
    { t with lost := m == 6, trace := { rows := [[BitVec.ofNat 24 m]], send := m == 7, after := if m = 4 then some 2 else none } }) booted
def sumL (l : List Nat) : Nat := l.foldl (· + ·) 0
def openSession : State := booted.setF DBG_CTL DBG_CTL_SESSION 1

theorem witness_TaggingCensusTrace :
    (booted.admitsPut jtag (PRF_TAG_CTL 7) 0xFFFF05 = true ∧ booted.legalWord (PRF_TAG_CTL 7) 0xFFFF05 = true) ∧
    ((tagged 2).admits (jtag.access (tagged 2) false [((PRF_TAG_POP 7).addr, 0)]) = true ∧ ((tagged 2).tile 7).tags.length = 2 ∧ ((tagged 0).tile 7).tags = []) ∧
    (((draining [5, 6] [1, 2] 16383).tile 7).cen.drain = some [1, 2] ∧ sumL [5, 6] + 2 ≤ 16384 ∧ 16384 < sumL [16383, 1] + 2 ∧ sumL [1] + 2 ≤ 16384 ∧ (booted.tile 7).cen.drain = none) ∧
    (tracing.admitsField jtag (TRC_CTL 7) TRC_CTL_ARM 1 = true ∧ TRC_CTL_FORCE.get (tracing.heldWord (TRC_CTL 7)) = 0 ∧ tracing.admitsPut jtag (TRC_CTL 7) (TRC_CTL_FORCE.put (TRC_CTL_ARM.put (tracing.heldWord (TRC_CTL 7)) 0) 1) = true ∧ tracing.traceWaits 7 = true ∧ booted.traceWaits 7 = false) ∧
    ((tracing.tile 7).trace.send = true ∧ (tracing.tile 6).trace.send = false ∧ tracing.flag (TRC_CTL 0) TRC_CTL_XIN = true ∧ tracing.traceWaits 0 = true ∧ tracing.tileRuns 0 = true ∧ ¬ (tracing.flag (TRC_CTL 5) TRC_CTL_XIN = true ∧ tracing.traceWaits 5 = true ∧ tracing.tileRuns 5 = true)) ∧
    (booted.admitsPut jtag DBG_CTL (BitVec.ofNat 24 (b2n true)) = true ∧ booted.flag DBG_CTL DBG_CTL_SESSION = false ∧ jtag.port = 12 ∧ stw5.port ≠ 12) := by decide +kernel

/-- Lane 127 and the steward of tile 7 with registers, at bundle 9, running or not, halted or not. -/
def debugged (run hal : Bool) : State :=
  ((openSession.setCore 127 { running := run, halted := hal, r := regs0, pc := 9 }).setCore 135 { running := run, halted := hal, r := regs0, pc := 9 }).setF (STG_STAT 127) STG_STAT_STATE 1
def unrighted : State := (debugged true false).wr (RGT_PORT 12) 0x1F
def liveHere : State := (debugged true false).wr (RGT_PORT 12) 0x3F
def window (sp u a : Nat) (h : Bool) (r : Nat) : State := ((((debugged true h).wr (RGT_PORT 12) (BitVec.ofNat 24 r)).setF DBG_MEM_SEL DBG_MEM_SEL_SPACE sp).setF DBG_MEM_SEL DBG_MEM_SEL_UNIT u).setF DBG_MEM_ADDR DBG_MEM_ADDR_ADDR a

theorem witness_HaltsAndDebugMemory :
    (liveHere.admitsField jtag (DBG_SCTL 7) DBG_SCTL_HALT 1 = true ∧ liveHere.heldWord (DBG_SCTL 7) = 0 ∧ (liveHere.core 135).halted = false ∧ liveHere.admitsField jtag (DBG_LCTL 127) DBG_LCTL_HALT 1 = true ∧ liveHere.heldWord (DBG_LCTL 127) &&& 0xF = 0 ∧ liveHere.portRights 12 / 32 % 2 = 1) ∧
    (unrighted.portRights 12 / 32 % 2 ≠ 1 ∧ unrighted.pstate 127 ≠ 0 ∧ unrighted.admitsField jtag (DBG_LCTL 127) DBG_LCTL_HARD 1 = true ∧ unrighted.admitsField jtag (DBG_LCTL 127) DBG_LCTL_STEP 1 = true) ∧
    (((liveHere.setF (DBG_SBP 7 3) DBG_SBP_EN 1).setF (DBG_SBP 7 3) DBG_SBP_ADDR 9).getF (DBG_SBP 7 3) DBG_SBP_ADDR = (liveHere.core 135).pc ∧ ((liveHere.setF (DBG_LCTL 127) DBG_LCTL_BP_EN 1).setF (DBG_LCTL 127) DBG_LCTL_BP_ADDR 9).getF (DBG_LCTL 127) DBG_LCTL_BP_ADDR = (liveHere.core 127).pc ∧ (liveHere.core 127).running = true ∧ (liveHere.core 127).snap = none) ∧
    ((debugged true true).admitsField jtag (DBG_SCTL 7) DBG_SCTL_STEP 1 = true ∧ (debugged true true).heldWord (DBG_SCTL 7) = 0 ∧ decodeBundle 135 400 ((debugged true true).bundle 135 ((debugged true true).bankOf 135) 9) = some (.nop ⟨135, false, 0, 400, 0, false, false⟩, .nop ⟨135, true, 0, 400, 0, false, false⟩) ∧ ((debugged true true).core 135).mpuAllows 0 9 false true = true ∧ decodeBundle 127 400 ((debugged true true).bundle 127 ((debugged true true).bankOf 127) 9) = some (.nop ⟨127, false, 0, 400, 0, false, false⟩, .nop ⟨127, true, 0, 400, 0, false, false⟩)) ∧
    ((debugged true false).core 135 = (debugged true false).core 135) ∧
    (((debugged true true).wr (RGT_PORT 12) 0x3F).admitsField jtag (DBG_SCTL 7) DBG_SCTL_RESUME 1 = true ∧ ((debugged true true).core 127).halted = true ∧ (debugged true true).flag (DBG_LCTL 127) DBG_LCTL_BP_EN = false) ∧
    ((window 0 127 65535 true 0x3F).admitsPut jtag DBG_MEM_DATA0 5 = true) ∧
    ((window 0 127 65535 true 0x3F).admits (jtag.access (window 0 127 65535 true 0x3F) false [(DBG_MEM_DATA0.addr, 0)]) = true) := by decide +kernel

def wideSet : State := { State.reset with wide := [((LAN_PGM_DATA0 127).addr, some 0xABCDEF), ((LAN_PGM_DATA1 127).addr, some 0x123456)] }

theorem witness_BundleLayout :
    (wideSet.admitsPut jtag (LAN_PGM_DATA2 127) 0xFFFFFF = true ∧ wideSet.windowShut 127 = false ∧ Tab.get none wideSet.wide (LAN_PGM_DATA0 127).addr = some 0xABCDEF ∧ Tab.get none wideSet.wide (LAN_PGM_DATA1 127).addr = some 0x123456) := by decide +kernel


/-! ### Worked examples of the spec -/

/-- The words of the examples in the chapters of the Gwyn-24 registers and of the port and sequence instructions. -/
theorem test_example_words :
    decodeWord (at0 5) 0x00083120 = some (.adds (at0 5) 3 1 2) ∧ decodeWord (at1 5) 0x1400400C = some (.loop (at1 5) none 32 12) ∧
    decodeWord (at1 5) 0x1A400000 = some (.tickend (at1 5)) ∧ decodeWord (at0 5) 0x186C0000 = some (.out (at0 5) 11 0) ∧
    decodeWord (at0 5) 0x18C48000 = some (.xchr (at0 5) 1 32 false false 0) := by decide +kernel

/-- The five bundles of R94's example, with a TICKEND after them: 11 cycles, then 1. -/
def fiveWords : List (BitVec 64) :=
  [0x000C08900C850000, 0x0000000001010100, 0x0000000001050230, 0x0000000001284008, 0x000000000C518001, 0x1A40000000000000]
theorem test_cost_five : (decodeBank 33 (fun k => fiveWords.getD k 0) 6).map (fun p => checkProgram p 526) = some (0, 12) := by decide +kernel

/-- The worked inner current loop: 47 cycles. -/
def innerWords : List (BitVec 64) :=
  [0x0A00040018000000, 0x0870999A18C48000, 0x0970007919580400, 0x20A0810018800001, 0x0000000000104800, 0x0000000019080000,
   0x00000000190C0001, 0x01115348010D9248, 0x0008A96000345570, 0x000000000008BA50, 0x1A400000186C0000]
theorem test_cost_inner : (decodeBank 33 (fun k => innerWords.getD k 0) 11).map (fun p => checkProgram p 526) = some (0, 47) := by decide +kernel

/-- The worked outer voltage loop before the inner loop: 116 cycles. -/
def outerWords : List (BitVec 64) :=
  [0x00B0C40018380400, 0x042CC0030A100010, 0x0491C0000C288000, 0x9000000C08D00000, 0x1400180300000000, 0x0000000018F28201,
   0x00000000045CC004, 0x000000000008DDC0, 0x0010EAE018B40002, 0x0870555519080002, 0x09700001190C0003, 0x0111F3E8010D92E8,
   0x000000000008B9F0, 0x00000000010DB7B8, 0x0000000018AC0000]
theorem test_cost_outer : (decodeBank 32 (fun k => (outerWords ++ innerWords).getD k 0) 26).map (fun p => checkProgram p 526) = some (0, 116) := by
  decide +kernel

/-- The budgets of R36's table and of its examples. -/
theorem test_budgets : [3200, 4000, 6400, 2000, 80000].map budgetOf = [1654, 2406, 4662, 526, 0] := by decide

/-- R98's example: 0.75 × 2.5 in GU, then SATW and WRW. -/
def kp5 : State := lane5.setCore 5 { running := true, r := (({} : CoreRegs).setD 0 0x028000).setD 1 0x600000 }
def kpA : State := lane5.setCore 5 { running := true, r := ({} : CoreRegs).setA 0 0x00780000000000 }
theorem test_example_mpy : ((after (.mpy (at0 5) 0 1 0 .gu) kp5).core 5).r.getA 0 = 0x00780000000000 := by decide +kernel
theorem test_example_satw : ((after (.satw (at0 5) 2 0 .halfEven) kpA).core 5).r.getD 2 = 0x7FFFFF ∧
    ((after (.satw (at0 5) 2 0 .halfEven) kpA).core 5).r.c0 = 0x88 ∧ ((after (.satw (at0 5) 2 0 .halfEven) kpA).core 5).r.c7 = 1 := by decide +kernel
theorem test_example_wrw : ((after (.wrw (at0 5) 2 0 .halfEven) kpA).core 5).r.getD 2 = 0xF00000 ∧
    C0_V.on ((after (.wrw (at0 5) 2 0 .halfEven) kpA).core 5).r.c0 = true := by decide +kernel
/-- R99's example: Kp in two bundles. -/
theorem test_example_movl : ((after (.movl (at0 5) 1 0x8000) kp5).core 5).r.getD 1 = 0xFF8000 ∧
    ((after (.movh (at0 5) 1 0x02) (after (.movl (at1 5) 1 0x8000) kp5)).core 5).r.getD 1 = 0x028000 := by decide +kernel

/-- The addresses of the examples of R3 and of the gazetteer's chapter, and a source number (R346). -/
theorem test_addresses : (STG_CTL 37).addr = 0x31500 ∧ (ENV_SLOW 45).addr = 0x31D83 ∧ (DBG_LCTL 33).addr = 0x33110 ∧ portSrc 37 STG_CLIP_I = 1394 := by
  decide

/-- READ_VOUT and READ_IOUT of the PMBus example, and its PEC. -/
theorem test_pmbus : lin16 (0x600000 * 72000) (1000 * 2 ^ 23) 0x17 = 0x6C00 ∧ lin11 (0x400000 * 60000) (1000 * 2 ^ 23) = 0xDBC0 ∧
    crc8 [0x80, 0x8C, 0x81, 0xC0, 0xDB] = 0xCC := by decide

/-- The trip curve's example, in ticks of 4,000 lane cycles: at 92 A 100 ms, at 77.5 A 10.22 s, at 93 A 97.9 ms. -/
def tripCurve : List (Int × Nat) := [(0x547AE1, 0x989680), (0x59999A, 0x3D0900), (0x600000, 0x16E360), (0x666666, 0x0927C0),
  (0x6CCCCD, 0x030D40), (0x70A3D7, 0x013880), (0x733333, 0x007530), (0x75C28F, 0x002710)]
theorem test_trip_curve : 2 ^ 40 / accumulate 0 4000 4 0x75C28F tripCurve 0 = 20000 ∧ 2 ^ 40 / accumulate 0 4000 4 0x633333 tripCurve 0 / 1000 = 2044 ∧
    2 ^ 40 / accumulate 0 4000 4 0x770A3D tripCurve 0 = 19572 := by decide +kernel

/-- The stagger steps of R196's example. -/
theorem test_stagger : ((State.reset.setF FUS_STG_ADDR FUS_STG_ADDR_VALID 1).setF FUS_STG_ADDR FUS_STG_ADDR_ADDR 1000).stagger.1 = 232 ∧
    (State.reset.setF BOOT_STRAP BOOT_STRAP_STAGGER 6).stagger.1 = 102 := by decide +kernel

/-- The ride-through times of the hold-up example: before the failure, and on the strings alone. -/
theorem test_ride_through : rideTime (30000 * 2 ^ 24) 700000 81000000 24000 = 116666 ∧ rideTime (24000 * 2 ^ 24) 300000 80998400 24000 = 3374945833 ∧
    rideTime (30000 * 2 ^ 24) 640000 80000000 24000 = 106666 := by decide +kernel

/-- The ageing example: the derate factor and the forecast. -/
theorem test_ageing : isqrt (2 ^ 62 / 102400) = 0x666666 ∧
    ({ ratio := 102400, hist := [(102400, 604800), (101848, 0)] } : AgeQ).forecast 147456 604800 false = 13712 := by decide +kernel

/-- The scheduled gain of R161's example: 3.0 at 0.375, between 4.0 at 0.25 and 2.0 at 0.5. -/
theorem test_schedule : sched 0x300000 [(0x200000, 0x040000), (0x400000, 0x020000)] = 0x030000 := by decide +kernel

/-- The handover example: the integrator halved, and doubled back. -/
theorem test_handover : (⟨2, 0x010, 0x020, 0x008000⟩ : HandMove).value (fun _ => 0x0A3D71) = 0x051EB8 ∧
    (⟨2, 0x020, 0x010, 0x020000⟩ : HandMove).value (fun _ => 0x051EB8) = 0x0A3D70 := by decide +kernel

/-! ### Witnesses for the statements over every operand, and for the invariant -/

theorem witness_ImmediateResults : (at1 130).wf = true ∧ stw2.issues (at1 130) = true ∧ stw2.legal (.paddi (at1 130) 7 15 0x800) (at1 130) = true := by decide +kernel
theorem witness_AccumulatorResults : (⟨5, true, 2, 65535, 7, false, false⟩ : Issue).wf = true ∧ lane5.issues ⟨5, true, 2, 65535, 7, false, false⟩ = true ∧
    lane5.legal (.mpy ⟨5, true, 2, 65535, 7, false, false⟩ 3 15 15 .ii) ⟨5, true, 2, 65535, 7, false, false⟩ = true := by decide +kernel
theorem witness_RoundedResults : (at1 5).wf = true ∧ locked5.issues (at1 5) = true ∧ locked5.legal (.satw (at1 5) 15 3 .halfEven) (at1 5) = true := by decide +kernel
theorem witness_MoveResults : (at0 130).wf = true ∧ user2.issues (at0 130) = true ∧ user2.legal (.movh (at0 130) 15 0xFF) (at0 130) = true := by decide +kernel
theorem witness_ArithmeticMeaning : (31 : Nat) < 32 ∧ (aluAbs 0x800000).v = 0x800000 ∧ (aluLsls 0x800001 31).v = 0x800000 := by decide +kernel
theorem witness_TableInterpolation : (31 : Nat) < 32 ∧ (262143 : Nat) < 2 ^ 18 ∧
    tbl (fun k => BitVec.ofNat 24 k) (BitVec.ofNat 24 (31 * 2 ^ 18)) 65535 false = 30 := by decide +kernel

/-- A block whose front command programs a key word: the step answers a next state, whose OTP holds it. -/
theorem witness_EveryStepKeepsOtp :
    (match step { booted with pending := [.keyProgram jtag 0x00A5A5] } with
      | .next t => decide (Tab.get 0 t.otp.keys 0 = 0x00A5A5 ∧ t.pending = []) | _ => false) = true := by decide +kernel

/-- The check values of FIPS 180-4 for the message "abc", and of CRC-32C for "123456789". -/
theorem test_sha384 : sha384 [0x61, 0x62, 0x63] =
    0xcb00753f45a35e8bb5a03d699ac65007272c32ab0eded1631a8b605a43ff5bed8086072ba1e7cc2358baeca134c825a7 := by decide +kernel
theorem test_crc32c : crc32c [0x31, 0x32, 0x33, 0x34, 0x35, 0x36, 0x37, 0x38, 0x39] = 0xE3069283 := by decide +kernel

/-! ### A full troupe -/

/-- An address that no path of the map has lies beyond those that all are taken (R236, R267). -/
theorem freeAddr_beyond {m : List MapEnt} {n a : Nat} (h : ∀ x, 1 ≤ x → x ≤ n → ∃ e ∈ m, e.addr = x) (ha : freeAddr m = some a) : n < a := by
  simp only [freeAddr] at ha
  have hp := List.find?_some ha
  have hm := List.mem_of_find?_eq_some ha
  obtain ⟨k, -, rfl⟩ := List.mem_map.1 hm
  rcases Nat.lt_or_ge n (k + 1) with hk | hk
  · exact hk
  · obtain ⟨e, he, hx⟩ := h (k + 1) (Nat.succ_pos k) hk
    have : (m.any fun e => e.addr == k + 1) = true := List.any_eq_true.2 ⟨e, he, by simp [hx]⟩
    simp [this] at hp

/-- A state with the addresses 1 to `n` taken. -/
def crowded (s : State) (n : Nat) : State := { s with trp := { s.trp with map := (List.range n).map fun k => ⟨[k], 0, k + 1, 0, 1, true, true⟩, route := [(9, some 2)] } }
theorem crowded_full (s : State) (n : Nat) (hn : 16383 ≤ n) : ((crowded s n).assign [1, 1] 8).2 = none := by
  have hpath : (crowded s n).trp.map.find? (fun m => m.path == [1, 1]) = none := by
    rw [List.find?_eq_none]
    intro e he
    obtain ⟨k, -, rfl⟩ := List.mem_map.1 he
    simp
  have htaken : ∀ x, 1 ≤ x → x ≤ n → ∃ e ∈ (crowded s n).trp.map, e.addr = x := by
    intro x h1 h2
    exact ⟨_, List.mem_map.2 ⟨x - 1, List.mem_range.2 (by omega), rfl⟩, by simp; omega⟩
  simp only [State.assign, hpath]
  split
  · rename_i a ha
    rw [if_neg (Nat.not_le.2 (Nat.lt_of_le_of_lt hn (freeAddr_beyond htaken ha)))]
  · rfl
theorem crowded_ring (s : State) (n : Nat) : (crowded s n).isRing = s.isRing ∧ (crowded s n).routeTo 9 = (if s.linkUp 2 then some 2 else none) ∧ (crowded s n).link 2 = s.link 2 := ⟨rfl, rfl, rfl⟩
theorem crowded_witness (s : State) (hr : s.isRing = true) (hu : s.linkUp 2 = true) (hl : (s.link 2).ctl.length < 32) :
    ∃ s : State, s.isRing = true ∧ (s.assign [1, 1] 8).2 = none ∧ s.routeTo 9 = some 2 ∧ (s.link 2).ctl.length < 32 :=
  have h := crowded_ring s 16383
  ⟨_, h.1.trans hr, crowded_full s 16383 (Nat.le_refl _), h.2.1.trans (by rw [hu]; rfl), h.2.2.symm ▸ hl⟩
theorem witness_SurveyRules_full : ∃ s : State, s.isRing = true ∧ (s.assign [1, 1] 8).2 = none ∧ s.routeTo 9 = some 2 ∧ (s.link 2).ctl.length < 32 :=
  crowded_witness ring (by decide +kernel) (by decide +kernel) (by decide +kernel)

end Sys2Proof.Tests
end

/-! # What leaves the OTP alone (R9)

The one-time-programmable memory is a field of the state that only a few writes reach. For every operation of the model
that returns a state there is one lemma here: the OTP after it is the OTP before it, in the order of the model's files. -/

namespace Sys2Proof.Machine

/-- A loop leaves the OTP alone where every round does. -/
theorem otp_forEach (n : Nat) (f : Nat → State → State) (s : State) (h : ∀ k t, (f k t).otp = t.otp) :
    (forEach n f s).otp = s.otp :=
  forEach_keeps (fun t => t.otp = s.otp) n f (fun k t e => (h k t).trans e) s rfl

/-- From `s` to `t` the OTP stays as it is. -/
def OtpKept (s t : State) : Prop := t.otp = s.otp

/-- The same loop, for a round that the kernel would otherwise evaluate to compare its OTP with that of the round's body. -/
theorem OtpKept.loop {n : Nat} {f : Nat → State → State} (h : ∀ k t, OtpKept t (f k t)) (s : State) : (forEach n f s).otp = s.otp :=
  otp_forEach n f s h

theorem otp_forList {α : Type} (l : List α) (f : α → State → State) (s : State) (h : ∀ x t, (f x t).otp = t.otp) :
    (forList l f s).otp = s.otp :=
  forList_keeps (fun t => t.otp = s.otp) l f (fun x t e => (h x t).trans e) s rfl

theorem otp_foldl {α : Type} (l : List α) (f : State → α → State) (s : State) (h : ∀ t x, (f t x).otp = t.otp) :
    (l.foldl f s).otp = s.otp :=
  List.foldlRecOn (motive := fun t => t.otp = s.otp) l f rfl fun t e x _ => (h t x).trans e

theorem otp_ite (c : Prop) [Decidable c] (a b : State) : (if c then a else b).otp = if c then a.otp else b.otp := apply_ite ..

theorem otp_fst_ite {α : Type} (c : Prop) [Decidable c] (a b : State × α) :
    (if c then a else b).1.otp = if c then a.1.otp else b.1.otp := by split <;> rfl

theorem otp_snd_ite {α : Type} (c : Prop) [Decidable c] (a b : α × State) :
    (if c then a else b).2.otp = if c then a.2.otp else b.2.otp := by split <;> rfl

namespace State

variable (s : State)

/-! The updates of the state. `otp_wr` and its like in Laws/State are proved by `rfl`, and a `simp` that uses them leaves the kernel
to compare two states field by field; these say the same through an equation. -/

theorem otp_wr' (l : Loc) (w : Word) : (s.wr l w).otp = s.otp := by rw [otp_wr]
theorem otp_setPort' (p : Nat) (x : PortSt) : (s.setPort p x).otp = s.otp := by rw [otp_setPort]
theorem otp_setCore' (c : Nat) (x : Core) : (s.setCore c x).otp = s.otp := by rw [otp_setCore]
theorem otp_setTile' (n : Nat) (x : TileSt) : (s.setTile n x).otp = s.otp := by rw [otp_setTile]
theorem otp_setFuse' (p : Nat) (x : FuseSt) : (s.setFuse p x).otp = s.otp := by rw [otp_setFuse]
theorem otp_setRail' (r : Nat) (x : RailSt) : (s.setRail r x).otp = s.otp := by rw [otp_setRail]
theorem otp_setStr' (u : Nat) (x : StringSt) : (s.setStr u x).otp = s.otp := by rw [otp_setStr]
theorem otp_setLink' (l : Nat) (x : LinkSt) : (s.setLink l x).otp = s.otp := by rw [otp_setLink]

/-! ### Ops -/

theorem otp_setF (l : Loc) (f : Fld) (v : Nat) : (s.setF l f v).otp = s.otp := by simp only [setF, otp_wr']
theorem otp_rst (l : Loc) : (s.rst l).otp = s.otp := by simp only [rst, otp_wr']
theorem otp_bump (l : Loc) : (s.bump l).otp = s.otp := by simp only [bump, otp_wr']
theorem otp_wrPair (lo hi : Loc) (n : Nat) : (s.wrPair lo hi n).otp = s.otp := by simp only [wrPair, otp_wr']
theorem otp_modPort (p : Nat) (f : PortSt → PortSt) : (s.modPort p f).otp = s.otp := by simp only [modPort, otp_setPort']
theorem otp_modCore (c : Nat) (f : Core → Core) : (s.modCore c f).otp = s.otp := by simp only [modCore, otp_setCore']
theorem otp_modTile (n : Nat) (f : TileSt → TileSt) : (s.modTile n f).otp = s.otp := by simp only [modTile, otp_setTile']
theorem otp_modFuse (p : Nat) (f : FuseSt → FuseSt) : (s.modFuse p f).otp = s.otp := by simp only [modFuse, otp_setFuse']
theorem otp_modRail (r : Nat) (f : RailSt → RailSt) : (s.modRail r f).otp = s.otp := by simp only [modRail, otp_setRail']
theorem otp_modStr (u : Nat) (f : StringSt → StringSt) : (s.modStr u f).otp = s.otp := by simp only [modStr, otp_setStr']
theorem otp_modLink (l : Nat) (f : LinkSt → LinkSt) : (s.modLink l f).otp = s.otp := by simp only [modLink, otp_setLink']
theorem otp_countReg (sel lo hi : Loc) (e n : Nat) : (s.countReg sel lo hi e n).otp = s.otp := by
  simp only [countReg, otp_setF, otp_wrPair, otp_ite, ite_self]
theorem otp_countT (t b e n : Nat) : (s.countT t b e n).otp = s.otp := by
  simp only [countT, otp_forEach, otp_countReg, otp_ite, ite_self, implies_true]
theorem otp_countP (b e n : Nat) : (s.countP b e n).otp = s.otp := by simp only [countP, otp_forEach, otp_countReg, otp_ite, ite_self, implies_true]
theorem otp_countCore (l e n : Nat) : (s.countCore l e n).otp = s.otp := by simp only [countCore, otp_countT, otp_ite, ite_self]
theorem otp_countPort (p e n : Nat) : (s.countPort p e n).otp = s.otp := by simp only [countPort, otp_countT]
theorem otp_countFault (src e : Nat) : (s.countFault src e).otp = s.otp := by simp only [countFault, otp_countT, otp_ite, ite_self]
theorem otp_traceCap (t : Nat) (kinds : List Nat) (unit : Nat) (first : Bool) (v : Nat → Nat → Word) :
    (s.traceCap t kinds unit first v).otp = s.otp := by
  simp only [traceCap, otp_forEach, otp_modTile, otp_ite, ite_self, implies_true]
theorem otp_takeBool : s.takeBool.2.otp = s.otp := by simp only [takeBool]
theorem otp_takeWord : s.takeWord.2.otp = s.otp := by simp only [takeWord]
theorem otp_takeNat : s.takeNat.2.otp = s.otp := by simp only [takeNat]
theorem otp_wrOpen (l : Loc) (v : Int) : (s.wrOpen l v).otp = s.otp := by simp only [wrOpen, otp_takeWord, otp_wr', otp_ite, ite_self]
theorem otp_raise (src arg cyc : Nat) : (s.raise src arg cyc).otp = s.otp := by simp only [raise, otp_setF, otp_countFault]
theorem otp_raiseIn (k src arg stamp : Nat) : (s.raiseIn k src arg stamp).otp = s.otp := by simp only [raiseIn, otp_setF, otp_countFault]
theorem otp_raisePrev (src arg stamp : Nat) : (s.raisePrev src arg stamp).otp = s.otp := by simp only [raisePrev, otp_raiseIn]
theorem otp_raiseAtS (src arg : Nat) : (s.raiseAtS src arg).otp = s.otp := by simp only [raiseAtS, otp_raiseIn]
theorem otp_irq (n k : Nat) : (s.irq n k).otp = s.otp := by simp only [irq, otp_modCore]
theorem otp_suppress (type code : Nat) : (s.suppress type code).otp = s.otp := by simp only [suppress, otp_bump, otp_countP]
theorem otp_flushStart : s.flushStart.otp = s.otp := by simp only [flushStart, otp_setF, otp_ite, ite_self]
theorem otp_store (r : Rec) : (s.store r).otp = s.otp := by
  simp only [store, otp_flushStart, otp_countP, otp_suppress, otp_setF, otp_raise, otp_ite, ite_self]
theorem otp_buffer (r : Rec) : (s.buffer r).otp = s.otp := by simp only [buffer, otp_suppress, otp_store, otp_ite, ite_self]
theorem otp_recordAt (count code arg d0 d1 : Nat) : (s.recordAt count code arg d0 d1).otp = s.otp := by simp only [recordAt]
theorem otp_enterRecords : s.enterRecords.otp = s.otp := by simp only [enterRecords, otp_forList, otp_buffer, implies_true]
theorem otp_recordNow (code arg d0 d1 : Nat) : (s.recordNow code arg d0 d1).otp = s.otp := by simp only [recordNow, otp_enterRecords, otp_buffer]
theorem otp_record (code arg d0 d1 : Nat) : (s.record code arg d0 d1).otp = s.otp := by simp only [record, otp_recordAt]
theorem otp_enterSafe (p cause : Nat) : (s.enterSafe p cause).otp = s.otp := by simp only [enterSafe, otp_setF, otp_modPort, otp_ite, ite_self]
theorem otp_enterSafeOn (p cause : Nat) : (s.enterSafeOn p cause).otp = s.otp := by simp only [enterSafeOn, otp_enterSafe, otp_ite, ite_self]
theorem otp_tileSafe (n cause : Nat) : (s.tileSafe n cause).otp = s.otp := by simp only [tileSafe, otp_forEach, otp_enterSafe, implies_true]
theorem otp_allSafe (cause : Nat) : (s.allSafe cause).otp = s.otp := by simp only [allSafe, otp_forEach, otp_enterSafe, implies_true]

/-! ### Generator -/

theorem otp_genBegin (p : Nat) (at_ : Int) (len ofs : Nat) : (s.genBegin p at_ len ofs).otp = s.otp := by simp only [genBegin, otp_modPort]
theorem otp_genTick (p : Nat) : (s.genTick p).otp = s.otp := by simp only [genTick, otp_genBegin, otp_modPort, otp_ite, ite_self]
theorem otp_genEdge (p : Nat) (pos : Int) (gap : Nat) : (s.genEdge p pos gap).otp = s.otp := by
  simp only [genEdge, otp_genBegin, otp_modPort, otp_ite, ite_self]

/-! ### Envelope -/

theorem otp_envTake (p off : Nat) (w : Word) (cyc : Nat) : (s.envTake p off w cyc).otp = s.otp := by
  unfold envTake; split <;> simp only [otp_modPort, otp_wr', otp_setF, otp_ite, ite_self]
theorem otp_envSettle (p cyc : Nat) : (s.envSettle p cyc).otp = s.otp := by
  simp only [envSettle, otp_forList, otp_modPort, otp_envTake, otp_ite, ite_self, implies_true]
theorem otp_writeEnv (p off : Nat) (w : Word) (cyc : Nat) : (s.writeEnv p off w cyc).otp = s.otp := by
  simp only [writeEnv, otp_raise, otp_envTake, otp_envSettle, otp_ite, ite_self]
theorem otp_envtIssue (p field : Nat) (w : Word) (cyc : Nat) : (s.envtIssue p field w cyc).otp = s.otp := by
  simp only [envtIssue, otp_raise, otp_modPort, otp_envSettle, otp_ite, ite_self]
theorem otp_outIssue (p tgt : Nat) (ref w : Word) (cyc : Nat) : (s.outIssue p tgt ref w cyc).1.otp = s.otp := by
  simp only [outIssue, otp_countCore, otp_modPort, otp_raise, otp_envSettle, otp_ite, otp_fst_ite, ite_self]
theorem otp_outJudge (p tgt : Nat) (ref w : Word) (cyc : Nat) : (s.outJudge p tgt ref w cyc).1.otp = s.otp := by
  simp only [outJudge, otp_envSettle, otp_fst_ite, ite_self]

/-! ### Operands -/

theorem otp_modRegs (c : Nat) (f : CoreRegs → CoreRegs) : (s.modRegs c f).otp = s.otp := by simp only [modRegs, otp_modCore]
theorem otp_undoBundle (k : Nat) : (s.undoBundle k).otp = s.otp := by
  simp only [undoBundle, otp_setCore', otp_modTile, otp_ite, ite_self]; split <;> rfl
theorem otp_precise (k cause cyc : Nat) : (s.precise k cause cyc).otp = s.otp := by
  simp only [precise, otp_raise, otp_setCore', otp_undoBundle, otp_ite, ite_self]
theorem otp_mpuRefuse (k a cyc : Nat) : (s.mpuRefuse k a cyc).otp = s.otp := by simp only [mpuRefuse, otp_raise, otp_precise, otp_modCore]
theorem otp_closeSlot (i : Issue) : (s.closeSlot i).otp = s.otp := by
  simp only [closeSlot, otp_enterSafeOn, otp_modCore, otp_precise, otp_ite, ite_self]
theorem otp_tagBundle (i : Issue) : (s.tagBundle i).otp = s.otp := by simp only [tagBundle, otp_setCore']
theorem otp_bundleStart (i : Issue) : (s.bundleStart i).otp = s.otp := by
  simp only [bundleStart, otp_tagBundle, otp_modCore, otp_countT, otp_countCore, otp_ite, ite_self]
theorem otp_slotCharge (i : Issue) (nop on : Bool) : (s.slotCharge i nop on).otp = s.otp := by
  simp only [slotCharge, otp_modCore, otp_countCore, otp_ite, ite_self]
theorem otp_tagEnd (i : Issue) : (s.tagEnd i).otp = s.otp := by
  unfold tagEnd; split <;> simp only [otp_bump, otp_raise, otp_modTile, otp_modCore, otp_ite, ite_self]
theorem otp_corrected (ce : Bool) (k cyc : Nat) : (s.corrected ce k cyc).otp = s.otp := by
  simp only [corrected, otp_countCore, otp_raise, otp_ite, ite_self]
theorem otp_issueAny (x : Instr) (i : Issue) (body : CoreRegs → State → State) (hbody : ∀ y0 y1,
    (body y0 y1).otp = y1.otp) : (issueAny x i s body).otp = s.otp := by
  simp only [issueAny, hbody, otp_tagEnd, otp_closeSlot, otp_slotCharge, otp_setCore', otp_corrected, otp_bundleStart, otp_precise, otp_mpuRefuse,
    otp_ite, ite_self]
theorem otp_issue (x : Instr) (i : Issue) (body : CoreRegs → State → State) (hbody : ∀ y0 y1,
    (body y0 y1).otp = y1.otp) : (issue x i s body).otp = s.otp := by
  simp only [issue, hbody, otp_modCore, otp_issueAny, otp_precise, otp_ite, ite_self, implies_true]
theorem otp_issueOutside (x : Instr) (i : Issue) (body : CoreRegs → State → State) (hbody : ∀ y0 y1,
    (body y0 y1).otp = y1.otp) : (issueOutside x i s body).otp = s.otp := by
  simp only [issueOutside, hbody, otp_precise, otp_issueAny, otp_ite, ite_self, implies_true]
theorem otp_issueRegs (x : Instr) (i : Issue) (f : CoreRegs → CoreRegs → CoreRegs) : (issueRegs x i s f).otp = s.otp := by
  simp only [issueRegs, otp_countCore, otp_modRegs, otp_issue, otp_ite, ite_self, implies_true]
theorem otp_issuePriv (x : Instr) (i : Issue) (body : CoreRegs → State → State) (hbody : ∀ y0 y1,
    (body y0 y1).otp = y1.otp) : (issuePriv x i s body).otp = s.otp := by
  simp only [issuePriv, hbody, otp_precise, otp_modCore, otp_issue, otp_ite, ite_self, implies_true]
theorem otp_issueLane (x : Instr) (i : Issue) (body : CoreRegs → State → State) (hbody : ∀ y0 y1,
    (body y0 y1).otp = y1.otp) : (issueLane x i s body).otp = s.otp := by
  simp only [issueLane, hbody, otp_precise, otp_issue, otp_ite, ite_self, implies_true]
theorem otp_jumpTo (k t : Nat) : (s.jumpTo k t).otp = s.otp := by simp only [jumpTo, otp_modCore]
theorem otp_storeMem (k a : Nat) (w : Word) : (s.storeMem k a w).otp = s.otp := by simp only [storeMem, otp_modCore, otp_ite, ite_self]
theorem otp_issueMem (x : Instr) (i : Issue) (pb : Nat) (m : AMode) (ofs : Int) (space : Nat) (write : Bool)
    (body : CoreRegs → Nat → State → State) (hbody : ∀ y0 y1 y2, (body y0 y1 y2).otp = y2.otp) :
    (issueMem x i s pb m ofs space write body).otp = s.otp := by
  simp only [issueMem, hbody, otp_modRegs, otp_mpuRefuse, otp_issue, otp_ite, ite_self, implies_true]

/-! ### Memory -/

theorem otp_cramPut (n a : Nat) (w : Word) (cyc : Nat) : (s.cramPut n a w cyc).otp = s.otp := by simp only [cramPut, otp_modTile]
theorem otp_gzCount (k : Nat) : (s.gzCount k).otp = s.otp := by simp only [gzCount, otp_countCore]

/-! ### Lanes -/

theorem otp_putBundle (c bank a : Nat) (w : BitVec 64) : (s.putBundle c bank a w).otp = s.otp := by simp only [putBundle]
theorem otp_pgmStore (l : Nat) (w : Word) (cyc : Nat) : (s.pgmStore l w cyc).1.otp = s.otp := by
  simp only [pgmStore, otp_setF, otp_putBundle, otp_raise, otp_fst_ite, ite_self]
theorem otp_loadStart (l : Nat) : (s.loadStart l).otp = s.otp := by simp only [loadStart, otp_setF]
theorem otp_refuseLoad (l cause : Nat) : (s.refuseLoad l cause).otp = s.otp := by simp only [refuseLoad, otp_setF, otp_ite, ite_self]
theorem otp_loadJudge (l : Nat) : (s.loadJudge l).otp = s.otp := by simp only [loadJudge, otp_refuseLoad, otp_setF, otp_ite, ite_self]
theorem otp_activationEnds (err : Nat) : (s.activationEnds err).otp = s.otp := by simp only [activationEnds, otp_raise, otp_setF]
theorem otp_switchRequest (r : SwitchReq) : (s.switchRequest r).otp = s.otp := by simp only [switchRequest, otp_setF]
theorem otp_fallbackSwitch : s.fallbackSwitch.otp = s.otp := by simp only [fallbackSwitch, otp_forEach, otp_switchRequest, otp_setF, implies_true]
theorem otp_switchCancel (lull : Bool) : (s.switchCancel lull).otp = s.otp := by
  unfold switchCancel
  repeat' split
  all_goals simp only [otp_forEach, otp_fallbackSwitch, otp_activationEnds, otp_setF, implies_true]
theorem otp_switchWrite (w : Word) : (s.switchWrite w).1.otp = s.otp := by
  simp only [switchWrite, otp_switchRequest, otp_switchCancel, otp_setF, otp_ite, otp_fst_ite, ite_self]
theorem otp_irqAll (k : Nat) : (s.irqAll k).otp = s.otp := by simp only [irqAll, otp_forEach, otp_irq, otp_ite, ite_self, implies_true]
theorem otp_handover (l : Nat) : (s.handover l).otp = s.otp := by simp only [handover]
theorem otp_handoverLate : s.handoverLate.otp = s.otp := by
  unfold handoverLate; split <;> simp only [otp_forList, otp_handover, otp_ite, ite_self, implies_true]
theorem otp_laneSwitch (l : Nat) : (s.laneSwitch l).otp = s.otp := by simp only [laneSwitch, otp_modCore, otp_setF]
theorem otp_stewardsSwitch : s.stewardsSwitch.otp = s.otp := by simp only [stewardsSwitch, otp_forEach, otp_modCore, otp_ite, ite_self, implies_true]
theorem otp_switchApply (r : SwitchReq) (k : Nat) : (s.switchApply r k).otp = s.otp := by
  simp only [switchApply, otp_forList, otp_recordAt, otp_irqAll, otp_setF, otp_stewardsSwitch, otp_laneSwitch, otp_ite, ite_self, implies_true]
theorem otp_laneStop (l : Nat) : (s.laneStop l).otp = s.otp := by simp only [laneStop, otp_modPort, otp_modCore, otp_countCore, otp_ite, ite_self]
theorem otp_overrunCheck (l : Nat) : (s.overrunCheck l).otp = s.otp := by
  simp only [overrunCheck, otp_setF, otp_enterSafe, otp_modCore, otp_bump, otp_wr', otp_laneStop, otp_raise, otp_ite, ite_self]

/-! ### Meridian -/

theorem otp_setLock (k st : Nat) : (s.setLock k st).otp = s.otp := by simp only [setLock, otp_setF, otp_recordAt, otp_ite, ite_self]
theorem otp_refEdge (gap : Nat) (err : Int) : (s.refEdge gap err).otp = s.otp := by
  unfold refEdge; split <;> simp only [otp_setLock, otp_ite, ite_self]
theorem otp_syncLock (pos gap : Nat) : (s.syncLock pos gap).otp = s.otp := by simp only [syncLock, otp_refEdge, otp_ite, ite_self]
theorem otp_merCtlWrite (w : Word) : (s.merCtlWrite w).otp = s.otp := by simp only [merCtlWrite, otp_wr']
theorem otp_srcBoundary (k : Nat) : (s.srcBoundary k).otp = s.otp := by unfold srcBoundary; split <;> simp only [otp_setLock]
theorem otp_alignCheck (n dly cyc : Nat) : (s.alignCheck n dly cyc).otp = s.otp := by simp only [alignCheck, otp_raise, otp_ite, ite_self]
theorem otp_delayStep : s.delayStep.otp = s.otp := by
  unfold delayStep
  refine otp_forList _ _ _ fun e t => ?_
  split
  · rfl
  · simp only [otp_ite, otp_setF, ite_self]
theorem otp_ratePend : s.ratePend.otp = s.otp := by simp only [ratePend, otp_setF]
theorem otp_rateRequest (w : Word) : (s.rateRequest w).otp = s.otp := by simp only [rateRequest, otp_ratePend, otp_setF]
theorem otp_linkRefused : s.linkRefused.otp = s.otp := by simp only [linkRefused, otp_raise, otp_setF]
theorem otp_rateJudge (r : RateReq) : (s.rateJudge r).1.otp = s.otp := by
  unfold rateJudge
  repeat' split
  all_goals simp only [otp_linkRefused, otp_setF, otp_wr']
theorem otp_setPeriod (n k : Nat) : (s.setPeriod n k).otp = s.otp := by simp only [setPeriod, otp_recordAt, otp_setF]
theorem otp_rateApply (r : RateReq) : (s.rateApply r).1.otp = s.otp := by
  unfold rateApply; split <;> simp only [otp_setF, otp_setPeriod, otp_ite, otp_fst_ite, ite_self]
theorem otp_rateCancel : s.rateCancel.otp = s.otp := by simp only [rateCancel, otp_setF, otp_ite, ite_self]

/-! ### Stage -/

theorem otp_raiseFe (on : Bool) (src p n : Nat) (at_ : Option Nat) : (s.raiseFe on src p n at_).otp = s.otp := by
  unfold raiseFe; split <;> simp only [otp_raisePrev, otp_ite, ite_self]
theorem otp_sensePort (old : Nat) (conv : PortConv) (p : Nat) : (s.sensePort old conv p).otp = s.otp := by
  simp only [sensePort, otp_modPort, otp_raiseFe, otp_setF, otp_countPort, otp_ite, ite_self]
theorem otp_slowAverage (p : Nat) : (s.slowAverage p).1.otp = s.otp := by
  simp only [slowAverage, otp_raise, otp_modPort, otp_wr', otp_setF, otp_ite, otp_fst_ite, ite_self]
theorem otp_voltWindow (p : Nat) : (s.voltWindow p).otp = s.otp := by simp only [voltWindow, otp_raise, otp_setF, otp_ite, ite_self]
theorem otp_stgCtlWrite (p : Nat) (w : Word) (cyc : Nat) : (s.stgCtlWrite p w cyc).1.otp = s.otp := by
  simp only [stgCtlWrite, otp_modPort, otp_wr', otp_raise, otp_fst_ite, ite_self]
theorem otp_persClasses (p v : Nat) : (s.persClasses p v).otp = s.otp := by simp only [persClasses, otp_wr', otp_setF]
theorem otp_persApply (p v : Nat) : (s.persApply p v).otp = s.otp := by
  simp only [persApply, otp_wr', otp_setF, otp_persClasses, otp_modPort, otp_ite, ite_self]
theorem otp_portOff (p : Nat) : (s.portOff p).otp = s.otp := by simp only [portOff, otp_modFuse, otp_setF, otp_modPort]
theorem otp_portOn (p : Nat) : (s.portOn p).otp = s.otp := by
  simp only [portOn]
  repeat' split
  all_goals simp only [otp_enterSafe, otp_modPort, otp_setF]
theorem otp_portBoundary (p : Nat) : (s.portBoundary p).otp = s.otp := by
  simp only [portBoundary]
  repeat' split
  all_goals simp only [otp_enterSafe, otp_portOff, otp_portOn, otp_modPort, otp_persApply]
theorem otp_measureDelay (p : Nat) (o : PendOut) (pos : Nat) : (s.measureDelay p o pos).otp = s.otp := by
  simp only [measureDelay, otp_modPort, otp_bump, otp_wr', otp_ite, ite_self]
theorem otp_takeOut (p tgt pos : Nat) : (s.takeOut p tgt pos).1.otp = s.otp := by
  simp only [takeOut]
  repeat' split
  all_goals simp only [otp_countCore, otp_measureDelay, otp_modPort]
theorem otp_dropOut (p pos : Nat) : (s.dropOut p pos).otp = s.otp := by simp only [dropOut, otp_modPort]
theorem otp_periodStart (p : Nat) (held : Bool) (pos : Nat) : (s.periodStart p held pos).otp = s.otp := by simp only [periodStart, otp_modPort]
theorem otp_relimitDuty (p : Nat) : (s.relimitDuty p).otp = s.otp := by simp only [relimitDuty, otp_modPort, otp_ite, ite_self]
theorem otp_genUpdate (p : Nat) (q : Point) : (s.genUpdate p q).otp = s.otp := by simp only [genUpdate, otp_modPort]
theorem otp_updatePoint (p : Nat) (q : Point) (held : Bool) : (s.updatePoint p q held).otp = s.otp := by
  simp only [updatePoint, otp_traceCap, otp_genUpdate, otp_relimitDuty, otp_takeOut, otp_countPort, otp_dropOut, otp_modPort, otp_periodStart,
    otp_envSettle, otp_ite, ite_self]
theorem otp_driverFault (p cyc : Nat) : (s.driverFault p cyc).otp = s.otp := by
  simp only [driverFault, otp_raise, otp_modPort, otp_modFuse, otp_setF, otp_ite, ite_self]
theorem otp_driverFaultTick (p : Nat) : (s.driverFaultTick p).otp = s.otp := by simp only [driverFaultTick, otp_raise, otp_modPort, otp_ite, ite_self]
theorem otp_ocFire (p cyc : Nat) : (s.ocFire p cyc).otp = s.otp := by
  simp only [ocFire, otp_raise, otp_bump, otp_modPort, otp_modFuse, otp_setF, otp_ite, ite_self]
theorem otp_ocCrosses (p : Nat) (i : Int) (cyc : Nat) : (s.ocCrosses p i cyc).2.otp = s.otp := by
  simp only [ocCrosses, otp_takeBool, otp_modPort, otp_ite, otp_snd_ite, ite_self]
theorem otp_rcFire (p cyc : Nat) : (s.rcFire p cyc).otp = s.otp := by
  simp only [rcFire, otp_bump, otp_countPort, otp_raise, otp_modPort, otp_setF, otp_ite, ite_self]
theorem otp_clearLatches (p : Nat) : (s.clearLatches p).otp = s.otp := by simp only [clearLatches, otp_modPort, otp_setF, otp_ite, ite_self]
theorem otp_pwmEdge (pos gap p : Nat) : (s.pwmEdge pos gap p).otp = s.otp := by
  simp only [pwmEdge, otp_modPort, otp_genEdge, otp_setF, otp_ite, ite_self]

/-! ### Fuse -/

theorem otp_setFus (p st : Nat) : (s.setFus p st).otp = s.otp := by simp only [setFus, otp_setF]
theorem otp_setU (p u : Nat) : (s.setU p u).otp = s.otp := by simp only [setU, otp_modFuse, otp_wr']
theorem otp_fuseOff (p : Nat) (shed : Bool) : (s.fuseOff p shed).otp = s.otp := by simp only [fuseOff, otp_modFuse, otp_setFus, otp_setF]
theorem otp_fuseWait (p : Nat) (retry held : Bool) : (s.fuseWait p retry held).otp = s.otp := by
  simp only [fuseWait, otp_modFuse, otp_setFus, otp_setF]
theorem otp_fuseInrush (p : Nat) (retry : Bool) : (s.fuseInrush p retry).otp = s.otp := by simp only [fuseInrush, otp_modFuse, otp_setFus, otp_setF]
theorem otp_fuseAttempt (p cyc : Nat) : (s.fuseAttempt p cyc).otp = s.otp := by
  simp only [fuseAttempt, otp_fuseInrush, otp_fuseWait, otp_raise, otp_ite, ite_self]
theorem otp_fuseToggle (p cyc : Nat) : (s.fuseToggle p cyc).otp = s.otp := by
  simp only [fuseToggle, otp_fuseAttempt, otp_fuseOff, otp_setF, otp_setU, otp_ite, ite_self]
theorem otp_fuseFail (p cause cyc : Nat) : (s.fuseFail p cause cyc).otp = s.otp := by
  simp only [fuseFail, otp_fuseWait, otp_setFus, otp_modFuse, otp_raise, otp_bump, otp_setF, otp_ite, ite_self]
theorem otp_tripArises (p cause : Nat) : (s.tripArises p cause).otp = s.otp := by simp only [tripArises, otp_modFuse, otp_ite, ite_self]
theorem otp_gridMean (l : List Int) : (s.gridMean l).2.otp = s.otp := by simp only [gridMean, otp_takeWord, otp_snd_ite, ite_self]
theorem otp_gridMeans (p cyc : Nat) (conv : PortConv) : (s.gridMeans p cyc conv).2.otp = s.otp := by simp only [gridMeans, otp_gridMean]
theorem otp_gridOut (p pos : Nat) : (s.gridOut p pos).otp = s.otp := by
  simp only [gridOut, otp_clearLatches, otp_takeOut, otp_dropOut, otp_envSettle, otp_ite, ite_self]
theorem otp_rcFollow (p : Nat) (conv : PortConv) : (s.rcFollow p conv).otp = s.otp := by unfold rcFollow; split <;> simp only [otp_modPort]
theorem otp_gridPins (p cyc : Nat) (conduct : Bool) : (s.gridPins p cyc conduct).otp = s.otp := by
  simp only [gridPins, otp_modFuse, otp_modPort, otp_ite, ite_self]
theorem otp_inrushStep (p : Nat) (im vm : Int) : (s.inrushStep p im vm).otp = s.otp := by
  simp only [inrushStep, otp_setFus, otp_setF, otp_modFuse, otp_ite, ite_self]
theorem otp_fuseFromOff (p cyc : Nat) : (s.fuseFromOff p cyc).otp = s.otp := by
  simp only [fuseFromOff, otp_fuseAttempt, otp_fuseInrush, otp_fuseWait, otp_setF, otp_setU, otp_modFuse, otp_ite, ite_self]
theorem otp_takeTrips (p cyc : Nat) : (s.takeTrips p cyc).otp = s.otp := by unfold takeTrips; split <;> simp only [otp_fuseFail, otp_ite, ite_self]
theorem otp_fuseMoves (p cyc : Nat) (im vm : Int) (relatched : Bool) : (s.fuseMoves p cyc im vm relatched).otp = s.otp := by
  simp only [fuseMoves, otp_inrushStep, otp_fuseInrush, otp_fuseFromOff, otp_fuseToggle, otp_modFuse, otp_fuseOff, otp_takeTrips, otp_ite, ite_self]
theorem otp_fuseClear (p cyc : Nat) : (s.fuseClear p cyc).otp = s.otp := by
  simp only [fuseClear, otp_setF, otp_setU, otp_fuseToggle, otp_ite, ite_self]
theorem otp_fuseTick (p : Nat) : (s.fuseTick p).otp = s.otp := by
  simp only [fuseTick]
  repeat' split
  all_goals simp only [otp_tripArises, otp_takeWord, otp_raise, otp_setU, otp_modFuse]
theorem otp_fuseBoundary (p : Nat) : (s.fuseBoundary p).otp = s.otp := by simp only [fuseBoundary, otp_modFuse, otp_ite, ite_self]
theorem otp_fuseSettle (p : Nat) : (s.fuseSettle p).otp = s.otp := by
  simp only [fuseSettle, otp_setF, otp_modFuse, otp_takeTrips, otp_fuseOff, otp_ite, ite_self]
theorem otp_fuseShed (p : Nat) : (s.fuseShed p).otp = s.otp := by simp only [fuseShed, otp_fuseOff, otp_modPort, otp_ite, ite_self]

/-! ### Rails -/

theorem otp_putLaneWords (r o m : Nat) : (s.putLaneWords r o m).otp = s.otp := by simp only [putLaneWords, otp_forEach, otp_wr', implies_true]
theorem otp_railMaskWrite (r m : Nat) : (s.railMaskWrite r m).1.otp = s.otp := by simp only [railMaskWrite, otp_putLaneWords, otp_fst_ite, ite_self]
theorem otp_railLeadWrite (r : Nat) (w : Word) : (s.railLeadWrite r w).1.otp = s.otp := by
  simp only [railLeadWrite, otp_modRail, otp_wr', otp_setF, otp_fst_ite, ite_self]
theorem otp_truncEnd (r : Nat) : (s.truncEnd r).otp = s.otp := by simp only [truncEnd, otp_setF]
theorem otp_railEnter (r new k : Nat) (auto : Bool) : (s.railEnter r new k auto).otp = s.otp := by
  simp only [railEnter, otp_recordAt, otp_truncEnd, otp_modRail, otp_setF, otp_ite, ite_self]
theorem otp_railCtlWrite (r : Nat) (w : Word) : (s.railCtlWrite r w).1.otp = s.otp := by
  simp only [railCtlWrite, otp_railEnter, otp_truncEnd, otp_wr', otp_ite, otp_fst_ite, ite_self]
theorem otp_railForm (r cyc : Nat) : (s.railForm r cyc).otp = s.otp := by
  simp only [railForm, otp_forList, otp_modRail, otp_raise, otp_putLaneWords, otp_setF, otp_ite, ite_self, implies_true]
theorem otp_truncHold (ls : List Nat) (at_ : Int) : (s.truncHold ls at_).otp = s.otp := by
  simp only [truncHold, otp_forList, otp_modPort, implies_true]
theorem otp_railCommit (r : Nat) : (s.railCommit r).otp = s.otp := by
  simp only [railCommit, otp_forList, otp_truncHold, otp_modPort, otp_wr', otp_modRail, otp_setF, otp_ite, ite_self, implies_true]
theorem otp_railAuto (r : Nat) : (s.railAuto r).otp = s.otp := by simp only [railAuto, otp_modRail, otp_railEnter, otp_ite, ite_self]
theorem otp_railOverload (r : Nat) : (s.railOverload r).otp = s.otp := by
  simp only [railOverload, otp_raise, otp_setF, otp_modRail, otp_ite, ite_self]
theorem otp_railLimit (r : Nat) : (s.railLimit r).otp = s.otp := by simp only [railLimit, otp_wr']
theorem otp_railTick (r : Nat) : (s.railTick r).otp = s.otp := by
  simp only [railTick, otp_modRail, otp_raise, otp_setF, otp_railOverload, otp_railLimit, otp_railAuto, otp_railCommit, otp_ite, ite_self]
theorem otp_truncStart (r cyc : Nat) : (s.truncStart r cyc).otp = s.otp := by simp only [truncStart, otp_truncHold, otp_raise, otp_countP, otp_setF]
theorem otp_firePulse (l ton : Nat) (at_ : Int) : (s.firePulse l ton at_).otp = s.otp := by simp only [firePulse, otp_modPort]
theorem otp_allFire (r cyc : Nat) : (s.allFire r cyc).otp = s.otp := by
  simp only [allFire, otp_forList, otp_firePulse, otp_countP, otp_modRail, otp_setF, otp_raise, otp_ite, ite_self, implies_true]
theorem otp_railTrunc (r : Nat) (v : Int) (cyc : Nat) : (s.railTrunc r v cyc).otp = s.otp := by
  simp only [railTrunc, otp_truncStart, otp_truncEnd, otp_ite, ite_self]
theorem otp_railFire (r : Nat) (v : Int) (d : Option Int) (cyc : Nat) : (s.railFire r v d cyc).otp = s.otp := by
  simp only [railFire, otp_allFire, otp_setF, otp_raise, otp_modRail, otp_ite, ite_self]
theorem otp_setGain (l g : Nat) (w : Word) : (s.setGain l g w).otp = s.otp := by simp only [setGain]
theorem otp_coeffLane (l : Nat) : (s.coeffLane l).otp = s.otp := by
  simp only [coeffLane, otp_forEach, otp_raise, otp_wr', otp_setGain, otp_ite, ite_self, implies_true]
theorem otp_gsShow (l : Nat) : (s.gsShow l).otp = s.otp := by simp only [gsShow, otp_wr', otp_ite, ite_self]
theorem otp_railG7 (r : Nat) : (s.railG7 r).otp = s.otp := by simp only [railG7, otp_forList, otp_setGain, otp_ite, ite_self, implies_true]
theorem otp_keepMax (l : Loc) (v : Int) : (s.keepMax l v).otp = s.otp := by simp only [keepMax, otp_wr', otp_ite, ite_self]
theorem otp_keepMin (l : Loc) (v : Int) : (s.keepMin l v).otp = s.otp := by simp only [keepMin, otp_wr', otp_ite, ite_self]
theorem otp_railTelemetry (r : Nat) : (s.railTelemetry r).otp = s.otp := by
  simp only [railTelemetry, otp_forList, otp_wr', otp_modRail, otp_keepMin, otp_keepMax, otp_takeWord, otp_ite, ite_self, implies_true]

/-! ### Strings -/

theorem otp_setQ (u q : Nat) : (s.setQ u q).otp = s.otp := by simp only [setQ, otp_modStr, otp_wr']
theorem otp_ocvCorrect (u cyc : Nat) (conf : Bool) (dflt : Option Nat) : (s.ocvCorrect u cyc conf dflt).otp = s.otp := by
  unfold ocvCorrect
  repeat' split
  all_goals simp only [otp_setQ, otp_setF, otp_raise]
theorem otp_strWrite (u : Nat) : (s.strWrite u).otp = s.otp := by simp only [strWrite, otp_setF, otp_modStr, otp_ite, ite_self]
theorem otp_strBoot (u : Nat) : (s.strBoot u).otp = s.otp := by simp only [strBoot]; split <;> simp only [otp_raise, otp_wr', otp_setStr']
theorem otp_batCtlWrite (u : Nat) (w : Word) : (s.batCtlWrite u w).1.otp = s.otp := by
  simp only [batCtlWrite, otp_modStr, otp_wr', otp_ite, otp_fst_ite, ite_self]
theorem otp_batQnomWrite (u : Nat) (w : Word) : (s.batQnomWrite u w).otp = s.otp := by simp only [batQnomWrite, otp_wr', otp_ite, ite_self]
theorem otp_batQfullWrite (u : Nat) (w : Word) : (s.batQfullWrite u w).otp = s.otp := by
  simp only [batQfullWrite, otp_wr', otp_modStr, otp_ite, ite_self]
theorem otp_strGone (u : Nat) : (s.strGone u).otp = s.otp := by simp only [strGone, otp_setF]
theorem otp_learn (u cyc : Nat) : (s.learn u cyc).otp = s.otp := by simp only [learn, otp_raise, otp_wr', otp_modStr, otp_ite, ite_self]
theorem otp_emptyCheck (u : Nat) (was : Int) (cyc : Nat) : (s.emptyCheck u was cyc).otp = s.otp := by
  simp only [emptyCheck, otp_raise, otp_ite, ite_self]
theorem otp_resSample (u : Nat) (di dv : Int) : (s.resSample u di dv).otp = s.otp := by simp only [resSample, otp_wrOpen, otp_ite, ite_self]
theorem otp_cycles (u d : Nat) : (s.cycles u d).otp = s.otp := by simp only [cycles, otp_bump, otp_modStr, otp_ite, ite_self]
theorem otp_strRuns (u n : Nat) : (s.strRuns u n).otp = s.otp := by simp only [strRuns, otp_modStr]
theorem otp_strTick (u : Nat) : (s.strTick u).otp = s.otp := by
  simp only [strTick]
  split
  · simp only [otp_ite, otp_setF, otp_modStr, ite_self]
  · simp only [otp_ite, otp_setF, otp_cycles, otp_emptyCheck, otp_setQ, otp_strRuns, otp_modStr, ite_self]
    generalize (State.str _ u).last = o
    cases o <;> simp only [otp_ite, otp_setF, otp_resSample, otp_raise, ite_self]
theorem otp_noUnitCheck : s.noUnitCheck.otp = s.otp := by simp only [noUnitCheck, otp_forList, otp_raise, implies_true]
theorem otp_strGains (u : Nat) : (s.strGains u).otp = s.otp := by simp only [strGains, otp_setGain, otp_setF, otp_ite, ite_self]
theorem otp_capLevel (t : Nat) : (s.capLevel t).otp = s.otp := by simp only [capLevel, otp_setF, otp_ite, ite_self]
theorem otp_relTick (v : Int) : (s.relTick v).otp = s.otp := by simp only [relTick]
theorem otp_holdupReserve : s.holdupReserve.otp = s.otp := by
  simp only [holdupReserve, otp_forList, otp_relTick, otp_capLevel, otp_raise, otp_setF, otp_wrOpen, otp_wr', otp_wrPair, otp_ite, ite_self,
    implies_true]
theorem otp_holdTick : s.holdTick.otp = s.otp := by simp only [holdTick]
theorem otp_holdCapTick : s.holdCapTick.otp = s.otp := by simp only [holdCapTick, otp_raise, otp_ite, ite_self]

/-! ### Order -/

theorem otp_flagFar (ws : List Word) : (s.flagFar ws).otp = s.otp := by simp only [flagFar]

/-! ### Troupe -/

theorem otp_setSstate (v : Nat) : (s.setSstate v).otp = s.otp := by simp only [setSstate, otp_setF]
theorem otp_trpCtlWrite (w : Word) : (s.trpCtlWrite w).1.otp = s.otp := by
  simp only [trpCtlWrite, otp_forEach, otp_wr', otp_setF, otp_ite, otp_fst_ite, ite_self, implies_true]
theorem otp_enqueue (m : Nat) (q : QCell) (cyc : Nat) : (s.enqueue m q cyc).otp = s.otp := by
  simp only [enqueue]
  repeat' split
  all_goals simp only [otp_bump, otp_raise, otp_modLink, otp_countP]
theorem otp_number (c : Cell) : (s.number c).2.otp = s.otp := by simp only [number, otp_snd_ite, ite_self]
theorem otp_originate (c : Cell) (cyc : Nat) : (s.originate c cyc).otp = s.otp := by unfold originate; split <;> simp only [otp_enqueue, otp_number]
theorem otp_sendOn (m : Nat) (c : Cell) (cyc : Nat) : (s.sendOn m c cyc).otp = s.otp := by simp only [sendOn, otp_enqueue]
theorem otp_sendResult (dst cseq status : Nat) (data : List Word) (cyc : Nat) : (s.sendResult dst cseq status data cyc).otp = s.otp := by
  simp only [sendResult, otp_originate]
theorem otp_forward (l : Nat) (ms : List Nat) (c : Cell) (bad : Bool) (cyc : Nat) : (s.forward l ms c bad cyc).otp = s.otp := by
  simp only [forward, otp_forList, otp_enqueue, implies_true]
theorem otp_linkIn (l cyc : Nat) (ok : Bool) (k : State → State) (hk : ∀ y0, (k y0).otp = y0.otp) : (s.linkIn l cyc ok k).otp = s.otp := by
  simp only [linkIn, hk, otp_bump, otp_raise, otp_countP, otp_ite, ite_self]
theorem otp_cellLink (l cyc : Nat) (c : Cell) (ms : State → List Nat) (k : State → State) (hk : ∀ y0,
    (k y0).otp = y0.otp) : (s.cellLink l cyc c ms k).otp = s.otp := by
  simp only [cellLink, hk, otp_forward, otp_linkIn, otp_countP, otp_ite, ite_self, implies_true]
theorem otp_cellIn (l cyc : Nat) (c : Cell) (local_ : State → State) (hlocal_ : ∀ y0,
    (local_ y0).otp = y0.otp) : (s.cellIn l cyc c local_).otp = s.otp := by
  simp only [cellIn, hlocal_, otp_sendResult, otp_forward, otp_bump, otp_countP, otp_cellLink, otp_ite, ite_self, implies_true]
theorem otp_putStream (t : Stream) : (s.putStream t).otp = s.otp := by simp only [putStream]
theorem otp_streamIn (c : Cell) : (s.streamIn c).1.otp = s.otp := by simp only [streamIn]; split <;> simp only [otp_putStream]
theorem otp_ackIn (c : Cell) : (s.ackIn c).otp = s.otp := by simp only [ackIn, otp_ite, ite_self]
theorem otp_roleStale (c : Cell) (cyc : Nat) : (s.roleStale c cyc).otp = s.otp := by
  simp only [roleStale, otp_sendResult, otp_bump, otp_raise, otp_ite, ite_self]
theorem otp_streamCell (c : Cell) (effect : State → State) (heffect : ∀ y0, (effect y0).otp = y0.otp) : (s.streamCell c effect).otp = s.otp := by
  simp only [streamCell, heffect, otp_ackIn, otp_streamIn, otp_ite, ite_self]
theorem otp_keepCell (c : Cell) : (s.keepCell c).otp = s.otp := by simp only [keepCell, otp_irq]
theorem otp_alarmOwn (tier code : Nat) : (s.alarmOwn tier code).otp = s.otp := by simp only [alarmOwn]
theorem otp_alarmCell : s.alarmCell.1.otp = s.otp := by simp only [alarmCell, otp_forList, otp_bump, otp_fst_ite, ite_self, implies_true]
theorem otp_slotSend (l : Nat) (q : QCell) : (s.slotSend l q).otp = s.otp := by simp only [slotSend]; split <;> simp only [otp_countP, otp_modLink]
theorem otp_alignedSettle : s.alignedSettle.otp = s.otp := by simp only [alignedSettle, otp_setF, otp_ite, ite_self]
theorem otp_thetaIn (l : Nat) (t2 t4 : Int) (used : Bool) : (s.thetaIn l t2 t4 used).otp = s.otp := by simp only [thetaIn, otp_wr', otp_ite, ite_self]
theorem otp_epochIn (e hops : Nat) : (s.epochIn e hops).otp = s.otp := by simp only [epochIn, otp_setSstate, otp_setF, otp_ite, ite_self]
theorem otp_annIn (m : Marker) : (s.annIn m).otp = s.otp := by simp only [annIn, otp_ratePend, otp_ite, ite_self]

/-! ### Capping -/

theorem otp_capTableWrite (l : Loc) (w : Word) : (s.capTableWrite l w).otp = s.otp := by simp only [capTableWrite, otp_wr']
theorem otp_capDue (k tgt : Nat) : (s.capDue k tgt).otp = s.otp := by simp only [capDue, otp_setF]
theorem otp_capSettleIn (k : Nat) : (s.capSettleIn k).otp = s.otp := by
  simp only [capSettleIn, otp_forEach, otp_capDue, otp_wr', otp_railLimit, otp_setF, implies_true]
theorem otp_capSettle : s.capSettle.otp = s.otp := by simp only [capSettle, otp_capSettleIn]
theorem otp_capBoundary : s.capBoundary.otp = s.otp := by simp only [capBoundary, otp_setF, otp_capSettle]
theorem otp_capLocalWrite (w : Word) : (s.capLocalWrite w).otp = s.otp := by simp only [capLocalWrite, otp_setF, otp_capSettle]
theorem otp_shedStep : s.shedStep.otp = s.otp := by simp only [shedStep, otp_setF, otp_ite, ite_self]
theorem otp_shedPorts : s.shedPorts.otp = s.otp := by simp only [shedPorts, otp_forEach, otp_fuseShed, otp_setF, otp_ite, ite_self, implies_true]
theorem otp_waveQueue (keep : QCell → Bool) (l : List Wave) : (s.waveQueue keep l).otp = s.otp := by
  simp only [waveQueue, otp_forList, otp_modLink, otp_ite, ite_self, implies_true]
theorem otp_waveTick : s.waveTick.otp = s.otp := by simp only [waveTick, otp_waveQueue]
theorem otp_waveOrder (op ent mask : Nat) : (s.waveOrder op ent mask).otp = s.otp := by simp only [waveOrder, otp_waveQueue]
theorem otp_waveWrite (w : Word) : (s.waveWrite w).1.otp = s.otp := by simp only [waveWrite, otp_waveOrder, otp_wr', otp_ite, otp_fst_ite, ite_self]
theorem otp_waveIn (v : Wave) : (s.waveIn v).otp = s.otp := by simp only [waveIn, otp_ite, ite_self]
theorem otp_shedCell (l cyc op : Nat) (c : Cell) : (s.shedCell l cyc op c).otp = s.otp := by
  simp only [shedCell, otp_waveIn, otp_raise, otp_cellIn, otp_ite, ite_self, implies_true]
theorem otp_waveApply (v : Wave) (arrived : Bool) (cyc : Nat) : (s.waveApply v arrived cyc).otp = s.otp := by
  simp only [waveApply, otp_capSettleIn, otp_bump, otp_raiseIn, otp_recordAt, otp_wrPair, otp_wr', otp_setF, otp_ite, ite_self]

/-! ### Survey -/

theorem otp_modHead (l : Nat) (f : HeadSt → HeadSt) : (s.modHead l f).otp = s.otp := by simp only [modHead, otp_modLink]
theorem otp_sendDiscover (l cyc : Nat) : (s.sendDiscover l cyc).otp = s.otp := by simp only [sendDiscover, otp_sendOn]
theorem otp_startString (l cyc : Nat) : (s.startString l cyc).otp = s.otp := by simp only [startString, otp_sendDiscover, otp_modLink, otp_wr']
theorem otp_startStrings (cyc : Nat) : (s.startStrings cyc).otp = s.otp := by simp only [startStrings, otp_forList, otp_startString, implies_true]
theorem otp_ownEntry : s.ownEntry.otp = s.otp := by simp only [ownEntry, otp_wr']
theorem otp_startSurvey (cyc : Nat) : (s.startSurvey cyc).otp = s.otp := by
  simp only [startSurvey, otp_ownEntry, otp_startStrings, otp_setF, otp_ite, ite_self]
theorem otp_surveySettle (ms : Nat) : (s.surveySettle ms).otp = s.otp := by simp only [surveySettle, otp_setF, otp_wr', otp_ite, ite_self]
theorem otp_assign (path : List Nat) (uid : Nat) : (s.assign path uid).1.otp = s.otp := by
  unfold assign
  repeat' split
  all_goals simp only [otp_setF]
theorem otp_endString (l : Nat) : (s.endString l).otp = s.otp := by simp only [endString, otp_modHead]
theorem otp_learnRoute (addr l : Nat) : (s.learnRoute addr l).otp = s.otp := by simp only [learnRoute]
theorem otp_sendAssign (l addr epoch cyc : Nat) : (s.sendAssign l addr epoch cyc).otp = s.otp := by
  simp only [sendAssign, otp_sendOn, otp_learnRoute, otp_modHead]
theorem otp_topology (l cyc : Nat) : (s.topology l cyc).otp = s.otp := by simp only [topology, otp_endString, otp_raise]
theorem otp_headFound (l uid cyc : Nat) : (s.headFound l uid cyc).otp = s.otp := by
  simp only [headFound]
  repeat' split
  all_goals simp only [otp_originate, otp_sendAssign, otp_assign, otp_modHead, otp_topology]
theorem otp_headNext (l cyc : Nat) : (s.headNext l cyc).otp = s.otp := by
  unfold headNext; split <;> simp only [otp_modHead, otp_sendDiscover, otp_setF, otp_ite, ite_self]
theorem otp_surveyIn (l cyc : Nat) (c : Cell) (k : State → State) (hk : ∀ y0, (k y0).otp = y0.otp) : (s.surveyIn l cyc c k).otp = s.otp := by
  simp only [surveyIn, hk, otp_cellLink, implies_true]
theorem otp_passOn (l cyc : Nat) (c : Cell) : (s.passOn l cyc c).otp = s.otp := by simp only [passOn, otp_forward]
theorem otp_mapDone (addr : Nat) : (s.mapDone addr).otp = s.otp := by simp only [mapDone]
theorem otp_resurvey (cyc : Nat) : (s.resurvey cyc).otp = s.otp := by simp only [resurvey, otp_startSurvey]
theorem otp_sendDone (cyc : Nat) : (s.sendDone cyc).otp = s.otp := by unfold sendDone; split <;> simp only [otp_startStrings, otp_sendOn]
theorem otp_surveyLocked (cyc : Nat) : (s.surveyLocked cyc).otp = s.otp := by
  simp only [surveyLocked, otp_setSstate, otp_alignedSettle, otp_sendDone, otp_ite, ite_self]

/-! ### Mgmt -/

theorem otp_setPath (p v : Nat) : (s.setPath p v).otp = s.otp := by simp only [setPath, otp_setF]
theorem otp_modMgt (f : MgtSt → MgtSt) : (s.modMgt f).otp = s.otp := by simp only [modMgt]
theorem otp_sendTo (path : Option Nat) (trailer : Bool) (hop : Nat) (f : MFrame) : (s.sendTo path trailer hop f).otp = s.otp := by
  simp only [sendTo, otp_forList, otp_countP, otp_modMgt, otp_ite, ite_self, implies_true]
theorem otp_sendBoth (ip : Nat) (f : MFrame) : (s.sendBoth ip f).otp = s.otp := by simp only [sendBoth, otp_sendTo]
theorem otp_sendPath (p ip : Nat) (f : MFrame) : (s.sendPath p ip f).otp = s.otp := by simp only [sendPath, otp_sendTo]
theorem otp_dgResult (d : Dgram) (status : Nat) (data : List Word) : (s.dgResult d status data).otp = s.otp := by simp only [dgResult, otp_sendBoth]
theorem otp_bulkResume (p cyc : Nat) : (s.bulkResume p cyc).otp = s.otp := by
  unfold bulkResume; split <;> simp only [otp_sendPath, otp_modMgt, otp_raise, otp_ite, ite_self]
theorem otp_recResume (cyc : Nat) : (s.recResume cyc).otp = s.otp := by
  unfold recResume; split <;> simp only [otp_modMgt, otp_raise, otp_ite, ite_self]
theorem otp_pathsSettle (cyc : Nat) : (s.pathsSettle cyc).otp = s.otp := by
  simp only [pathsSettle, otp_recResume, otp_bulkResume, otp_setF, otp_ite, ite_self]
theorem otp_sessionPath (f : Fld) : (s.sessionPath f).otp = s.otp := by simp only [sessionPath, otp_setF]
theorem otp_pathDown (p cyc : Nat) : (s.pathDown p cyc).otp = s.otp := by
  simp only [pathDown, otp_pathsSettle, otp_modMgt, otp_setPath, otp_raise, otp_ite, ite_self]
theorem otp_mgtCtlWrite (w : Word) (cyc : Nat) : (s.mgtCtlWrite w cyc).otp = s.otp := by
  simp only [mgtCtlWrite, otp_forEach, otp_wr', otp_pathDown, otp_ite, ite_self, implies_true]
theorem otp_pathUp (p cyc : Nat) : (s.pathUp p cyc).otp = s.otp := by simp only [pathUp, otp_setPath, otp_pathsSettle, otp_ite, ite_self]
theorem otp_missing (p cyc : Nat) : (s.missing p cyc).otp = s.otp := by simp only [missing, otp_pathDown, otp_modMgt, otp_ite, ite_self]
theorem otp_forget (e : DupEnt) (cyc : Nat) : (s.forget e cyc).otp = s.otp := by simp only [forget, otp_missing, otp_modMgt, otp_ite, ite_self]
theorem otp_mismatch (cyc : Nat) : (s.mismatch cyc).otp = s.otp := by simp only [mismatch, otp_bump, otp_raise]
theorem otp_rctIn (f : Frame) (seq : Nat) (c : MFrame) (good : Bool) (cyc : Nat) : (s.rctIn f seq c good cyc).1.otp = s.otp := by
  simp only [rctIn]
  repeat' split
  all_goals simp only [otp_forget, otp_mismatch, otp_countP, otp_missing, otp_modMgt]
theorem otp_pathIn (p : Nat) (k : State → State) (hk : ∀ y0, (k y0).otp = y0.otp) : (s.pathIn p k).otp = s.otp := by
  simp only [pathIn, hk, otp_countP, otp_ite, ite_self]
theorem otp_frameIn (f : Frame) (c : MFrame) (good : Bool) (cyc : Nat) (k : State → State) (hk : ∀ y0,
    (k y0).otp = y0.otp) : (s.frameIn f c good cyc k).otp = s.otp := by
  unfold frameIn
  repeat' split
  all_goals simp only [hk, otp_rctIn, otp_bump, otp_pathIn, otp_ite, ite_self, implies_true]
theorem otp_dgIn (f : Frame) (d : Dgram) (cyc : Nat) (k : State → State) (hk : ∀ y0, (k y0).otp = y0.otp) : (s.dgIn f d cyc k).otp = s.otp := by
  simp only [dgIn, hk, otp_frameIn, otp_ite, ite_self, implies_true]
theorem otp_dgStream (d : Dgram) : (s.dgStream d).1.otp = s.otp := by simp only [dgStream, otp_modMgt]
theorem otp_keepDgram (d : Dgram) : (s.keepDgram d).otp = s.otp := by simp only [keepDgram, otp_modMgt, otp_irq]
theorem otp_dgramResult (d : Dgram) (status : Nat) (ws : List Word) : (s.dgramResult d status ws).otp = s.otp := by
  simp only [dgramResult, otp_modMgt, otp_dgResult]
theorem otp_resultHome (c : Cell) : (s.resultHome c).otp = s.otp := by
  simp only [resultHome]; split <;> simp only [otp_keepCell, otp_dgramResult, otp_modMgt]
theorem otp_sesSave (ok : Bool) : (s.sesSave ok).otp = s.otp := by simp only [sesSave, otp_modMgt]
theorem otp_ptpIn (p domain : Nat) (v6 : Bool) (k : State → State) (hk : ∀ y0, (k y0).otp = y0.otp) : (s.ptpIn p domain v6 k).otp = s.otp := by
  simp only [ptpIn, hk, otp_pathIn, otp_ite, ite_self, implies_true]
theorem otp_ptpMap (ident : Nat) (map : Nat × Nat × Nat × Int) (ofs : Int) : (s.ptpMap ident map ofs).otp = s.otp := by
  simp only [ptpMap, otp_modMgt, otp_setF, otp_ite, ite_self]
theorem otp_ptpBoundary : s.ptpBoundary.otp = s.otp := by
  unfold ptpBoundary; split <;> simp only [otp_setF, otp_modMgt, otp_wrPair, otp_ite, ite_self]

/-! ### Otp -/

theorem otp_envStat : s.envStat.otp = s.otp := by simp only [envStat, otp_setF]
theorem otp_envLoadPort (blank : Bool) (p : Nat) : (s.envLoadPort blank p).otp = s.otp := by
  simp only [envLoadPort, otp_forEach, otp_setF, otp_modPort, otp_wr', implies_true]
theorem otp_envLoad (ports : List Nat) : (s.envLoad ports).otp = s.otp := by
  simp only [envLoad, otp_forList, otp_raise, otp_setF, otp_envStat, otp_envLoadPort, otp_ite, ite_self, implies_true]

/-! ### Twb -/

theorem otp_modBus (b : Nat) (f : TwbSt → TwbSt) : (s.modBus b f).otp = s.otp := by simp only [modBus]
theorem otp_riseCheck (b : Nat) (controller : Bool) (scl sda cyc : Nat) : (s.riseCheck b controller scl sda cyc).otp = s.otp := by
  simp only [riseCheck, otp_countP, otp_raise, otp_setF, otp_ite, ite_self]
theorem otp_alertSet (b : Nat) : (s.alertSet b).otp = s.otp := by simp only [alertSet, otp_setF, otp_modBus, otp_ite, ite_self]
theorem otp_alertTier (tier : Nat) : (s.alertTier tier).otp = s.otp := by
  simp only [alertTier, otp_forEach, otp_alertSet, otp_ite, ite_self, implies_true]
theorem otp_alertClear (b : Nat) : (s.alertClear b).otp = s.otp := by simp only [alertClear, otp_setF, otp_modBus]
theorem otp_cmlSet (b bit : Nat) : (s.cmlSet b bit).otp = s.otp := by simp only [cmlSet, otp_wr', otp_alertSet]
theorem otp_modAge (f : AgeSt → AgeSt) : (s.modAge f).otp = s.otp := by simp only [modAge]
theorem otp_avsStart : s.avsStart.otp = s.otp := by simp only [avsStart, otp_setF, otp_modBus, otp_modAge, otp_ite, ite_self]
theorem otp_avsEnd (b err cyc : Nat) : (s.avsEnd b err cyc).otp = s.otp := by simp only [avsEnd, otp_raise, otp_modAge, otp_modBus, otp_ite, ite_self]
theorem otp_xferEnd (b err nb cyc : Nat) : (s.xferEnd b err nb cyc).otp = s.otp := by
  simp only [xferEnd, otp_irq, otp_avsEnd, otp_avsStart, otp_raise, otp_bump, otp_countP, otp_wr', otp_setF, otp_modBus, otp_ite, ite_self]
theorem otp_xferAbort (b cyc : Nat) : (s.xferAbort b cyc).otp = s.otp := by simp only [xferAbort, otp_xferEnd, otp_takeWord, otp_ite, ite_self]
theorem otp_twbXferWrite (b : Nat) (w : Word) : (s.twbXferWrite b w).1.otp = s.otp := by
  simp only [twbXferWrite, otp_setF, otp_modBus, otp_wr', otp_fst_ite, ite_self]
theorem otp_twbCtlWrite (b : Nat) (w : Word) (cyc : Nat) : (s.twbCtlWrite b w cyc).otp = s.otp := by
  simp only [twbCtlWrite, otp_foldl, otp_xferAbort, otp_wr', otp_ite, ite_self, implies_true]
theorem otp_bufLoad (b : Nat) (l : List Nat) : (s.bufLoad b l).otp = s.otp := by simp only [bufLoad, otp_foldl, otp_setF, implies_true]
theorem otp_latchTake : s.latchTake.otp = s.otp := by simp only [latchTake]
theorem otp_mirrorRefresh : s.mirrorRefresh.otp = s.otp := by simp only [mirrorRefresh, otp_latchTake]
theorem otp_latchClear (p : Nat) : (s.latchClear p).otp = s.otp := by simp only [latchClear]

/-! ### Collector -/

theorem otp_classSet (x : Nat) (c : Cls) : (s.classSet x c).otp = s.otp := by simp only [classSet, otp_setF]
theorem otp_force (x cyc : Nat) : (s.force x cyc).otp = s.otp := by simp only [force, otp_setF, otp_countFault, otp_ite, ite_self]
theorem otp_aliveStop (cause : Nat) : (s.aliveStop cause).otp = s.otp := by simp only [aliveStop, otp_setF, otp_ite, ite_self]
theorem otp_tierAct (e : FaultEv) (t c : Nat) (cls : Bool) : (s.tierAct e t c cls).otp = s.otp := by
  simp only [tierAct, otp_flushStart, otp_irq, otp_alertTier, otp_aliveStop, otp_allSafe, otp_tileSafe, otp_ite,
    ite_self]; split <;> simp only [otp_enterSafe, otp_alarmOwn, otp_buffer, otp_ite, ite_self]
theorem otp_handle (e : FaultEv) : (s.handle e).otp = s.otp := by
  simp only [handle, otp_bump, otp_tierAct, otp_countFault, otp_wrPair, otp_wr', otp_setF, otp_ite, ite_self]
theorem otp_handleThese (l : List Due) : (s.handleThese l).otp = s.otp := by
  simp only [handleThese]
  refine otp_forList _ _ _ fun e t => ?_
  cases e with
  | fault e => exact otp_handle ..
  | change r => exact otp_buffer ..
theorem otp_classify : s.classify.otp = s.otp := by
  simp only [classify, otp_forList, otp_classSet, otp_setF, otp_handleThese, otp_latchTake, implies_true]
theorem otp_collectorReset (n : Nat) (works : Bool) : (s.collectorReset n works).otp = s.otp := by
  simp only [collectorReset, otp_forEach, otp_rst, otp_classSet, otp_handleThese, otp_latchTake, otp_ite, ite_self, implies_true]
theorem otp_classWritten (x : Nat) : (s.classWritten x).otp = s.otp := by simp only [classWritten]
theorem otp_fltClsWrite (x : Nat) (w : Word) : (s.fltClsWrite x w).otp = s.otp := by
  simp only [fltClsWrite, otp_wr', otp_classWritten, otp_ite, ite_self]
theorem otp_fltSrcWrite (x : Nat) (w : Word) (cyc : Nat) : (s.fltSrcWrite x w cyc).otp = s.otp := by
  simp only [fltSrcWrite, otp_force, otp_setF, otp_classWritten, otp_ite, ite_self]

/-! ### Watchdog -/

theorem otp_modWdg (f : WdgSt → WdgSt) : (s.modWdg f).otp = s.otp := by simp only [modWdg]
theorem otp_wdgTime (e : Nat) : (s.wdgTime e).otp = s.otp := by simp only [wdgTime, otp_modWdg, otp_setF, otp_ite, ite_self]
theorem otp_wdgServe : s.wdgServe.otp = s.otp := by simp only [wdgServe, otp_setF, otp_modWdg]
theorem otp_wdgExpire (cause cyc : Nat) : (s.wdgExpire cause cyc).otp = s.otp := by
  simp only [wdgExpire, otp_allSafe, otp_raise, otp_aliveStop, otp_setF, otp_modWdg, otp_ite, ite_self]
theorem otp_wdgKey (w : Word) (e cyc : Nat) : (s.wdgKey w e cyc).otp = s.otp := by
  simp only [wdgKey, otp_wdgServe, otp_setF, otp_wdgExpire, otp_wdgTime, otp_ite, ite_self]
theorem otp_wdgConfig (l : Loc) (w : Word) (e cyc : Nat) : (s.wdgConfig l w e cyc).1.otp = s.otp := by
  simp only [wdgConfig, otp_wr', otp_raise, otp_wdgExpire, otp_wdgTime, otp_fst_ite, ite_self]

/-! ### Recorder -/

theorem otp_modRec (f : RecSt → RecSt) : (s.modRec f).otp = s.otp := by simp only [modRec]
theorem otp_recWrite (r : Rec) (failed : List Nat) (cyc : Nat) : (s.recWrite r failed cyc).otp = s.otp := by
  simp only [recWrite, otp_setF, otp_raise, otp_modRec, otp_ite, ite_self]
theorem otp_recSave (ok : Bool) : (s.recSave ok).otp = s.otp := by simp only [recSave, otp_modRec]
theorem otp_clearNow (port : Nat) : (s.clearNow port).otp = s.otp := by simp only [clearNow, otp_recordNow, otp_modRec, otp_enterRecords]
theorem otp_recClear (port : Nat) : (s.recClear port).otp = s.otp := by simp only [recClear, otp_clearNow, otp_flushStart]
theorem otp_recCmd (port : Nat) (w : Word) : (s.recCmd port w).otp = s.otp := by
  simp only [recCmd, otp_recClear, otp_modRec, otp_flushStart, otp_ite, ite_self]
theorem otp_recRlWrite (w : Word) : (s.recRlWrite w).otp = s.otp := by simp only [recRlWrite, otp_wr', otp_modRec]
theorem otp_hqZero (q : Nat) : (s.hqZero q).otp = s.otp := by simp only [hqZero, otp_modRec]
theorem otp_hqWrite (l : Loc) (q : Nat) (w : Word) : (s.hqWrite l q w).1.otp = s.otp := by
  simp only [hqWrite, otp_wr', otp_hqZero, otp_fst_ite, ite_self]
theorem otp_hqSample (q : Nat) : (s.hqSample q).otp = s.otp := by
  unfold hqSample
  repeat' split
  all_goals simp only [otp_modRec]
theorem otp_histograms : s.histograms.otp = s.otp := by simp only [histograms, otp_forEach, otp_hqSample, otp_ite, ite_self, implies_true]
theorem otp_recFetch : s.recFetch.otp = s.otp := by simp only [recFetch, otp_modRec, otp_setF]
theorem otp_recCtlWrite (w : Word) (cyc : Nat) : (s.recCtlWrite w cyc).otp = s.otp := by
  simp only [recCtlWrite, otp_pathsSettle, otp_sessionPath, otp_modMgt, otp_modRec, otp_wr', otp_ite, ite_self]
theorem otp_recBoot (cyc : Nat) : (s.recBoot cyc).otp = s.otp := by
  simp only [recBoot]; split <;> simp only [otp_forList, otp_setF, otp_raise, otp_modRec, implies_true]

/-! ### Ageing -/

theorem otp_modAgePort (p : Nat) (f : AgePort → AgePort) : (s.modAgePort p f).otp = s.otp := by simp only [modAgePort, otp_modAge]
theorem otp_modAgeRail (r : Nat) (f : AgeRail → AgeRail) : (s.modAgeRail r f).otp = s.otp := by simp only [modAgeRail, otp_modAge]
theorem otp_rdsTick (conv : PortConv) (p : Nat) : (s.rdsTick conv p).otp = s.otp := by
  simp only [rdsTick, otp_forList, otp_modAgePort, otp_ite, ite_self, implies_true]
theorem otp_fanTick (p : Nat) : (s.fanTick p).otp = s.otp := by simp only [fanTick, otp_modAgePort, otp_modAge, otp_ite, ite_self]
theorem otp_setBurst (r : Nat) (b : Option Burst) : (s.setBurst r b).otp = s.otp := by simp only [setBurst, otp_modAge]
theorem otp_burstTick (noisy : List Nat) (r : Nat) : (s.burstTick noisy r).otp = s.otp := by
  unfold burstTick; split <;> simp only [otp_bump, otp_setBurst, otp_modPort, otp_ite, ite_self]
theorem otp_closeDay (q : AgeQ) (old : Bool) : (s.closeDay q old).2.otp = s.otp := by simp only [closeDay, otp_takeNat, otp_snd_ite, ite_self]
theorem otp_atlasApply (fresh : Bool) (cyc p : Nat) : (s.atlasApply fresh cyc p).otp = s.otp := by
  simp only [atlasApply, otp_cramPut, otp_envTake, otp_modAge, otp_ite, ite_self]
theorem otp_eolCheck (p k was now ratio cyc : Nat) : (s.eolCheck p k was now ratio cyc).otp = s.otp := by
  simp only [eolCheck, otp_record, otp_raise, otp_ite, ite_self]
theorem otp_revisePort (old : Bool) (cyc p : Nat) : (s.revisePort old cyc p).otp = s.otp := by
  simp only [revisePort, otp_eolCheck, otp_record, otp_modAgePort, otp_closeDay, otp_ite, ite_self]
theorem otp_reviseRail (old : Bool) (cyc r : Nat) : (s.reviseRail old cyc r).otp = s.otp := by
  simp only [reviseRail, otp_forList, otp_eolCheck, otp_modAgeRail, otp_closeDay, implies_true]
theorem otp_revise (cyc : Nat) : (s.revise cyc).otp = s.otp := by
  have hrail (old : Bool) (r : Nat) (t : State) : OtpKept t (t.reviseRail old cyc r) := otp_reviseRail ..
  have hport (old : Bool) (p : Nat) (t : State) : OtpKept t (t.revisePort old cyc p) := otp_revisePort ..
  have hatlas (p : Nat) (t : State) : OtpKept t (t.atlasApply false cyc p) := otp_atlasApply ..
  unfold revise
  split
  · exact otp_modAge ..
  · refine (otp_record ..).trans <| (otp_modAge ..).trans <| (OtpKept.loop hatlas _).trans ?_
    rw [otp_ite, otp_eolCheck, ite_self]
    exact (otp_modAge ..).trans <| (otp_setF ..).trans <| (OtpKept.loop (hport _) _).trans (OtpKept.loop (hrail _) _)
theorem otp_reviseOwed : s.reviseOwed.otp = s.otp := by simp only [reviseOwed, otp_modAge, otp_revise, otp_ite, ite_self]
theorem otp_ageCmd (w : Word) (cyc : Nat) : (s.ageCmd w cyc).otp = s.otp := by
  simp only [ageCmd, otp_forEach, otp_revise, otp_record, otp_modAgeRail, otp_modAgePort, otp_wr', otp_ite, ite_self, implies_true]
theorem otp_ageBoot (cyc : Nat) : (s.ageBoot cyc).otp = s.otp := by simp only [ageBoot]; split <;> simp only [otp_raise, otp_setF]

/-! ### Alu -/

theorem otp_alu2 (x : Instr) (i : Issue) (d a b : Nat) (f : Word → Word → Res) : (alu2 x i d a b f s).otp = s.otp := by
  simp only [alu2, otp_issueRegs]
theorem otp_alu1 (x : Instr) (i : Issue) (d a : Nat) (f : Word → Res) : (alu1 x i d a f s).otp = s.otp := by simp only [alu1, otp_issueRegs]
theorem otp_aluShift (x : Instr) (i : Issue) (d a b : Nat) (f : Word → Nat → Res) : (aluShift x i d a b f s).otp = s.otp := by
  simp only [aluShift, otp_issueRegs]

/-! ### Rights -/

theorem otp_rightsLoad : s.rightsLoad.otp = s.otp := by
  simp only [rightsLoad, otp_forEach, otp_setF, otp_raise, otp_wr', otp_ite, ite_self, implies_true]
theorem otp_rightsLoadTile (n : Nat) : (s.rightsLoadTile n).otp = s.otp := by simp only [rightsLoadTile, otp_wr']
theorem otp_rgtCmd (w : Word) : (s.rgtCmd w).1.otp = s.otp := by simp only [rgtCmd, otp_setF, otp_fst_ite, ite_self]
theorem otp_rgtTighten (p : Nat) (w : Word) : (s.rgtTighten p w).otp = s.otp := by simp only [rgtTighten, otp_wr']

/-! ### Power -/

theorem otp_modPws (f : PwsSt → PwsSt) : (s.modPws f).otp = s.otp := by simp only [modPws]
theorem otp_setPwState (v : Nat) : (s.setPwState v).otp = s.otp := by simp only [setPwState, otp_setF, otp_recordAt, otp_ite, ite_self]
theorem otp_tileSleep (n : Nat) (on : Bool) : (s.tileSleep n on).otp = s.otp := by simp only [tileSleep, otp_forEach, otp_modCore, implies_true]
theorem otp_dozeTile (n : Nat) : (s.dozeTile n).otp = s.otp := by
  simp only [dozeTile, otp_recordAt, otp_setF, otp_modTile, otp_tileSleep, otp_ite, ite_self]
theorem otp_undozeTile (n : Nat) : (s.undozeTile n).otp = s.otp := by
  simp only [undozeTile, otp_recordAt, otp_setF, otp_modTile, otp_tileSleep, otp_ite, ite_self]
theorem otp_pwSettle : s.pwSettle.otp = s.otp := by simp only [pwSettle, otp_setPwState, otp_ite, ite_self]
theorem otp_exitDone (t : Int) (st : Nat) : (s.exitDone t st).otp = s.otp := by simp only [exitDone, otp_raiseAtS, otp_wr', otp_ite, ite_self]
theorem otp_entryStart (kind : Nat) (ok : Bool) : (s.entryStart kind ok).otp = s.otp := by
  simp only [entryStart, otp_setF, otp_modPws, otp_flushStart, otp_sesSave, otp_ite, ite_self]
theorem otp_entryEnd : s.entryEnd.otp = s.otp := by simp only [entryEnd, otp_setF, otp_modPws]
theorem otp_lullEnter : s.lullEnter.otp = s.otp := by
  simp only [lullEnter]; split <;> simp only [otp_forEach, otp_setPwState, otp_entryEnd, otp_modPws, otp_alignedSettle, otp_setF, otp_modLink,
    otp_tileSleep, otp_modCore, otp_setPeriod, otp_dozeTile, otp_modTile, otp_rateCancel, otp_switchCancel, otp_raiseAtS, otp_ite, ite_self,
    implies_true]
theorem otp_lullWake (pin : Bool) (cyc : Nat) : (s.lullWake pin cyc).otp = s.otp := by
  simp only [lullWake, otp_modPws, otp_entryEnd, otp_raise, otp_ite, ite_self]
theorem otp_lullLinks : s.lullLinks.otp = s.otp := by unfold lullLinks; split <;> simp only [otp_setF, otp_modLink, otp_ite, ite_self]
theorem otp_readopt : s.readopt.otp = s.otp := by simp only [readopt, otp_linkRefused, otp_setSstate, otp_ite, ite_self]
theorem otp_powerTick (old : Nat) (wake : Bool) : (s.powerTick old wake).otp = s.otp := by
  simp only [powerTick]; split <;> simp only [otp_forEach, otp_setPwState, otp_setF, otp_undozeTile, otp_lullLinks, otp_modTile, otp_modPws, otp_ite,
    ite_self, implies_true]

/-! ### Update -/

theorem otp_flashPut (a : Nat) (l : List Nat) : (s.flashPut a l).otp = s.otp := by simp only [flashPut]
theorem otp_flashErase (a n : Nat) : (s.flashErase a n).otp = s.otp := by simp only [flashErase]
theorem otp_bootRecWrite (f : BootRec → BootRec) : (s.bootRecWrite f).otp = s.otp := by simp only [bootRecWrite]
theorem otp_setUpd (v : Nat) : (s.setUpd v).otp = s.otp := by simp only [setUpd, otp_setF]
theorem otp_updErr (e : Nat) : (s.updErr e).otp = s.otp := by simp only [updErr, otp_setF]
theorem otp_updWrong : s.updWrong.1.otp = s.otp := by simp only [updWrong, otp_updErr]
theorem otp_flashFail (cyc : Nat) : (s.flashFail cyc).otp = s.otp := by simp only [flashFail, otp_updErr, otp_setUpd, otp_raise]
theorem otp_updOpen (ok : Bool) (cyc : Nat) : (s.updOpen ok cyc).1.otp = s.otp := by
  simp only [updOpen, otp_updWrong, otp_flashFail, otp_flashErase, otp_setUpd, otp_setF, otp_fst_ite, ite_self]
theorem otp_dlByte (b : Nat) : (s.dlByte b).otp = s.otp := by unfold dlByte; split <;> simp only [otp_flashPut, otp_flashErase, otp_ite, ite_self]
theorem otp_dlSettle : s.dlSettle.otp = s.otp := by unfold dlSettle; split <;> simp only [otp_flashPut, otp_setUpd, otp_ite, ite_self]
theorem otp_dlWrite (ofs : Nat) (l : List Nat) (ok : Bool) (cyc : Nat) : (s.dlWrite ofs l ok cyc).1.otp = s.otp := by
  simp only [dlWrite, otp_forList, otp_dlByte, otp_dlSettle, otp_flashFail, otp_fst_ite, ite_self, implies_true]
theorem otp_dlDataWrite (w : Word) (ok : Bool) (cyc : Nat) : (s.dlDataWrite w ok cyc).otp = s.otp := by
  simp only [dlDataWrite, otp_wrPair, otp_dlWrite, otp_wr', otp_ite, ite_self]
theorem otp_updVerify : s.updVerify.1.otp = s.otp := by simp only [updVerify, otp_updWrong, otp_setUpd, otp_setF, otp_fst_ite, ite_self]
theorem otp_updActivate : s.updActivate.1.otp = s.otp := by simp only [updActivate, otp_setUpd, otp_updErr, otp_updWrong, otp_fst_ite, ite_self]
theorem otp_putProgram (c bank : Nat) (l : List (BitVec 64)) : (s.putProgram c bank l).otp = s.otp := by
  simp only [putProgram, otp_foldl, otp_putBundle, implies_true]
theorem otp_settingsFill : s.settingsFill.otp = s.otp := by simp only [settingsFill, otp_flashPut, otp_setF, otp_flashErase, otp_ite, ite_self]
theorem otp_updAbort : s.updAbort.1.otp = s.otp := by simp only [updAbort, otp_updWrong, otp_activationEnds, otp_setUpd, otp_fst_ite, ite_self]
theorem otp_runImage (slot : Nat) : (s.runImage slot).otp = s.otp := by simp only [runImage, otp_setF, otp_wr']
theorem otp_trialStart (k : Nat) : (s.trialStart k).otp = s.otp := by
  simp only [trialStart, otp_recordAt, otp_setF, otp_runImage, otp_setUpd, otp_bootRecWrite]
theorem otp_trialOver : s.trialOver.otp = s.otp := by simp only [trialOver, otp_setUpd, otp_setF, otp_runImage, otp_bootRecWrite]
theorem otp_updConfirm (port : Nat) (w : Word) : (s.updConfirm port w).1.otp = s.otp := by simp only [updConfirm, otp_fst_ite, ite_self]
theorem otp_fallBack (reason cyc : Nat) : (s.fallBack reason cyc).otp = s.otp := by
  simp only [fallBack]
  repeat' split
  all_goals simp only [otp_fallbackSwitch, otp_switchCancel, otp_record, otp_rateCancel, otp_setUpd, otp_setF, otp_raise]
theorem otp_trialTick (n : Nat) : (s.trialTick n).otp = s.otp := by simp only [trialTick, otp_setF, otp_ite, ite_self]
theorem otp_updReject (cyc : Nat) : (s.updReject cyc).1.otp = s.otp := by simp only [updReject, otp_updWrong, otp_fallBack, otp_fst_ite, ite_self]
theorem otp_updCmd (w : Word) (ok : Bool) (cyc : Nat) : (s.updCmd w ok cyc).1.otp = s.otp := by
  simp only [updCmd, otp_updReject, otp_updAbort, otp_updActivate, otp_updVerify, otp_updOpen, otp_fst_ite, ite_self]

/-! ### Boot -/

theorem otp_packReset (kind : Nat) : (s.packReset kind).otp = s.otp := by
  simp only [packReset, otp_forList, otp_rightsLoad, otp_setF, otp_wr', otp_enterRecords, otp_ite, ite_self, implies_true]
theorem otp_bootCmd (w : Word) : (s.bootCmd w).otp = s.otp := by simp only [bootCmd, otp_ite, ite_self]
theorem otp_resetFlush : s.resetFlush.otp = s.otp := by simp only [resetFlush, otp_flushStart, otp_ite, ite_self]
theorem otp_loadLane (slot budget l : Nat) : (s.loadLane slot budget l).otp = s.otp := by
  simp only [loadLane, otp_refuseLoad, otp_raise, otp_setF, otp_putProgram, otp_ite, ite_self]
theorem otp_loadTile (slot budget n : Nat) : (s.loadTile slot budget n).otp = s.otp := by
  simp only [loadTile, otp_forEach, otp_foldl, otp_loadLane, otp_putProgram, otp_modCore, implies_true]
theorem otp_setRun (l : Nat) : (s.setRun l).otp = s.otp := by simp only [setRun, otp_setF, otp_modCore]
theorem otp_settingPers (e : Nat × Nat) : (s.settingPers e).otp = s.otp := by
  unfold settingPers; split <;> simp only [otp_persClasses, otp_ite, ite_self]
theorem otp_setting (e : Nat × Nat) : (s.setting e).otp = s.otp := by
  unfold setting
  repeat' split
  all_goals simp only [otp_envTake, otp_classSet, otp_twbCtlWrite, otp_wr', otp_modPort, otp_ite, ite_self]
theorem otp_keepClasses (words : List (Nat × Nat)) : (s.keepClasses words).otp = s.otp := by simp only [keepClasses]
theorem otp_tileClasses (n : Nat) : (s.tileClasses n).otp = s.otp := by
  simp only [tileClasses, otp_forEach, otp_forList, otp_setting, otp_persClasses, otp_ite, ite_self, implies_true]
theorem otp_firstPeriod (words : List (Nat × Nat)) : (s.firstPeriod words).otp = s.otp := by
  unfold firstPeriod; split <;> simp only [otp_wr', otp_setF, otp_ite, ite_self]
theorem otp_updBoot : s.updBoot.otp = s.otp := by unfold updBoot; split <;> simp only [otp_setUpd]
theorem otp_recover (cause : Nat) : (s.recover cause).otp = s.otp := by simp only [recover, otp_updBoot, otp_setF]
theorem otp_bootRecord : s.bootRecord.1.otp = s.otp := by unfold bootRecord; split <;> simp only [otp_setF, otp_raise, otp_fst_ite, ite_self]
theorem otp_bootRecords (trial : Option Nat) (failed setDef : Option (Nat × Nat)) : (s.bootRecords trial failed setDef).otp = s.otp := by
  unfold bootRecords
  repeat' split
  all_goals simp only [otp_record, otp_ite, ite_self]
theorem otp_firstLock : s.firstLock.otp = s.otp := by simp only [firstLock, otp_setLock, otp_ite, ite_self]
theorem otp_startRefused (p : Nat) : (s.startRefused p).otp = s.otp := by simp only [startRefused, otp_raise]
theorem otp_firstTick : s.firstTick.otp = s.otp := by
  simp only [firstTick, otp_forEach, otp_forList, otp_flushStart, otp_wdgServe, otp_genTick, otp_startRefused, otp_portOn, otp_raise, otp_modWdg,
    otp_firstLock, otp_setRun, otp_wrPair, otp_setF, otp_ite, ite_self, implies_true]
theorem otp_bootSlot (b : BootIn) (slot : Nat) (trial : Option Nat) (other : Option (Nat × Nat)) : (s.bootSlot b slot trial other).otp = s.otp := by
  unfold bootSlot; split <;> simp only [otp_forEach, otp_forList, otp_foldl, otp_firstTick, otp_bootRecords, otp_reviseOwed, otp_updBoot, otp_wr',
    otp_alignCheck, otp_atlasApply, otp_strBoot, otp_setting, otp_ageBoot, otp_keepClasses, otp_settingPers, otp_envLoad, otp_recBoot, otp_loadTile,
    otp_firstPeriod, otp_raise, otp_runImage, otp_setF, otp_ite, ite_self, implies_true]
theorem otp_powerDown : s.powerDown.otp = s.otp := by simp only [powerDown, otp_packReset]
theorem otp_tileRstWrite (w : Word) : (s.tileRstWrite w).otp = s.otp := by
  simp only [tileRstWrite, otp_forEach, otp_setF, otp_modTile, otp_ite, ite_self, implies_true]
theorem otp_tileRegs (n : Nat) : (s.tileRegs n).otp = s.otp := by
  simp only [tileRegs]
  refine otp_forList _ _ _ fun e t => ?_
  split
  · exact t.otp_wr' ..
  · rfl
theorem otp_tileGone (n cyc : Nat) : (s.tileGone n cyc).otp = s.otp := by simp only [tileGone, otp_raise, otp_fallBack, otp_tileSafe, otp_setF]
theorem otp_switchTile (n : Nat) : (s.switchTile n).otp = s.otp := by unfold switchTile; split <;> simp only [otp_switchCancel, otp_ite, ite_self]

/-! ### Debug -/

theorem otp_perfTick : s.perfTick.otp = s.otp := by simp only [perfTick, otp_forEach, otp_countP, otp_countT, otp_ite, ite_self, implies_true]
theorem otp_prfCtlWrite (w : Word) : (s.prfCtlWrite w).otp = s.otp := by simp only [prfCtlWrite, otp_setF, otp_ite, ite_self]
theorem otp_census : s.census.otp = s.otp := by simp only [census, otp_forEach, otp_modTile, otp_bump, otp_ite, ite_self, implies_true]
theorem otp_cenAdvance (n : Nat) : (s.cenAdvance n).otp = s.otp := by simp only [cenAdvance, otp_setF]
theorem otp_tagCtlWrite (n : Nat) (w : Word) : (s.tagCtlWrite n w).otp = s.otp := by
  simp only [tagCtlWrite, otp_forEach, otp_wr', otp_modCore, implies_true]
theorem otp_tagPop (n : Nat) : (s.tagPop n).otp = s.otp := by unfold tagPop; split <;> simp only [otp_foldl, otp_wr', otp_modTile, implies_true]
theorem otp_traceLane (l : Nat) : (s.traceLane l).otp = s.otp := by simp only [traceLane, otp_traceCap]
theorem otp_tracePort (p : Nat) : (s.tracePort p).otp = s.otp := by simp only [tracePort, otp_traceCap]
theorem otp_traceGains (l : Nat) : (s.traceGains l).otp = s.otp := by simp only [traceGains, otp_traceCap]
theorem otp_traceEnd (n : Nat) : (s.traceEnd n).otp = s.otp := by unfold traceEnd; split <;> simp only [otp_setF, otp_ite, ite_self]
theorem otp_traceTrigger (n cyc : Nat) : (s.traceTrigger n cyc).otp = s.otp := by
  simp only [traceTrigger, otp_raise, otp_traceEnd, otp_modTile, otp_setF, otp_wrPair]
theorem otp_traceCommit (n : Nat) : (s.traceCommit n).otp = s.otp := by
  simp only [traceCommit, otp_traceEnd, otp_traceTrigger, otp_modTile, otp_setF, otp_ite, ite_self]
theorem otp_traceTick (n : Nat) : (s.traceTick n).otp = s.otp := by simp only [traceTick, otp_modTile, otp_setF, otp_ite, ite_self]
theorem otp_traceArm (n : Nat) : (s.traceArm n).otp = s.otp := by simp only [traceArm, otp_modTile, otp_wr', otp_setF]
theorem otp_traceForce (n : Nat) : (s.traceForce n).otp = s.otp := by simp only [traceForce, otp_modTile, otp_ite, ite_self]
theorem otp_trcCtlWrite (n : Nat) (w : Word) : (s.trcCtlWrite n w).otp = s.otp := by
  simp only [trcCtlWrite, otp_traceArm, otp_traceForce, otp_setF, otp_ite, ite_self]
theorem otp_haltPort (k : Nat) : (s.haltPort k).otp = s.otp := by simp only [haltPort, otp_enterSafeOn, otp_ite, ite_self]
theorem otp_haltReq (k : Nat) : (s.haltReq k).otp = s.otp := by simp only [haltReq, otp_haltPort, otp_modCore, otp_ite, ite_self]
theorem otp_hardHalt (k cyc : Nat) : (s.hardHalt k cyc).otp = s.otp := by
  simp only [hardHalt, otp_haltPort, otp_setCore', otp_undoBundle, otp_countCore, otp_modCore, otp_raise, otp_ite, ite_self]
theorem otp_sctlWrite (n : Nat) (w : Word) (cyc : Nat) : (s.sctlWrite n w cyc).otp = s.otp := by
  simp only [sctlWrite, otp_hardHalt, otp_haltReq, otp_modCore, otp_irq, otp_ite, ite_self]
theorem otp_lctlWrite (l : Nat) (w : Word) (cyc : Nat) : (s.lctlWrite l w cyc).otp = s.otp := by
  simp only [lctlWrite, otp_hardHalt, otp_haltReq, otp_modCore, otp_setF, otp_ite, ite_self]
theorem otp_resumeTick (l : Nat) : (s.resumeTick l).otp = s.otp := by simp only [resumeTick, otp_modCore, otp_ite, ite_self]
theorem otp_dbgRegPut (k i : Nat) (w : Word) {t : State} (h : s.dbgRegPut k i w = some t) : t.otp = s.otp := by
  unfold dbgRegPut at h
  repeat' split at h
  all_goals cases h
  all_goals simp only [otp_modRegs, otp_modCore]
theorem otp_dbgBundle (b : BitVec 64) : (s.dbgBundle b).1.otp = s.otp := by simp only [dbgBundle, otp_wr']
theorem otp_dbgAdvance : s.dbgAdvance.otp = s.otp := by simp only [dbgAdvance, otp_setF]
theorem otp_dbgRead : s.dbgRead.1.otp = s.otp := by unfold dbgRead; split <;> simp only [otp_dbgBundle, otp_fst_ite, ite_self]
theorem otp_dbgWrite (w : Word) (live : Bool) (cyc : Nat) : (s.dbgWrite w live cyc).1.otp = s.otp := by
  simp only [dbgWrite]
  split
  · simp only [otp_fst_ite, otp_raise, otp_dbgAdvance, ite_self]
  · split
    · split
      · rename_i t ht
        exact (otp_dbgAdvance t).trans (otp_dbgRegPut _ _ _ _ ht)
      · rfl
    · rfl
  · simp only [otp_fst_ite, otp_dbgAdvance, ite_self]
  · rfl
theorem otp_dbgMirror : s.dbgMirror.otp = s.otp := by simp only [dbgMirror, otp_forList, implies_true]
theorem otp_bsrLoad (l : List Bool) : (s.bsrLoad l).otp = s.otp := by simp only [bsrLoad]
theorem otp_sessionWrite (port : Nat) (w : Word) (cyc : Nat) : (s.sessionWrite port w cyc).otp = s.otp := by
  simp only [sessionWrite, otp_raise, otp_setF, otp_ite, ite_self]

/-! ### Mac -/

theorem otp_accIns (x : Instr) (i : Issue) (ad : Nat) (f : CoreRegs → AccRes) : (accIns x i ad f s).otp = s.otp := by
  simp only [accIns, otp_issueRegs]
theorem otp_dataIns (x : Instr) (i : Issue) (d : Nat) (f : CoreRegs → Res) : (dataIns x i d f s).otp = s.otp := by simp only [dataIns, otp_issueRegs]

/-! ### Steps -/

theorem otp_commitLane (l cyc : Nat) (h : HeldWrite) : (s.commitLane l cyc h).otp = s.otp := by
  unfold commitLane; split <;> simp only [otp_modPort, otp_outIssue]
theorem otp_stcWrite (k a : Nat) (w : Word) (cyc : Nat) : (s.stcWrite k a w cyc).otp = s.otp := by
  simp only [stcWrite, otp_modRegs, otp_bump, otp_raise, otp_wr', otp_cramPut, otp_ite, ite_self]
theorem otp_commitSteward (k cyc : Nat) (h : HeldWrite) : (s.commitSteward k cyc h).otp = s.otp := by
  unfold commitSteward; split <;> simp only [otp_stcWrite]
theorem otp_retire (l cyc : Nat) : (s.retire l cyc).otp = s.otp := by
  simp only [retire, otp_traceLane, otp_handover, otp_raise, otp_setF, otp_modCore, otp_ite, ite_self]
theorem otp_runInstr (x : Instr) : (runInstr x s).otp = s.otp := by
  cases x
  case add | adds | sub | subs | addu | subu | min | max | clip | and | or | xor =>
    simp only [runInstr, toState, execAdd, execAdds, execSub, execSubs, execAddu, execSubu, execMin, execMax, execClip, execAnd, execOr, execXor]
    exact otp_alu2 ..
  case neg | negs | abs | abss | norm | not | addi | addis | andi | ori | xori | asri | lsri | lsli | lslis =>
    simp only [runInstr, toState, execNeg, execNegs, execAbs, execAbss, execNorm, execNot, execAddi, execAddis, execAndi, execOri, execXori,
      execAsri, execLsri, execLsli, execLslis]
    exact otp_alu1 ..
  case asr | lsr | lsl | lsls =>
    simp only [runInstr, toState, execAsr, execLsr, execLsl, execLsls]
    exact otp_aluShift ..
  case cmp | cmpi | paddi | aclr | aget | aput | mov | mvp | mpd | movl | movh | movp =>
    simp only [runInstr, toState, execCmp, execCmpi, execPaddi, execAclr, execAget, execAput, execMov, execMvp, execMpd, execMovl, execMovh, execMovp]
    exact otp_issueRegs ..
  case mpy | mac | msu | aadd | asub | ash | mvda =>
    simp only [runInstr, toState, execMpy, execMac, execMsu, execAadd, execAsub, execAsh, execMvda]
    exact otp_accIns ..
  case mpyd | macd | satw | wrw | satg | satc =>
    simp only [runInstr, toState, execMpyd, execMacd, execSatw, execWrw, execSatg, execSatc]
    exact otp_dataIns ..
  case nop =>
    simp only [runInstr, toState, execNop]
    exact otp_issueAny (hbody := fun _ _ => rfl) ..
  case trap =>
    simp only [runInstr, toState, execTrap]
    exact otp_issue (hbody := fun _ t => otp_modCore ..) ..
  case mvc | mcd | xchr =>
    simp only [runInstr, toState, execMvc, execMcd, execXchr]
    exact otp_issue (hbody := fun _ t => otp_modRegs ..) ..
  case ldg | stg =>
    simp only [runInstr, toState, execLdg, execStg]
    refine otp_issue (hbody := fun _ t => ?_) ..
    simp only [otp_ite, otp_mpuRefuse, otp_modCore, otp_gzCount, ite_self]
  case ld | ldp | ldc =>
    simp only [runInstr, toState, execLd, execLdp, execLdc]
    refine otp_issueMem (hbody := fun _ _ t => ?_) ..
    simp only [otp_modRegs, otp_corrected, otp_ite, otp_countT, ite_self]
  case st | stp =>
    simp only [runInstr, toState, execSt, execStp]
    exact otp_issueMem (hbody := fun _ _ t => otp_storeMem ..) ..
  case stc =>
    simp only [runInstr, toState, execStc]
    refine otp_issueMem (hbody := fun _ _ t => ?_) ..
    simp only [otp_ite, otp_modCore, otp_cramPut, otp_modRegs, otp_wr', otp_raise, otp_bump, ite_self]
  case br | call | jmp | callr | ret =>
    simp only [runInstr, toState, execBr, execCall, execJmp, execCallr, execRet]
    refine otp_issueOutside (hbody := fun _ t => ?_) ..
    simp only [otp_jumpTo, otp_modRegs]
  case loop | lock =>
    simp only [runInstr, toState, execLoop, execLock]
    exact otp_issueOutside (hbody := fun _ t => otp_modCore ..) ..
  case reti =>
    simp only [runInstr, toState, execReti]
    refine otp_issueOutside (hbody := fun _ t => ?_) ..
    simp only [otp_ite, otp_jumpTo, otp_modCore, otp_precise, ite_self]
  case wait | mvs =>
    simp only [runInstr, toState, execWait, execMvs]
    exact otp_issuePriv (hbody := fun _ t => otp_modCore ..) ..
  case msv =>
    simp only [runInstr, toState, execMsv]
    exact otp_issuePriv (hbody := fun _ t => otp_modRegs ..) ..
  case mpuw =>
    simp only [runInstr, toState, execMpuw]
    refine otp_issuePriv (hbody := fun _ t => ?_) ..
    simp only [otp_ite, otp_raise, otp_modCore, ite_self]
  case smp | sco =>
    simp only [runInstr, toState, execSmp, execSco]
    exact otp_issueLane (hbody := fun _ t => otp_modRegs ..) ..
  case out =>
    simp only [runInstr, toState, execOut]
    refine otp_issueLane (hbody := fun _ t => ?_) ..
    simp only [otp_ite, otp_modCore, otp_modRegs, otp_outJudge, otp_outIssue, ite_self]
  case xchs =>
    simp only [runInstr, toState, execXchs]
    refine otp_issueLane (hbody := fun _ t => ?_) ..
    simp only [otp_ite, otp_modCore, ite_self]
  case tbl =>
    simp only [runInstr, toState, execTbl]
    refine otp_issueLane (hbody := fun _ t => ?_) ..
    simp only [otp_modRegs, otp_corrected, otp_countT]
  case envt =>
    simp only [runInstr, toState, execEnvt]
    refine otp_issueLane (hbody := fun _ t => ?_) ..
    simp only [otp_modRegs, otp_ite, otp_modCore, otp_envtIssue, otp_envSettle, ite_self]
  case tickend =>
    simp only [runInstr, toState, execTickend]
    exact otp_issueLane (hbody := fun _ t => otp_retire ..) ..
  case unlock =>
    simp only [runInstr, toState, execUnlock]
    refine otp_issueAny (hbody := fun _ t => ?_) ..
    split
    · simp only [otp_ite, otp_precise, ite_self]
    · simp only [otp_ite, otp_modCore, otp_forList, otp_commitSteward, otp_commitLane, ite_self, implies_true]
  all_goals rfl
theorem otp_stepCore (k cyc : Nat) : (s.stepCore k cyc).otp = s.otp := by
  simp only [stepCore]
  repeat' split
  all_goals simp only [otp_modCore, otp_precise, otp_mpuRefuse, otp_runInstr, otp_setCore']

/-! ### Access -/

theorem otp_capture (l : Loc) (peek : Bool) : (s.capture l peek).otp = s.otp := by unfold capture; split <;> simp only [otp_ite, ite_self]

/-! ### Gazetteer -/

theorem otp_clearRc (l : Loc) (d : RegDesc) : (s.clearRc l d).otp = s.otp := by simp only [clearRc, otp_wr', otp_ite, ite_self]
theorem otp_readWord (l : Loc) (d : RegDesc) (peek : Bool) : (s.readWord l d peek).1.otp = s.otp := by
  have hread : (s.capture l peek).dbgRead.1.otp = s.otp := by simp only [otp_dbgRead, otp_capture]
  simp only [readWord]
  split
  · split
    · split <;> rename_i hd <;> rw [hd] at hread
      · split
        · exact otp_capture ..
        · exact (otp_dbgAdvance _).trans hread
      · exact otp_capture ..
    · simp only [otp_ite, otp_clearRc, otp_capture, ite_self]
  · simp only [otp_fst_ite, otp_ite, otp_tagPop, otp_cenAdvance, otp_clearRc, otp_capture, ite_self]
  · simp only [otp_ite, otp_clearRc, otp_capture, ite_self]
theorem otp_plainWrite (l : Loc) (w : Word) : (s.plainWrite l w).otp = s.otp := by unfold plainWrite; split <;> simp only [otp_wr']
theorem otp_accepted : (accepted s).1.otp = s.otp := by simp only [accepted]
theorem otp_lctlAccess (x : Access) (l : Nat) (w : Word) (cyc : Nat) : (s.lctlAccess x l w cyc).1.otp = s.otp := by
  simp only [lctlAccess, otp_stepCore, otp_accepted, otp_lctlWrite, otp_raise, otp_ite, otp_fst_ite, ite_self]
theorem otp_readWords (peek : Bool) (l : List Nat) : (s.readWords peek l).1.otp = s.otp := by
  induction l generalizing s with
  | nil => rfl
  | cons a l ih =>
    unfold readWords
    split
    · rfl
    · split
      · rfl
      · exact (ih _).trans (otp_readWord ..)
theorem otp_holeRefuse (x : Access) : (s.holeRefuse x).otp = s.otp := by simp only [holeRefuse, otp_wr', otp_bump]
theorem otp_rightsRefuse (x : Access) (straddle : Bool) (cyc : Nat) : (s.rightsRefuse x straddle cyc).otp = s.otp := by
  simp only [rightsRefuse, otp_wr', otp_bump, otp_raise, otp_ite, ite_self]
theorem otp_downRefuse (x : Access) (cyc : Nat) {t : State} (h : s.downRefuse x cyc = some t) : t.otp = s.otp := by
  obtain ⟨n, -, rfl⟩ := Option.map_eq_some_iff.1 h
  exact otp_raise ..
theorem otp_fabricCount (x : Access) : (s.fabricCount x).otp = s.otp := by
  simp only [fabricCount, otp_forList, otp_countT, otp_ite, ite_self, implies_true]
theorem otp_settleEnv (x : Access) (cyc : Nat) : (s.settleEnv x cyc).otp = s.otp := by
  unfold settleEnv
  refine otp_forList _ _ _ fun e t => ?_
  split
  · simp only [otp_ite, otp_envSettle, ite_self]
  · rfl
theorem otp_cellResult (c : Cell) (status : Nat) (ws : List Word) (cyc : Nat) : (s.cellResult c status ws cyc).otp = s.otp := by
  simp only [cellResult, otp_sendResult]
theorem otp_stewardGoes (n : Nat) : (s.stewardGoes n).otp = s.otp := by simp only [stewardGoes, otp_modCore]
theorem otp_stewardDone (n : Nat) (r : Ans) (cyc : Nat) : (s.stewardDone n r cyc).otp = s.otp := by
  simp only [stewardDone]
  repeat' split
  all_goals simp only [otp_stewardGoes, otp_modRegs, otp_countCore]
theorem otp_finish (x : Access) (r : Ans) (cyc : Nat) : (s.finish x r cyc).otp = s.otp := by
  unfold finish; split <;> simp only [otp_cmlSet, otp_modBus, otp_dgramResult, otp_cellResult, otp_stewardDone, otp_ite, ite_self]
theorem otp_transferFails (src dst cyc : Nat) : (s.transferFails src dst cyc).otp = s.otp := by
  simp only [transferFails, otp_raise, otp_countT, otp_setF]
theorem otp_transfer (src dst cyc : Nat) : (s.transfer src dst cyc).1.otp = s.otp := by
  unfold transfer
  repeat' split
  all_goals simp only [otp_transferFails]
theorem otp_transfers (cyc : Nat) (l : List (Nat × Nat)) : (s.transfers cyc l).1.otp = s.otp := by
  induction l generalizing s with
  | nil => rfl
  | cons e l ih => simp only [transfers, otp_fst_ite, ih, otp_transfer, ite_self]

/-! ### Commands -/

theorem otp_dgStale (d : Dgram) (cyc : Nat) : (s.dgStale d cyc).otp = s.otp := by simp only [dgStale, otp_dgResult, otp_bump, otp_raise]
theorem otp_dgRelay (f : Frame) (d : Dgram) (cyc : Nat) : (s.dgRelay f d cyc).otp = s.otp := by
  unfold dgRelay; split <;> simp only [otp_modMgt, otp_enqueue, otp_number, otp_dgramResult]
theorem otp_queryRun (port rights : Nat) (ws : List Word) (cyc : Nat) (k : State → List Word → State) (hk : ∀ y0 y1,
    (k y0 y1).otp = y0.otp) : (s.queryRun port rights ws cyc k).otp = s.otp := by
  simp only [queryRun]; split <;> simp only [hk, otp_rightsRefuse]
theorem otp_imageBytes (ofs : Nat) (l : List Nat) (ok : Bool) (cyc : Nat) : (s.imageBytes ofs l ok cyc).1.otp = s.otp := by
  simp only [imageBytes, otp_dlWrite, otp_updOpen, otp_fst_ite, ite_self]
theorem otp_bulkDenied (port rights cyc : Nat) : (s.bulkDenied port rights cyc).otp = s.otp := by simp only [bulkDenied, otp_rightsRefuse]
theorem otp_settingsBytes (live ofs : Nat) (l : List Nat) : (s.settingsBytes live ofs l).1.otp = s.otp := by
  simp only [settingsBytes, otp_flashErase, otp_flashPut, otp_ite, otp_fst_ite, ite_self]

/-! ### PmBus -/

theorem otp_nackAt (b k : Nat) : (s.nackAt b k).otp = s.otp := by simp only [nackAt, otp_countP, otp_modBus]
theorem otp_pmDenied (t : Txn) (write : Bool) : (s.pmDenied t write).otp = s.otp := by simp only [pmDenied, otp_rightsRefuse, otp_nackAt]
theorem otp_pmBegin (t : Txn) (write : Bool) (cls : Option Nat) (k : State → State) (hk : ∀ y0,
    (k y0).otp = y0.otp) : (s.pmBegin t write cls k).otp = s.otp := by
  simp only [pmBegin, hk, otp_pmDenied, otp_cmlSet, otp_nackAt, otp_modBus, otp_countP, otp_riseCheck, otp_ite, ite_self]
theorem otp_pmSend (t : Txn) (bytes : List Nat) : (s.pmSend t bytes).otp = s.otp := by simp only [pmSend, otp_modBus]
theorem otp_busRead (t : Txn) (bytes : State → List Nat) : (s.busRead t bytes).otp = s.otp := by
  simp only [busRead, otp_pmSend, otp_pmBegin, implies_true]
theorem otp_portRead (t : Txn) (bytes : State → Nat → List Nat) : (s.portRead t bytes).otp = s.otp := by
  simp only [portRead, otp_pmSend, otp_cmlSet, otp_nackAt, otp_pmBegin, otp_ite, ite_self, implies_true]
theorem otp_pmEnd (t : Txn) (n : Nat) (k : State → State) (hk : ∀ y0, (k y0).otp = y0.otp) : (s.pmEnd t n k).otp = s.otp := by
  unfold pmEnd
  repeat' split
  all_goals simp only [hk, otp_cmlSet, otp_bump, otp_raise, otp_nackAt, otp_ite, ite_self]
theorem otp_badData (t : Txn) (k : Nat) : (s.badData t k).otp = s.otp := by simp only [badData, otp_cmlSet, otp_nackAt]
theorem otp_enqueueWrite (b : Nat) (w : TwbWrite) : (s.enqueueWrite b w).otp = s.otp := by simp only [enqueueWrite, otp_setF, otp_modBus]
theorem otp_gzRefuse (c : Txn) (x : Access) {t : State} (h : s.gzRefuse c x = some t) : t.otp = s.otp := by
  simp only [gzRefuse] at h
  split at h
  · cases h
    exact otp_rightsRefuse ..
  · split at h
    · rename_i hd
      cases h
      exact otp_downRefuse _ _ _ hd
    · split at h
      · cases h
        exact otp_holeRefuse ..
      · cases h

/-! ### Tick -/

theorem otp_nextTick : s.nextTick.otp = s.otp := by simp only [nextTick, otp_wrPair, otp_srcBoundary]
theorem otp_shiftTick (n : Nat) : (s.shiftTick n).otp = s.otp := by
  simp only [shiftTick]
  refine (otp_forEach _ _ _ fun t u => ?_).trans (otp_forEach _ _ _ fun p t => otp_modPort ..)
  split
  · simp only [otp_modTile, otp_countT]
  · rfl
theorem otp_senseAll (old : Nat) (conv : List (Nat × PortConv)) : (s.senseAll old conv).otp = s.otp := by
  simp only [senseAll, otp_forEach, otp_sensePort, otp_ite, ite_self, implies_true]
theorem otp_boundaries : s.boundaries.otp = s.otp := by
  simp only [boundaries, otp_forEach, otp_fuseBoundary, otp_portBoundary, otp_fuseSettle, otp_modCore, otp_resumeTick, otp_ite, ite_self,
    implies_true]
theorem otp_gainsTick : s.gainsTick.otp = s.otp := by
  simp only [gainsTick, otp_forEach, otp_railG7, otp_strGains, otp_coeffLane, otp_ite, ite_self, implies_true]
theorem otp_envelopeTick (p : Nat) : (s.envelopeTick p).otp = s.otp := by
  simp only [envelopeTick, otp_voltWindow, otp_driverFaultTick, otp_tripArises, otp_slowAverage, otp_envSettle, otp_fuseTick, otp_ite, ite_self]
theorem otp_hoursTick (n : Nat) : (s.hoursTick n).otp = s.otp := by simp only [hoursTick, otp_modRec]
theorem otp_irqTick (k : Nat) : (s.irqTick k).otp = s.otp := by simp only [irqTick, otp_forEach, otp_irq, otp_ite, ite_self, implies_true]
theorem otp_packageTick (n : Nat) (wake : Bool) : (s.packageTick n wake).otp = s.otp := by
  simp only [packageTick, otp_hoursTick, otp_trialTick, otp_ptpBoundary, otp_alignedSettle, otp_powerTick, otp_resetFlush, otp_delayStep,
    otp_holdTick, otp_holdCapTick, otp_capBoundary, otp_shedStep, otp_shedPorts, otp_waveTick]
theorem otp_sampleStep (conv : List (Nat × PortConv)) (wake : Bool) : (s.sampleStep conv wake).otp = s.otp := by
  have hrail (noisy : List Nat) (r : Nat) (t : State) : OtpKept t ((t.railTick r).burstTick noisy r) :=
    (otp_burstTick ..).trans (otp_railTick ..)
  generalize h : s.sampleStep conv wake = t
  simp only [sampleStep] at h
  subst h
  simp only [otp_ite, otp_forEach, otp_irqTick, otp_packageTick, otp_genTick, otp_fanTick, otp_rdsTick, OtpKept.loop (hrail _),
    otp_noUnitCheck, otp_strTick, otp_envelopeTick, otp_gainsTick, otp_boundaries, otp_tracePort, otp_traceTick, otp_perfTick,
    otp_fallBack, otp_classify, otp_senseAll, otp_shiftTick, otp_nextTick, ite_self, implies_true]
theorem otp_laneOpen (l : Nat) : (s.laneOpen l).otp = s.otp := by simp only [laneOpen, otp_traceGains, otp_modCore, otp_ite, ite_self]
theorem otp_cellBad (n l : Nat) : (s.cellBad n l).otp = s.otp := by simp only [cellBad, otp_raise, otp_countT, otp_setF, otp_ite, ite_self]
theorem otp_receive : s.receive.otp = s.otp := by simp only [receive]
theorem otp_cramApply (n : Nat) : (s.cramApply n).otp = s.otp := by
  simp only [cramApply]
  repeat' split
  all_goals simp only [otp_modTile, otp_countT]
theorem otp_showSamples (p : Nat) : (s.showSamples p).otp = s.otp := by simp only [showSamples, otp_wr', otp_ite, ite_self]
theorem otp_shareSend (r : Nat) : (s.shareSend r).otp = s.otp := by
  simp only [shareSend]
  repeat' split
  all_goals simp only [otp_originate, otp_takeWord]
theorem otp_mirrorStep : s.mirrorStep.otp = s.otp := by
  simp only [mirrorStep, otp_forEach, otp_dbgMirror, otp_traceCommit, otp_mirrorRefresh, otp_histograms, otp_census, otp_railTelemetry,
    otp_holdupReserve, otp_showSamples, otp_railForm, otp_shareSend, otp_cramApply, otp_receive, otp_irqTick, implies_true]

/-! ### TileReset -/

theorem otp_portsReset (n : Nat) : (s.portsReset n).otp = s.otp := by
  simp only [portsReset, otp_forEach, otp_persClasses, otp_modPort, otp_modFuse, otp_ite, ite_self, implies_true]
theorem otp_keepSafe (z : State) (s : State) (p : Nat) : (keepSafe s z p).otp = z.otp := by simp only [keepSafe, otp_setF]

end State

end Sys2Proof.Machine

/-! # The commands that leave the OTP alone

A command of these has one row of `exec`; the row's operations leave the OTP alone. -/

namespace Sys2Proof.Machine

/-- In every state the command completes and leaves the OTP as it is. -/
def KeepsOtp (c : Instr) : Prop := ∀ s, Completes c s fun t => t.otp = s.otp

section
open State

theorem keepsOtp_sampleInstant {conv wake} : KeepsOtp (.sampleInstant conv wake) :=
  fun _ => ⟨_, rfl, by simp only [otp_sampleStep, otp_ite, ite_self]⟩
theorem keepsOtp_computeWindowOpen : KeepsOtp .computeWindowOpen :=
  fun _ => ⟨_, rfl, by simp only [otp_laneOpen, otp_forEach, otp_ite, ite_self, implies_true]⟩
theorem keepsOtp_exchangeWindow {bad} : KeepsOtp (.exchangeWindow bad) :=
  fun _ => ⟨_, rfl, by simp only [otp_cellBad, otp_countT, otp_overrunCheck, otp_forEach, otp_forList, otp_ite, ite_self, implies_true]⟩
theorem keepsOtp_mirrorWindow : KeepsOtp .mirrorWindow := fun _ => ⟨_, rfl, by simp only [otp_mirrorStep, otp_ite, ite_self]⟩
theorem keepsOtp_guard : KeepsOtp .guard := fun _ => ⟨_, rfl, rfl⟩
theorem keepsOtp_tickMarkerArrival {n came crcOk waited cyc} : KeepsOtp (.tickMarkerArrival n came crcOk waited cyc) :=
  fun _ => ⟨_, rfl, by simp only [otp_setF, otp_raise, otp_modTile, otp_ite, ite_self]⟩
theorem keepsOtp_fabricDelayMeasure {n dly cyc} : KeepsOtp (.fabricDelayMeasure n dly cyc) :=
  fun _ => ⟨_, rfl, by simp only [otp_alignCheck, otp_ite, ite_self]⟩
theorem keepsOtp_tileRejoin {n ms dly} : KeepsOtp (.tileRejoin n ms dly) :=
  fun _ => ⟨_, rfl, by simp only [otp_recordAt, otp_atlasApply, otp_setF, otp_modTile, otp_wr', otp_alignCheck, otp_setRun, otp_loadTile,
    otp_tileClasses, otp_forEach, otp_ite, ite_self, implies_true]⟩
theorem keepsOtp_tileAckLost {n cyc} : KeepsOtp (.tileAckLost n cyc) := fun _ => ⟨_, rfl, by simp only [otp_modTile, otp_tileGone, otp_ite, ite_self]⟩
theorem keepsOtp_syncInEdge {pos gap} : KeepsOtp (.syncInEdge pos gap) :=
  fun _ => ⟨_, rfl, by simp only [otp_syncLock, otp_pwmEdge, otp_forEach, implies_true]⟩
theorem keepsOtp_lockAchieved {cyc} : KeepsOtp (.lockAchieved cyc) :=
  fun _ => ⟨_, rfl, by simp only [otp_setLock, otp_surveyLocked, otp_ite, ite_self]⟩
theorem keepsOtp_lockHoldover {cyc} : KeepsOtp (.lockHoldover cyc) := fun _ => ⟨_, rfl, by simp only [otp_setLock, otp_raise, otp_ite, ite_self]⟩
theorem keepsOtp_rateCheckComplete : KeepsOtp .rateCheckComplete := by
  refine fun _ => ⟨_, rfl, ?_⟩
  dsimp only
  repeat' split
  all_goals simp only [otp_ratePend, otp_rateJudge]
theorem keepsOtp_rateChangeApply : KeepsOtp .rateChangeApply := by
  refine fun _ => ⟨_, rfl, ?_⟩
  dsimp only
  repeat' split
  all_goals simp only [otp_ratePend, otp_rateApply]
theorem keepsOtp_loadCheckComplete {l} : KeepsOtp (.loadCheckComplete l) :=
  fun _ => ⟨_, rfl, by simp only [otp_loadJudge, otp_irq, otp_setF, otp_ite, ite_self]⟩
theorem keepsOtp_switchCheckComplete : KeepsOtp .switchCheckComplete := by
  refine fun _ => ⟨_, rfl, ?_⟩
  split <;> simp only [otp_activationEnds, otp_irqAll, otp_setF, otp_handoverLate, otp_ite, ite_self]
theorem keepsOtp_bankSwitch : KeepsOtp .bankSwitch := by
  refine fun _ => ⟨_, rfl, ?_⟩
  split <;> simp only [otp_trialOver, otp_trialStart, otp_switchApply, otp_ite, ite_self]
theorem keepsOtp_memDoubleError {k cyc} : KeepsOtp (.memDoubleError k cyc) :=
  fun _ => ⟨_, rfl, by simp only [otp_enterSafe, otp_laneStop, otp_modCore, otp_raise, otp_precise, otp_ite, ite_self]⟩
theorem keepsOtp_interruptEntry {n} : KeepsOtp (.interruptEntry n) := by
  refine fun _ => ⟨_, rfl, ?_⟩
  split <;> simp only [otp_setCore', otp_countCore, otp_ite, ite_self]
theorem keepsOtp_preciseException {n cause a cyc} : KeepsOtp (.preciseException n cause a cyc) :=
  fun _ => ⟨_, rfl, by simp only [otp_raise, otp_precise, otp_mpuRefuse, otp_ite, ite_self]⟩
theorem keepsOtp_slowAdcConversion {n uv} : KeepsOtp (.slowAdcConversion n uv) := by
  refine fun _ => ⟨_, rfl, ?_⟩
  dsimp only
  repeat' split
  all_goals simp only [otp_modTile, otp_modPort]
theorem keepsOtp_pwmUpdatePoint {p u mid pos} : KeepsOtp (.pwmUpdatePoint p u mid pos) := by
  refine fun _ => ⟨_, rfl, ?_⟩
  split <;> simp only [otp_updatePoint, otp_ite, ite_self]
theorem keepsOtp_ocComparatorFire {p u cyc} : KeepsOtp (.ocComparatorFire p u cyc) :=
  fun _ => ⟨_, rfl, by simp only [otp_tripArises, otp_raise, otp_ocFire, otp_ocCrosses, otp_ite, ite_self]⟩
theorem keepsOtp_rcComparatorFire {p raw cyc} : KeepsOtp (.rcComparatorFire p raw cyc) :=
  fun _ => ⟨_, rfl, by simp only [otp_setF, otp_modFuse, otp_rcFire, otp_ite, ite_self]⟩
theorem keepsOtp_driverFaultInput {p cyc} : KeepsOtp (.driverFaultInput p cyc) := fun _ => ⟨_, rfl, by simp only [otp_driverFault, otp_tripArises]⟩
theorem keepsOtp_tachEdge {p per} : KeepsOtp (.tachEdge p per) := fun _ => ⟨_, rfl, by simp only [otp_wr', otp_modPort, otp_ite, ite_self]⟩
theorem keepsOtp_fanStandstill {p} : KeepsOtp (.fanStandstill p) := fun _ => ⟨_, rfl, by simp only [otp_wr', otp_modPort, otp_ite, ite_self]⟩
theorem keepsOtp_fanStallCheck {p cyc} : KeepsOtp (.fanStallCheck p cyc) := fun _ => ⟨_, rfl, by simp only [otp_raise, otp_ite, ite_self]⟩
theorem keepsOtp_pwmSyncHoldover {p cyc} : KeepsOtp (.pwmSyncHoldover p cyc) :=
  fun _ => ⟨_, rfl, by simp only [otp_modPort, otp_setF, otp_raise, otp_ite, ite_self]⟩
theorem keepsOtp_railDetectConversion {r code excl cyc} : KeepsOtp (.railDetectConversion r code excl cyc) :=
  fun _ => ⟨_, rfl, by simp only [otp_railTrunc, otp_railFire, otp_modRail, otp_ite, ite_self]⟩
theorem keepsOtp_fuseGridPoint {p cyc conv} : KeepsOtp (.fuseGridPoint p cyc conv) :=
  fun _ => ⟨_, rfl, by simp only [otp_gridPins, otp_takeTrips, otp_fuseOff, otp_fuseMoves, otp_modFuse, otp_gridOut, otp_rcFollow, otp_gridMeans,
    otp_ite, ite_self]⟩
theorem keepsOtp_fuseInrushTimeout {p cyc} : KeepsOtp (.fuseInrushTimeout p cyc) :=
  fun _ => ⟨_, rfl, by simp only [otp_fuseFail, otp_gridPins, otp_ite, ite_self]⟩
theorem keepsOtp_fuseRetryProgressCheck {p cyc} : KeepsOtp (.fuseRetryProgressCheck p cyc) :=
  fun _ => ⟨_, rfl, by simp only [otp_fuseFail, otp_gridPins, otp_ite, ite_self]⟩
theorem keepsOtp_fuseOfftimeExpire {p} : KeepsOtp (.fuseOfftimeExpire p) :=
  fun _ => ⟨_, rfl, by simp only [otp_fuseInrush, otp_fuseOff, otp_modFuse, otp_ite, ite_self]⟩
theorem keepsOtp_fuseCleanExpire {p} : KeepsOtp (.fuseCleanExpire p) := fun _ => ⟨_, rfl, by simp only [otp_setF, otp_ite, ite_self]⟩
theorem keepsOtp_oringGridPoint {p cyc conv} : KeepsOtp (.oringGridPoint p cyc conv) :=
  fun _ => ⟨_, rfl, by simp only [otp_gridPins, otp_raise, otp_setF, otp_modFuse, otp_rcFollow, otp_gridOut, otp_gridMean, otp_ite, ite_self]⟩
theorem keepsOtp_staggerExpire : KeepsOtp .staggerExpire :=
  fun _ => ⟨_, rfl, by simp only [otp_startRefused, otp_modPort, otp_setF, otp_forList, otp_ite, ite_self, implies_true]⟩
theorem keepsOtp_stringInsertion {u cyc} : KeepsOtp (.stringInsertion u cyc) :=
  fun _ => ⟨_, rfl, by simp only [otp_raise, otp_ocvCorrect, otp_setF, otp_modStr, otp_wr', otp_ite, ite_self]⟩
theorem keepsOtp_stringRemoval {u cyc} : KeepsOtp (.stringRemoval u cyc) :=
  fun _ => ⟨_, rfl, by simp only [otp_raise, otp_strWrite, otp_strGone, otp_ite, ite_self]⟩
theorem keepsOtp_restCorrection {u cyc} : KeepsOtp (.restCorrection u cyc) :=
  fun _ => ⟨_, rfl, by simp only [otp_ocvCorrect, otp_setF, otp_ite, ite_self]⟩
theorem keepsOtp_endOfCharge {u} : KeepsOtp (.endOfCharge u) :=
  fun _ => ⟨_, rfl, by simp only [otp_setF, otp_strWrite, otp_setQ, otp_modStr, otp_ite, ite_self]⟩
theorem keepsOtp_endOfDischarge {u cyc} : KeepsOtp (.endOfDischarge u cyc) :=
  fun _ => ⟨_, rfl, by simp only [otp_setF, otp_strWrite, otp_learn, otp_setQ, otp_modStr, otp_emptyCheck, otp_ite, ite_self]⟩
theorem keepsOtp_stringRecordWrite {u} : KeepsOtp (.stringRecordWrite u) := fun _ => ⟨_, rfl, by simp only [otp_strWrite]⟩
theorem keepsOtp_stringRecordWriteDone {u ok cyc} : KeepsOtp (.stringRecordWriteDone u ok cyc) := by
  refine fun _ => ⟨_, rfl, ?_⟩
  split <;> simp only [otp_strWrite, otp_raise, otp_modStr, otp_setF, otp_ite, ite_self]
theorem keepsOtp_pfailAssert : KeepsOtp .pfailAssert := by
  refine fun _ => ⟨_, rfl, ?_⟩
  repeat' split
  all_goals simp only [otp_flushStart, otp_modRec, otp_recordNow, otp_activationEnds, otp_setF, otp_ite, ite_self]
theorem keepsOtp_holdEntry : KeepsOtp .holdEntry := fun _ => ⟨_, rfl, by simp only [otp_raiseAtS, otp_setF, otp_ite, ite_self]⟩
theorem keepsOtp_holdExit : KeepsOtp .holdExit := fun _ => ⟨_, rfl, by simp only [otp_capSettle, otp_setF, otp_ite, ite_self]⟩
theorem keepsOtp_linkSlot {l j} : KeepsOtp (.linkSlot l j) := by
  refine fun _ => ⟨_, rfl, ?_⟩
  dsimp only
  repeat' split
  all_goals simp only [otp_alarmCell, otp_slotSend, otp_countP, otp_modLink]
theorem keepsOtp_alarmFoldBack {q} : KeepsOtp (.alarmFoldBack q) := by
  refine fun _ => ⟨_, rfl, ?_⟩
  split <;> simp only [otp_bump, otp_forList, otp_ite, ite_self, implies_true]
theorem keepsOtp_idleCell {l c cyc} : KeepsOtp (.idleCell l c cyc) := by
  refine fun _ => ⟨_, rfl, ?_⟩
  split
  · exact otp_cellIn (hlocal_ := fun t => otp_ackIn t c) ..
  · exact otp_cellLink (hk := fun _ => rfl) ..
theorem keepsOtp_markerCell {l m t2 gap cyc} : KeepsOtp (.markerCell l m t2 gap cyc) :=
  fun _ => ⟨_, rfl, by simp only [otp_alignedSettle, otp_epochIn, otp_annIn, otp_refEdge, otp_thetaIn, otp_modLink, otp_setF, otp_linkIn, otp_ite,
    ite_self, implies_true]⟩
theorem keepsOtp_echoCell {l m t4 cyc} : KeepsOtp (.echoCell l m t4 cyc) :=
  fun _ => ⟨_, rfl, by simp only [otp_modLink, otp_setF, otp_linkIn, otp_ite, ite_self, implies_true]⟩
theorem keepsOtp_alarmCell {l c cyc} : KeepsOtp (.alarmCell l c cyc) :=
  fun _ => ⟨_, rfl, by simp only [otp_modLink, otp_cellLink, otp_ite, ite_self, implies_true]⟩
theorem keepsOtp_resultCell {l c cyc} : KeepsOtp (.resultCell l c cyc) :=
  fun _ => ⟨_, rfl, by simp only [otp_resultHome, otp_streamCell, otp_cellIn, implies_true]⟩
theorem keepsOtp_queryCell {l c cyc} : KeepsOtp (.queryCell l c cyc) :=
  fun _ => ⟨_, rfl, by simp only [otp_originate, otp_ackIn, otp_queryRun, otp_roleStale, otp_cellIn, otp_ite, ite_self, implies_true]⟩
theorem keepsOtp_answerCell {l c cyc} : KeepsOtp (.answerCell l c cyc) :=
  fun _ => ⟨_, rfl, by simp only [otp_ackIn, otp_keepCell, otp_cellIn, implies_true]⟩
theorem keepsOtp_surveyDiscover {l c cyc} : KeepsOtp (.surveyDiscover l c cyc) :=
  fun _ => ⟨_, rfl, by simp only [otp_passOn, otp_sendOn, otp_surveyIn, otp_ite, ite_self, implies_true]⟩
theorem keepsOtp_surveyFound {l c cyc} : KeepsOtp (.surveyFound l c cyc) :=
  fun _ => ⟨_, rfl, by simp only [otp_passOn, otp_headFound, otp_surveyIn, otp_ite, ite_self, implies_true]⟩
theorem keepsOtp_surveyEnd {l c ms cyc} : KeepsOtp (.surveyEnd l c ms cyc) :=
  fun _ => ⟨_, rfl, by simp only [otp_passOn, otp_endString, otp_surveySettle, otp_surveyIn, otp_ite, ite_self, implies_true]⟩
theorem keepsOtp_surveyAssign {l c cyc} : KeepsOtp (.surveyAssign l c cyc) :=
  fun _ => ⟨_, rfl, by simp only [otp_passOn, otp_sendOn, otp_setSstate, otp_setF, otp_wr', otp_surveyIn, otp_ite, ite_self, implies_true]⟩
theorem keepsOtp_surveyDone {l c ms cyc} : KeepsOtp (.surveyDone l c ms cyc) :=
  fun _ => ⟨_, rfl, by simp only [otp_passOn, otp_mapDone, otp_surveySettle, otp_headNext, otp_surveyIn, otp_ite, ite_self, implies_true]⟩
theorem keepsOtp_surveyAssignReq {l c cyc} : KeepsOtp (.surveyAssignReq l c cyc) := by
  refine fun _ => ⟨_, rfl, otp_surveyIn (hk := fun t => ?_) ..⟩
  split
  · extract_lets r
    have hr : r.1.otp = t.otp := otp_assign ..
    split <;> simp only [otp_learnRoute, otp_originate, hr]
  · exact otp_passOn ..
theorem keepsOtp_surveyAssignAck {l c cyc} : KeepsOtp (.surveyAssignAck l c cyc) := by
  refine fun _ => ⟨_, rfl, otp_surveyIn (hk := fun t => ?_) ..⟩
  repeat' split
  all_goals simp only [otp_learnRoute, otp_passOn, otp_sendAssign, otp_topology]
theorem keepsOtp_surveyStart {cyc} : KeepsOtp (.surveyStart cyc) := fun _ => ⟨_, rfl, by simp only [otp_startSurvey]⟩
theorem keepsOtp_surveyTimeout {l ms cyc} : KeepsOtp (.surveyTimeout l ms cyc) := by
  refine fun _ => ⟨_, rfl, ?_⟩
  split <;> simp only [otp_sendOn, otp_sendDiscover, otp_raise, otp_surveySettle, otp_modHead, otp_setF, otp_ite, ite_self]
theorem keepsOtp_surveyGapProbe {l cyc} : KeepsOtp (.surveyGapProbe l cyc) := by
  refine fun _ => ⟨_, rfl, ?_⟩
  split <;> simp only [otp_sendDiscover, otp_ite, ite_self]
theorem keepsOtp_measureComplete {cyc} : KeepsOtp (.measureComplete cyc) :=
  fun _ => ⟨_, rfl, by simp only [otp_linkRefused, otp_setSstate, otp_sendDone, otp_ite, ite_self]⟩
theorem keepsOtp_countAdopt {cyc} : KeepsOtp (.countAdopt cyc) := by
  refine fun _ => ⟨_, rfl, ?_⟩
  split <;> simp only [otp_setSstate, otp_sendDone, otp_setF, otp_setLock, otp_setPeriod, otp_recordAt, otp_wrPair, otp_ite, ite_self]
theorem keepsOtp_linkTrained {l} : KeepsOtp (.linkTrained l) := fun _ => ⟨_, rfl, by simp only [otp_setSstate, otp_setF, otp_ite, ite_self]⟩
theorem keepsOtp_linkDown {l cyc} : KeepsOtp (.linkDown l cyc) :=
  fun _ => ⟨_, rfl, by simp only [otp_alignedSettle, otp_setSstate, otp_raise, otp_setF, otp_ite, ite_self]⟩
theorem keepsOtp_ackIdleSend {a cyc} : KeepsOtp (.ackIdleSend a cyc) := by
  refine fun _ => ⟨_, rfl, ?_⟩
  split <;> simp only [otp_originate, otp_ite, ite_self]
theorem keepsOtp_shedApply {l c cyc} : KeepsOtp (.shedApply l c cyc) := fun _ => ⟨_, rfl, by simp only [otp_shedCell]⟩
theorem keepsOtp_shedRelease {l c cyc} : KeepsOtp (.shedRelease l c cyc) := fun _ => ⟨_, rfl, by simp only [otp_shedCell]⟩
theorem keepsOtp_shedSet {l c cyc} : KeepsOtp (.shedSet l c cyc) := fun _ => ⟨_, rfl, by simp only [otp_shedCell]⟩
theorem keepsOtp_waveApply {cyc} : KeepsOtp (.waveApply cyc) := fun _ => ⟨_, rfl, by simp only [otp_waveApply, otp_forList, implies_true]⟩
theorem keepsOtp_shareCell {l c cyc} : KeepsOtp (.shareCell l c cyc) :=
  fun _ => ⟨_, rfl, by simp only [otp_cramPut, otp_streamCell, otp_roleStale, otp_cellIn, otp_ite, ite_self, implies_true]⟩
theorem keepsOtp_tlmCell {l c cyc} : KeepsOtp (.tlmCell l c cyc) :=
  fun _ => ⟨_, rfl, by simp only [otp_keepCell, otp_sendBoth, otp_streamCell, otp_cellIn, otp_ite, ite_self, implies_true]⟩
theorem keepsOtp_recCell {l c cyc} : KeepsOtp (.recCell l c cyc) :=
  fun _ => ⟨_, rfl, by simp only [otp_keepCell, otp_flagFar, otp_streamCell, otp_cellIn, implies_true]⟩
theorem keepsOtp_bulkCell {l c ok cyc} : KeepsOtp (.bulkCell l c ok cyc) :=
  fun _ => ⟨_, rfl, by simp only [otp_originate, otp_imageBytes, otp_bulkDenied, otp_streamCell, otp_cellIn, otp_ite, ite_self, implies_true]⟩
theorem keepsOtp_logCell {l c cyc} : KeepsOtp (.logCell l c cyc) :=
  fun _ => ⟨_, rfl, by simp only [otp_keepCell, otp_streamCell, otp_cellIn, implies_true]⟩
theorem keepsOtp_capPinAssert {cyc} : KeepsOtp (.capPinAssert cyc) :=
  fun _ => ⟨_, rfl, by simp only [otp_setF, otp_capSettle, otp_raise, otp_ite, ite_self]⟩
theorem keepsOtp_capPinRelease : KeepsOtp .capPinRelease := fun _ => ⟨_, rfl, by simp only [otp_setF, otp_capSettle, otp_ite, ite_self]⟩
theorem keepsOtp_wavePeriodicSet : KeepsOtp .wavePeriodicSet := fun _ => ⟨_, rfl, by simp only [otp_waveOrder, otp_ite, ite_self]⟩
theorem keepsOtp_dgramResult {f d cyc} : KeepsOtp (.dgramResult f d cyc) := fun _ => ⟨_, rfl, by simp only [otp_keepDgram, otp_dgIn, implies_true]⟩
theorem keepsOtp_dgramQuery {f d cyc} : KeepsOtp (.dgramQuery f d cyc) :=
  fun _ => ⟨_, rfl, by simp only [otp_sendBoth, otp_queryRun, otp_dgStale, otp_dgIn, otp_ite, ite_self, implies_true]⟩
theorem keepsOtp_dgramAnswer {f d cyc} : KeepsOtp (.dgramAnswer f d cyc) := fun _ => ⟨_, rfl, by simp only [otp_keepDgram, otp_dgIn, implies_true]⟩
theorem keepsOtp_dgramShed {f d cyc} : KeepsOtp (.dgramShed f d cyc) :=
  fun _ => ⟨_, rfl, by simp only [otp_waveOrder, otp_dgResult, otp_dgIn, otp_ite, ite_self, implies_true]⟩
theorem keepsOtp_dgramTlm {f d cyc} : KeepsOtp (.dgramTlm f d cyc) := fun _ => ⟨_, rfl, by simp only [otp_keepDgram, otp_dgIn, implies_true]⟩
theorem keepsOtp_dgramHealth {f d cyc} : KeepsOtp (.dgramHealth f d cyc) := fun _ => ⟨_, rfl, by simp only [otp_keepDgram, otp_dgIn, implies_true]⟩
theorem keepsOtp_dgramBulk {f d ok cyc} : KeepsOtp (.dgramBulk f d ok cyc) :=
  fun _ => ⟨_, rfl, by simp only [otp_sendPath, otp_modMgt, otp_pathsSettle, otp_sessionPath, otp_settingsBytes, otp_imageBytes, otp_bulkDenied,
    otp_dgStream, otp_dgIn, otp_ite, ite_self, otp_fst_ite, implies_true]⟩
theorem keepsOtp_dgramBulkAck {f d cyc} : KeepsOtp (.dgramBulkAck f d cyc) := by
  refine fun _ => ⟨_, rfl, otp_dgIn (hk := fun t => ?_) ..⟩
  split <;> simp only [otp_modMgt, otp_ite, ite_self]
theorem keepsOtp_dgramRec {f d cyc} : KeepsOtp (.dgramRec f d cyc) :=
  fun _ => ⟨_, rfl, by simp only [otp_keepDgram, otp_dgStream, otp_dgIn, otp_ite, ite_self, implies_true]⟩
theorem keepsOtp_dgramRecAck {f d cyc} : KeepsOtp (.dgramRecAck f d cyc) := by
  refine fun _ => ⟨_, rfl, otp_dgIn (hk := fun t => ?_) ..⟩
  split <;> simp only [otp_modRec, otp_modMgt]
theorem keepsOtp_probe {f d cyc} : KeepsOtp (.probe f d cyc) := fun _ => ⟨_, rfl, by simp only [otp_sendPath, otp_dgIn, implies_true]⟩
theorem keepsOtp_probeEcho {f d rtt cyc} : KeepsOtp (.probeEcho f d rtt cyc) :=
  fun _ => ⟨_, rfl, by simp only [otp_pathUp, otp_setPath, otp_modMgt, otp_wr', otp_dgIn, otp_ite, ite_self, implies_true]⟩
theorem keepsOtp_probeSend : KeepsOtp .probeSend :=
  fun _ => ⟨_, rfl, by simp only [otp_sendTo, otp_modMgt, otp_forEach, otp_ite, ite_self, implies_true]⟩
theorem keepsOtp_probeLost {p n cyc} : KeepsOtp (.probeLost p n cyc) :=
  fun _ => ⟨_, rfl, by simp only [otp_pathDown, otp_bump, otp_modMgt, otp_ite, ite_self]⟩
theorem keepsOtp_arpRequest {f ip cyc} : KeepsOtp (.arpRequest f ip cyc) :=
  fun _ => ⟨_, rfl, by simp only [otp_sendTo, otp_frameIn, otp_ite, ite_self, implies_true]⟩
theorem keepsOtp_neighbourSolicitation {f ip cyc} : KeepsOtp (.neighbourSolicitation f ip cyc) :=
  fun _ => ⟨_, rfl, by simp only [otp_sendTo, otp_frameIn, otp_ite, ite_self, implies_true]⟩
theorem keepsOtp_icmpEchoRequest {f ip dst id cyc} : KeepsOtp (.icmpEchoRequest f ip dst id cyc) :=
  fun _ => ⟨_, rfl, by simp only [otp_sendPath, otp_sendBoth, otp_frameIn, otp_ite, ite_self, implies_true]⟩
theorem keepsOtp_prpSupervisionFrame {f} : KeepsOtp (.prpSupervisionFrame f) :=
  fun _ => ⟨_, rfl, by simp only [otp_bump, otp_pathIn, otp_ite, ite_self, implies_true]⟩
theorem keepsOtp_prpSupervisionSend : KeepsOtp .prpSupervisionSend := fun _ => ⟨_, rfl, by simp only [otp_sendTo]⟩
theorem keepsOtp_dupEntryExpire {mac seq cyc} : KeepsOtp (.dupEntryExpire mac seq cyc) := by
  refine fun _ => ⟨_, rfl, ?_⟩
  split <;> simp only [otp_forget]
theorem keepsOtp_compareWindowEnd {cyc} : KeepsOtp (.compareWindowEnd cyc) := fun _ => ⟨_, rfl, by simp only [otp_pathUp, otp_modMgt, otp_setF]⟩
theorem keepsOtp_sgmiiLinkChange {p sync link speedOk cyc} : KeepsOtp (.sgmiiLinkChange p sync link speedOk cyc) :=
  fun _ => ⟨_, rfl, by simp only [otp_setPath, otp_pathDown, otp_setF, otp_raise, otp_ite, ite_self]⟩
theorem keepsOtp_bothDownRepeat {cyc} : KeepsOtp (.bothDownRepeat cyc) := fun _ => ⟨_, rfl, by simp only [otp_raise, otp_ite, ite_self]⟩
theorem keepsOtp_sessionSave {ok} : KeepsOtp (.sessionSave ok) :=
  fun _ => ⟨_, rfl, by simp only [otp_setF, otp_sesSave, otp_modMgt, otp_ite, ite_self]⟩
theorem keepsOtp_healthSend : KeepsOtp .healthSend := fun _ => ⟨_, rfl, by simp only [otp_sendBoth]⟩
theorem keepsOtp_tlmSend {cyc} : KeepsOtp (.tlmSend cyc) := fun _ => ⟨_, rfl, by simp only [otp_originate, otp_sendBoth, otp_ite, ite_self]⟩
theorem keepsOtp_ptpSync {p domain v6 ident c sec ns rate ofs} : KeepsOtp (.ptpSync p domain v6 ident c sec ns rate ofs) :=
  fun _ => ⟨_, rfl, by simp only [otp_ptpMap, otp_ptpIn, implies_true]⟩
theorem keepsOtp_ptpFollowUp {p domain v6 ident c sec ns rate ofs} : KeepsOtp (.ptpFollowUp p domain v6 ident c sec ns rate ofs) :=
  fun _ => ⟨_, rfl, by simp only [otp_ptpMap, otp_ptpIn, implies_true]⟩
theorem keepsOtp_ptpAnnounce {p domain v6 d} : KeepsOtp (.ptpAnnounce p domain v6 d) := by
  refine fun _ => ⟨_, rfl, otp_ptpIn (hk := fun t => ?_) ..⟩
  split <;> simp only [otp_modMgt, otp_ite, ite_self]
theorem keepsOtp_ptpDelayResp {p domain v6 ident c sec ns rate ofs} : KeepsOtp (.ptpDelayResp p domain v6 ident c sec ns rate ofs) :=
  fun _ => ⟨_, rfl, by simp only [otp_ptpMap, otp_ptpIn, implies_true]⟩
theorem keepsOtp_ptpLost {cyc} : KeepsOtp (.ptpLost cyc) := fun _ => ⟨_, rfl, by simp only [otp_setF, otp_raise, otp_modMgt, otp_ite, ite_self]⟩
theorem keepsOtp_pageWrite {t v} : KeepsOtp (.pageWrite t v) :=
  fun _ => ⟨_, rfl, by simp only [otp_setF, otp_pmEnd, otp_badData, otp_pmBegin, otp_ite, ite_self, implies_true]⟩
theorem keepsOtp_pageRead {t} : KeepsOtp (.pageRead t) := fun _ => ⟨_, rfl, by simp only [otp_busRead]⟩
theorem keepsOtp_operationWrite {t v} : KeepsOtp (.operationWrite t v) :=
  fun _ => ⟨_, rfl, by simp only [otp_enqueueWrite, otp_pmEnd, otp_badData, otp_pmBegin, otp_ite, ite_self, implies_true]⟩
theorem keepsOtp_operationRead {t} : KeepsOtp (.operationRead t) := fun _ => ⟨_, rfl, by simp only [otp_portRead]⟩
theorem keepsOtp_clearFaults {t} : KeepsOtp (.clearFaults t) :=
  fun _ => ⟨_, rfl, by simp only [otp_enqueueWrite, otp_pmEnd, otp_pmBegin, implies_true]⟩
theorem keepsOtp_capability {t} : KeepsOtp (.capability t) := fun _ => ⟨_, rfl, by simp only [otp_busRead]⟩
theorem keepsOtp_voutMode {t} : KeepsOtp (.voutMode t) := fun _ => ⟨_, rfl, by simp only [otp_busRead]⟩
theorem keepsOtp_statusByte {t} : KeepsOtp (.statusByte t) := fun _ => ⟨_, rfl, by simp only [otp_portRead]⟩
theorem keepsOtp_statusWord {t} : KeepsOtp (.statusWord t) := fun _ => ⟨_, rfl, by simp only [otp_portRead]⟩
theorem keepsOtp_statusVout {t} : KeepsOtp (.statusVout t) := fun _ => ⟨_, rfl, by simp only [otp_portRead]⟩
theorem keepsOtp_statusIout {t} : KeepsOtp (.statusIout t) := fun _ => ⟨_, rfl, by simp only [otp_portRead]⟩
theorem keepsOtp_statusInput {t} : KeepsOtp (.statusInput t) := fun _ => ⟨_, rfl, by simp only [otp_portRead]⟩
theorem keepsOtp_statusCml {t} : KeepsOtp (.statusCml t) := fun _ => ⟨_, rfl, by simp only [otp_busRead]⟩
theorem keepsOtp_statusMfrSpecific {t} : KeepsOtp (.statusMfrSpecific t) := fun _ => ⟨_, rfl, by simp only [otp_portRead]⟩
theorem keepsOtp_readVin {t} : KeepsOtp (.readVin t) := fun _ => ⟨_, rfl, by simp only [otp_portRead]⟩
theorem keepsOtp_readVout {t} : KeepsOtp (.readVout t) := fun _ => ⟨_, rfl, by simp only [otp_portRead]⟩
theorem keepsOtp_readIout {t} : KeepsOtp (.readIout t) := fun _ => ⟨_, rfl, by simp only [otp_portRead]⟩
theorem keepsOtp_readTemperature1 {t} : KeepsOtp (.readTemperature1 t) := fun _ => ⟨_, rfl, by simp only [otp_portRead]⟩
theorem keepsOtp_readFanSpeed1 {t} : KeepsOtp (.readFanSpeed1 t) := fun _ => ⟨_, rfl, by simp only [otp_portRead]⟩
theorem keepsOtp_readPout {t} : KeepsOtp (.readPout t) := fun _ => ⟨_, rfl, by simp only [otp_portRead]⟩
theorem keepsOtp_pmbusRevision {t} : KeepsOtp (.pmbusRevision t) := fun _ => ⟨_, rfl, by simp only [otp_busRead]⟩
theorem keepsOtp_mfrId {t} : KeepsOtp (.mfrId t) := fun _ => ⟨_, rfl, by simp only [otp_busRead]⟩
theorem keepsOtp_mfrModel {t} : KeepsOtp (.mfrModel t) := fun _ => ⟨_, rfl, by simp only [otp_busRead]⟩
theorem keepsOtp_mfrGzPtr {t count addr top dir n} : KeepsOtp (.mfrGzPtr t count addr top dir n) :=
  fun _ => ⟨_, rfl, by simp only [otp_modBus, otp_pmEnd, otp_raise, otp_nackAt, otp_badData, otp_pmBegin, otp_ite, ite_self, implies_true]⟩
theorem keepsOtp_mfrGzDataRead {t} : KeepsOtp (.mfrGzDataRead t) := by
  refine fun _ => ⟨_, rfl, otp_pmBegin (hk := fun u => ?_) ..⟩
  dsimp only
  split
  · split
    case h_1 h => exact (otp_nackAt ..).trans (otp_gzRefuse _ _ _ h)
    · simp only [otp_pmSend, otp_nackAt, otp_ite, ite_self]
  · exact otp_nackAt ..
theorem keepsOtp_mfrGzDataWrite {t count ws} : KeepsOtp (.mfrGzDataWrite t count ws) := by
  refine fun _ => ⟨_, rfl, otp_pmBegin (hk := fun u => ?_) ..⟩
  dsimp only
  split
  · split
    case h_1 h => exact (otp_nackAt ..).trans (otp_gzRefuse _ _ _ h)
    · simp only [otp_pmEnd, otp_enqueueWrite, otp_badData, otp_ite, ite_self, implies_true]
  · exact otp_nackAt ..
theorem keepsOtp_alertResponseRead {b won} : KeepsOtp (.alertResponseRead b won) :=
  fun _ => ⟨_, rfl, by simp only [otp_alertClear, otp_modBus, otp_ite, ite_self]⟩
theorem keepsOtp_twbTimeout {b cyc} : KeepsOtp (.twbTimeout b cyc) := fun _ => ⟨_, rfl, by simp only [otp_cmlSet, otp_raise, otp_ite, ite_self]⟩
theorem keepsOtp_whistle {b} : KeepsOtp (.whistle b) := fun _ => ⟨_, rfl, by simp only [otp_setF, otp_modBus, otp_ite, ite_self]⟩
theorem keepsOtp_whistleRelease {b} : KeepsOtp (.whistleRelease b) := fun _ => ⟨_, rfl, by simp only [otp_setF]⟩
theorem keepsOtp_whistleAbort {b} : KeepsOtp (.whistleAbort b) := fun _ => ⟨_, rfl, by simp only [otp_setF, otp_bump, otp_modBus, otp_ite, ite_self]⟩
theorem keepsOtp_whistleRepeat {b} : KeepsOtp (.whistleRepeat b) := fun _ => ⟨_, rfl, by simp only [otp_setF, otp_modBus, otp_ite, ite_self]⟩
theorem keepsOtp_whistleSeen {b} : KeepsOtp (.whistleSeen b) := fun _ => ⟨_, rfl, by simp only [otp_setF, otp_irq, otp_ite, ite_self]⟩
theorem keepsOtp_twbXferDone {b err nb bytes scl sda cyc} : KeepsOtp (.twbXferDone b err nb bytes scl sda cyc) := by
  refine fun _ => ⟨_, rfl, ?_⟩
  split <;> simp only [otp_bufLoad, otp_riseCheck, otp_xferEnd, otp_ite, ite_self]
theorem keepsOtp_twbArbRetry {b} : KeepsOtp (.twbArbRetry b) := by
  refine fun _ => ⟨_, rfl, ?_⟩
  split <;> simp only [otp_modBus]
theorem keepsOtp_aliveChangeInstant {e} : KeepsOtp (.aliveChangeInstant e) :=
  fun _ => ⟨_, rfl, by simp only [otp_setF, otp_wdgTime, otp_ite, ite_self]⟩
theorem keepsOtp_wdgExpiry {e cyc} : KeepsOtp (.wdgExpiry e cyc) := fun _ => ⟨_, rfl, by simp only [otp_wdgExpire, otp_wdgTime, otp_ite, ite_self]⟩
theorem keepsOtp_wdoPulseEnd : KeepsOtp .wdoPulseEnd := by
  refine fun _ => ⟨_, rfl, ?_⟩
  split <;> simp only [otp_packReset, otp_modWdg, otp_ite, ite_self]
theorem keepsOtp_oscLost {cyc} : KeepsOtp (.oscLost cyc) := fun _ => ⟨_, rfl, by simp only [otp_wdgExpire]⟩
theorem keepsOtp_clkLost {e} : KeepsOtp (.clkLost e) := fun _ => ⟨_, rfl, by simp only [otp_wdgTime, otp_wdgExpire]⟩
theorem keepsOtp_recorderFlush : KeepsOtp .recorderFlush := fun _ => ⟨_, rfl, by simp only [otp_flushStart]⟩
theorem keepsOtp_flushComplete {failed ok cyc} : KeepsOtp (.flushComplete failed ok cyc) :=
  fun _ => ⟨_, rfl, by simp only [otp_flushStart, otp_clearNow, otp_irq, otp_raise, otp_recSave, otp_setF, otp_modRec, otp_recWrite, otp_forList,
    otp_ite, ite_self, implies_true]⟩
theorem keepsOtp_flushPeriodic : KeepsOtp .flushPeriodic := fun _ => ⟨_, rfl, by simp only [otp_flushStart]⟩
theorem keepsOtp_tokenRefill : KeepsOtp .tokenRefill := fun _ => ⟨_, rfl, by simp only [otp_modRec]⟩
theorem keepsOtp_recFetchDone : KeepsOtp .recFetchDone := by
  refine fun _ => ⟨_, rfl, ?_⟩
  split <;> simp only [otp_modRec, otp_wr', otp_foldl, implies_true]
theorem keepsOtp_recStreamSend {cyc} : KeepsOtp (.recStreamSend cyc) := by
  refine fun _ => ⟨_, rfl, ?_⟩
  repeat' split
  all_goals simp only [otp_sendPath, otp_modMgt, otp_originate, otp_modRec, otp_ite, ite_self]
theorem keepsOtp_roMonitorReport {n m0 m1 m2 m3 tj cyc} : KeepsOtp (.roMonitorReport n m0 m1 m2 m3 tj cyc) :=
  fun _ => ⟨_, rfl, by simp only [otp_raise, otp_setF, otp_foldl, otp_ite, ite_self, implies_true]⟩
theorem keepsOtp_avsStep {cyc} : KeepsOtp (.avsStep cyc) :=
  fun _ => ⟨_, rfl, by simp only [otp_avsStart, otp_raise, otp_record, otp_modAge, otp_setF, otp_ite, ite_self]⟩
theorem keepsOtp_capProbeBurstStart {r} : KeepsOtp (.capProbeBurstStart r) := fun _ => ⟨_, rfl, by simp only [otp_setBurst, otp_ite, ite_self]⟩
theorem keepsOtp_capProbeComplete {r rev} : KeepsOtp (.capProbeComplete r rev) := by
  refine fun _ => ⟨_, rfl, ?_⟩
  split <;> simp only [otp_modAgeRail, otp_takeNat, otp_setBurst, otp_ite, ite_self, otp_snd_ite]
theorem keepsOtp_atlasRevision {cyc} : KeepsOtp (.atlasRevision cyc) := fun _ => ⟨_, rfl, by simp only [otp_revise, otp_ite, ite_self]⟩
theorem keepsOtp_dozeEntry {n} : KeepsOtp (.dozeEntry n) := fun _ => ⟨_, rfl, by simp only [otp_dozeTile, otp_pwSettle, otp_ite, ite_self]⟩
theorem keepsOtp_dozeWakeEvent {n cyc} : KeepsOtp (.dozeWakeEvent n cyc) := fun _ => ⟨_, rfl, by simp only [otp_modTile, otp_ite, ite_self]⟩
theorem keepsOtp_dozeExit {n} : KeepsOtp (.dozeExit n) := by
  refine fun _ => ⟨_, rfl, ?_⟩
  split <;> simp only [otp_undozeTile, otp_exitDone, otp_pwSettle, otp_modPws, otp_ite, ite_self]
theorem keepsOtp_lullEntry {ok} : KeepsOtp (.lullEntry ok) := fun _ => ⟨_, rfl, by simp only [otp_entryStart, otp_lullEnter, otp_ite, ite_self]⟩
theorem keepsOtp_lullWakeEvent {pin cyc} : KeepsOtp (.lullWakeEvent pin cyc) :=
  fun _ => ⟨_, rfl, by simp only [otp_lullWake, otp_modPws, otp_ite, ite_self]⟩
theorem keepsOtp_lullExit : KeepsOtp .lullExit := by
  refine fun _ => ⟨_, rfl, ?_⟩
  split
  · rfl
  · simp only [otp_fallbackSwitch, otp_reviseOwed, otp_readopt, otp_exitDone, otp_setPwState, otp_modPws, otp_tileSleep, otp_setPeriod,
      otp_lullLinks, otp_undozeTile, otp_forEach, otp_ite, ite_self, implies_true]
theorem keepsOtp_keeperEntry {ok} : KeepsOtp (.keeperEntry ok) :=
  fun _ => ⟨_, rfl, by simp only [otp_recordNow, otp_entryStart, otp_powerDown, otp_ite, ite_self]⟩
theorem keepsOtp_keeperWake : KeepsOtp .keeperWake := fun _ => ⟨_, rfl, by simp only [otp_packReset, otp_setF, otp_ite, ite_self]⟩
theorem keepsOtp_powerOnReset : KeepsOtp .powerOnReset := fun _ => ⟨_, rfl, by simp only [otp_packReset, otp_ite, ite_self]⟩
theorem keepsOtp_pinReset : KeepsOtp .pinReset := fun _ => ⟨_, rfl, by simp only [otp_packReset]⟩
theorem keepsOtp_packageReset : KeepsOtp .packageReset := fun _ => ⟨_, rfl, by simp only [otp_packReset, otp_ite, ite_self]⟩
theorem keepsOtp_boot {b} : KeepsOtp (.boot b) :=
  fun _ => ⟨_, rfl, by simp only [otp_bootSlot, otp_bootRecord, otp_recover, otp_setF, otp_ite, ite_self]⟩
theorem keepsOtp_bootTimeout : KeepsOtp .bootTimeout := fun _ => ⟨_, rfl, by simp only [otp_recover, otp_ite, ite_self]⟩
theorem keepsOtp_updVerifyComplete {cyc} : KeepsOtp (.updVerifyComplete cyc) :=
  fun _ => ⟨_, rfl, by simp only [otp_setF, otp_updErr, otp_raise, otp_setUpd, otp_wr', otp_record, otp_ite, ite_self]⟩
theorem keepsOtp_activationChecksDone : KeepsOtp .activationChecksDone := by
  refine fun s => ⟨_, rfl, ?_⟩
  split
  · rfl
  extract_lets _ _ ls t u _ w v
  have hu : u.otp = s.otp := by
    simp only [u, t, otp_loadJudge, otp_putProgram, otp_modCore, otp_forEach, otp_forList, otp_ite, ite_self, implies_true]
  split
  · exact (otp_activationEnds ..).trans ((otp_wr' ..).trans hu)
  split
  · exact (otp_activationEnds ..).trans hu
  · simp only [otp_switchRequest, v, w, otp_setF, otp_forEach, otp_settingsFill, hu, implies_true]
theorem keepsOtp_confirmWindowExpire {cyc} : KeepsOtp (.confirmWindowExpire cyc) := fun _ => ⟨_, rfl, by simp only [otp_fallBack, otp_ite, ite_self]⟩
theorem keepsOtp_fallback {cyc} : KeepsOtp (.fallback cyc) := by
  refine fun _ => ⟨_, rfl, ?_⟩
  split <;> simp only [otp_fallBack]
theorem keepsOtp_fallbackTimeout : KeepsOtp .fallbackTimeout := fun _ => ⟨_, rfl, by simp only [otp_setF, otp_ite, ite_self]⟩
theorem keepsOtp_censusDrainDone {n} : KeepsOtp (.censusDrainDone n) := by
  refine fun _ => ⟨_, rfl, ?_⟩
  split
  · rfl
  · simp only [otp_setF, otp_bump, otp_forEach, otp_modTile, implies_true]
theorem keepsOtp_traceCrossTrigger {n cyc} : KeepsOtp (.traceCrossTrigger n cyc) :=
  fun _ => ⟨_, rfl, by simp only [otp_traceTrigger, otp_modTile, otp_forEach, otp_ite, ite_self, implies_true]⟩
theorem keepsOtp_tapReset : KeepsOtp .tapReset := fun _ => ⟨_, rfl, by simp only [otp_setF]⟩
theorem keepsOtp_extest {bits} : KeepsOtp (.extest bits) := fun _ => ⟨_, rfl, by simp only [otp_bsrLoad]⟩
theorem keepsOtp_samplePreload {bits} : KeepsOtp (.samplePreload bits) := fun _ => ⟨_, rfl, by simp only [otp_bsrLoad]⟩
theorem keepsOtp_idcode : KeepsOtp .idcode := fun _ => ⟨_, rfl, rfl⟩
theorem keepsOtp_bypass : KeepsOtp .bypass := fun _ => ⟨_, rfl, rfl⟩
theorem keepsOtp_dbgaccNop : KeepsOtp .dbgaccNop := fun _ => ⟨_, rfl, rfl⟩
theorem keepsOtp_stewardBreakpoint {n} : KeepsOtp (.stewardBreakpoint n) := fun _ => ⟨_, rfl, by simp only [otp_haltReq, otp_ite, ite_self]⟩
theorem keepsOtp_laneBreakpoint {l} : KeepsOtp (.laneBreakpoint l) := fun _ => ⟨_, rfl, by simp only [otp_haltReq, otp_ite, ite_self]⟩
theorem keepsOtp_stewardTimerExpiry {n t} : KeepsOtp (.stewardTimerExpiry n t) := fun _ => ⟨_, rfl, by simp only [otp_irq]⟩
theorem keepsOtp_pfailRelease : KeepsOtp .pfailRelease := fun _ => ⟨_, rfl, by simp only [otp_setF]⟩
theorem keepsOtp_driverFaultRelease {p} : KeepsOtp (.driverFaultRelease p) :=
  fun _ => ⟨_, rfl, by simp only [otp_setF, otp_modPort, otp_ite, ite_self]⟩
theorem keepsOtp_atlasRevisionComplete {ok cyc} : KeepsOtp (.atlasRevisionComplete ok cyc) :=
  fun _ => ⟨_, rfl, by simp only [otp_revise, otp_raise, otp_modAge, otp_ite, ite_self]⟩
theorem keepsOtp_updConfirmComplete : KeepsOtp .updConfirmComplete :=
  fun _ => ⟨_, rfl, by simp only [otp_record, otp_setUpd, otp_setF, otp_bootRecWrite, otp_ite, ite_self]⟩

end

end Sys2Proof.Machine

/-! # What the OTP grows by (R9, R229, R230, R336, R445, R446) -/

namespace Sys2Proof.Machine

theorem keepsBits.refl (t : Tab Word) : keepsBits t t := fun _ _ h => h

theorem keepsBits.trans {a b c : Tab Word} (hab : keepsBits a b) (hbc : keepsBits b c) : keepsBits a c :=
  fun k i h => hbc k i (hab k i h)

/-- A word that only gains ones keeps its table's ones. -/
theorem keepsBits_set_or (t : Tab Word) (k : Nat) (w : Word) : keepsBits t (Tab.set 0 t k (Tab.get 0 t k ||| w)) := by
  intro j b h
  by_cases hj : j = k
  · subst hj
    rw [Tab.get_set_same, BitVec.getLsbD_or, h, Bool.true_or]
  · rwa [Tab.get_set_ne 0 0 t _ hj]

namespace OtpSt

theorem grownFrom.refl (o : OtpSt) : o.grownFrom o :=
  ⟨.refl _, fun _ _ => rfl, Nat.le_refl _, id, .refl _, fun h => ⟨h, fun _ => rfl⟩, .refl _, fun _ _ => rfl, fun _ => id, fun _ => id⟩

theorem grownFrom.trans {a b c : OtpSt} (hab : b.grownFrom a) (hbc : c.grownFrom b) : c.grownFrom a where
  env := hab.env.trans hbc.env
  sealedWords k hk := (hbc.sealedWords k (Nat.lt_of_lt_of_le hk (Nat.mul_le_mul_right _ hab.generations))).trans (hab.sealedWords k hk)
  generations := Nat.le_trans hab.generations hbc.generations
  lock h := hbc.lock (hab.lock h)
  rights := hab.rights.trans hbc.rights
  rightsWords h :=
    have ⟨hb, ab⟩ := hab.rightsWords h
    have ⟨hc, bc⟩ := hbc.rightsWords hb
    ⟨hc, fun k => (bc k).trans (ab k)⟩
  keys := hab.keys.trans hbc.keys
  keyWords k hk := (hbc.keyWords k (hab.slots _ hk)).trans (hab.keyWords k hk)
  slots k hk := hbc.slots k (hab.slots k hk)
  revoked k hk := hbc.revoked k (hab.revoked k hk)

variable (o : OtpSt)

/-- A word of the generation in work, behind the sealed ones, gains ones (R229). -/
theorem grownFrom_env (a : Nat) (w : Word) :
    { o with env := Tab.set 0 o.env (o.sealed * 1026 + a) (Tab.get 0 o.env (o.sealed * 1026 + a) ||| w) }.grownFrom o :=
  { grownFrom.refl o with
    env := keepsBits_set_or _ _ _
    sealedWords := fun _ hk => Tab.get_set_ne 0 0 o.env _ (Nat.ne_of_lt (Nat.lt_add_right a hk)) }

theorem grownFrom_seal {n : Nat} (h : o.sealed ≤ n) : { o with sealed := n }.grownFrom o :=
  { grownFrom.refl o with generations := h }

theorem grownFrom_lock : { o with lock := true }.grownFrom o :=
  { grownFrom.refl o with lock := fun _ => rfl }

/-- A word of the rights map gains ones before the map is sealed (R336). -/
theorem grownFrom_rights (h : ¬ o.rightsSealed = true) (k : Nat) (w : Word) :
    { o with rights := Tab.set 0 o.rights k (Tab.get 0 o.rights k ||| w) }.grownFrom o :=
  { grownFrom.refl o with
    rights := keepsBits_set_or _ _ _
    rightsWords := fun hs => absurd hs h }

theorem grownFrom_rightsSeal : { o with rightsSealed := true }.grownFrom o :=
  { grownFrom.refl o with rightsWords := fun _ => ⟨rfl, fun _ => rfl⟩ }

/-- A word of a key slot that is not complete gains ones (R445). -/
theorem grownFrom_keys {a : Nat} (h : ¬ o.prog.testBit (a / 16) = true) (w : Word) :
    { o with keys := Tab.set 0 o.keys a (Tab.get 0 o.keys a ||| w) }.grownFrom o :=
  { grownFrom.refl o with
    keys := keepsBits_set_or _ _ _
    keyWords := fun k hk => Tab.get_set_ne 0 0 o.keys _ (by rintro rfl; exact h hk) }

theorem grownFrom_slots (n : Nat) : { o with prog := o.prog ||| n }.grownFrom o :=
  { grownFrom.refl o with slots := fun k hk => by simp [Nat.testBit_or, hk] }

theorem grownFrom_revoked (n : Nat) : { o with revoked := o.revoked ||| n }.grownFrom o :=
  { grownFrom.refl o with revoked := fun k hk => by simp [Nat.testBit_or, hk] }

end OtpSt

/-- From `s` to `t` the OTP has only grown. -/
def Grows (s t : State) : Prop := t.otp.grownFrom s.otp

namespace Grows

theorem of_otp {s t : State} (h : t.otp = s.otp) : Grows s t := by
  unfold Grows
  rw [h]
  exact .refl _

theorem refl (s : State) : Grows s s := of_otp rfl

theorem trans {a b c : State} (hab : Grows a b) (hbc : Grows b c) : Grows a c := OtpSt.grownFrom.trans hab hbc

theorem of_grownFrom {s : State} {o : OtpSt} (h : o.grownFrom s.otp) : Grows s { s with otp := o } := h

/-- An operation before that leaves the OTP alone does not matter. -/
theorem after {a b c : State} (hab : b.otp = a.otp) (hbc : Grows b c) : Grows a c := (of_otp hab).trans hbc

/-- An operation behind that leaves the OTP alone does not matter. -/
theorem before {a b c : State} (hab : Grows a b) (hbc : c.otp = b.otp) : Grows a c := hab.trans (of_otp hbc)

theorem ite (c : Prop) [Decidable c] (s a b : State) : Grows s (if c then a else b) ↔ if c then Grows s a else Grows s b := by
  split <;> rfl

theorem fst_ite {α : Type} (c : Prop) [Decidable c] (s : State) (a b : State × α) :
    Grows s (if c then a else b).1 ↔ if c then Grows s a.1 else Grows s b.1 := by
  split <;> rfl

theorem forList {α : Type} (l : List α) (f : α → State → State) (h : ∀ x t, Grows t (f x t)) (s : State) :
    Grows s (Machine.forList l f s) :=
  forList_keeps (Grows s) l f (fun x t e => e.trans (h x t)) s (refl s)

end Grows

namespace State

variable (s : State)

/-! ### The writes that program it -/

theorem grows_envProgram (w : Word) : Grows s (s.envProgram w) := by
  unfold envProgram
  extract_lets a k _ t f
  have hf : f.2.otp = t.otp := otp_takeWord t
  have ht : Grows s t := by
    by_cases h : 4 ≤ s.otp.sealed
    · exact .of_otp (by simp only [t, if_pos h])
    · simp only [t, if_neg h]
      exact .of_grownFrom (OtpSt.grownFrom_env s.otp a w)
  exact ht.before (by simp only [otp_setF, hf, otp_ite, ite_self])

theorem grows_envCmd (w : Word) : Grows s (s.envCmd w) := by
  unfold envCmd
  extract_lets t
  have ht : t.otp = s.otp := by simp only [t, otp_setF, otp_ite, ite_self]
  refine .after ht ?_
  split
  · exact .before (.of_grownFrom (OtpSt.grownFrom_lock t.otp)) (otp_envStat _)
  · exact .refl t

theorem grows_mapProgram (k : Nat) (w : Word) : Grows s (s.mapProgram k w).1 := by
  unfold mapProgram
  split
  case isTrue => exact .refl s
  case isFalse h => exact .of_grownFrom (OtpSt.grownFrom_rights s.otp h k _)

theorem grows_keyProgram (w : Word) : Grows s (s.keyProgram w).1 := by
  unfold keyProgram
  extract_lets a k _ t
  split
  case isTrue => exact .refl s
  case isFalse h =>
    have ht : Grows s t := .of_grownFrom (OtpSt.grownFrom_keys s.otp h w)
    split
    · exact ht.trans (.before (.of_grownFrom (OtpSt.grownFrom_slots t.otp (2 ^ k))) (otp_record ..))
    · exact ht

theorem grows_keyRevoke (w : Word) : Grows s (s.keyRevoke w).1 := by
  unfold keyRevoke
  extract_lets t k conf other
  have ht : t.otp = s.otp := otp_setF ..
  refine .after ht ?_
  split
  · exact .refl t
  · split
    · exact .refl t
    · exact .before (.of_grownFrom (OtpSt.grownFrom_revoked t.otp (2 ^ k))) (otp_record ..)

theorem grows_writePkg (x : Access) (o : Nat) (w : Word) (cyc : Nat) : Grows s (s.writePkg x o w cyc).1 := by
  cases hf : x.flash
  all_goals
    simp only [writePkg, hf, accepted, Grows.fst_ite, Grows.ite, grows_envProgram, grows_envCmd, grows_mapProgram, grows_keyProgram,
      grows_keyRevoke, Grows.of_otp, otp_takeBool, otp_tileRstWrite, otp_merCtlWrite, otp_rateRequest, otp_switchWrite, otp_trpCtlWrite,
      otp_resurvey, otp_capLocalWrite, otp_mgtCtlWrite, otp_waveWrite, otp_rgtTighten, otp_rgtCmd, otp_wdgConfig, otp_wdgKey,
      otp_recCtlWrite, otp_recCmd, otp_recRlWrite, otp_hqWrite, otp_ageCmd, otp_lullWake, otp_bootCmd, otp_updCmd, otp_updConfirm,
      otp_dlDataWrite, otp_sessionWrite, otp_dbgWrite, otp_prfCtlWrite, otp_plainWrite, ite_self]

/-- Outside the package region a write leaves the OTP alone. -/
theorem grows_writeUnit (x : Access) (l : Loc) (w : Word) (cyc : Nat) : Grows s (s.writeUnit x l w cyc).1 := by
  cases l with
  | pkg o => exact s.grows_writePkg x o w cyc
  | _ =>
    refine .of_otp ?_
    simp only [writeUnit, accepted, otp_fst_ite, otp_ite, otp_plainWrite, otp_irq, otp_sctlWrite, otp_stepCore, otp_tagCtlWrite, otp_trcCtlWrite,
      otp_stgCtlWrite, otp_fuseClear, otp_writeEnv, otp_gsShow, otp_loadStart, otp_lctlAccess, otp_railCtlWrite, otp_railLeadWrite,
      otp_batCtlWrite, otp_batQfullWrite, otp_batQnomWrite, otp_capTableWrite, otp_twbCtlWrite, otp_twbXferWrite, otp_fltClsWrite,
      otp_fltSrcWrite, otp_cramPut, ite_self]

/-- Of the wide quantities, the CRC of the rights map is in the OTP. -/
theorem grows_wideWrite (base : Loc) (n : Nat) (w : Word) (cyc : Nat) : Grows s (s.wideWrite base n w cyc).1 := by
  unfold wideWrite
  extract_lets ws t all u a b
  have ht : t.otp = s.otp := otp_foldl _ _ s fun _ _ => rfl
  have hall : (all t).otp = t.otp := otp_foldl _ _ t fun _ _ => otp_plainWrite ..
  have hu : u.otp = t.otp := (otp_plainWrite ..).trans (otp_plainWrite ..)
  refine .after ht ?_
  cases base with
  | pkg o =>
    simp only [accepted, Grows.fst_ite, Grows.of_otp, otp_recFetch, hall, ite_self]
    split
    · exact (t.grows_mapProgram 21 _).trans (grows_mapProgram _ 22 w)
    · trivial
  | _ => exact .of_otp (by simp only [accepted, otp_pgmStore, otp_railMaskWrite, hu, hall, otp_fst_ite, ite_self])

theorem grows_writeWord (x : Access) (l : Loc) (d : RegDesc) (w : Word) (cyc : Nat) : Grows s (s.writeWord x l d w cyc).1 := by
  unfold writeWord
  extract_lets t
  split
  · exact .refl s
  split
  · exact .of_otp (otp_raise ..)
  split
  · exact .refl s
  split
  · split
    · exact .of_otp (by simp only [accepted, otp_fst_ite, ite_self])
    · exact s.grows_wideWrite ..
  · exact s.grows_writeUnit ..

theorem grows_writeWords (x : Access) (cyc k : Nat) (ws : List (Nat × Word)) : Grows s (s.writeWords x cyc k ws).1 := by
  induction ws generalizing s k with
  | nil => exact .refl s
  | cons e ws ih =>
    unfold writeWords
    split
    · exact .refl s
    split
    · exact .refl s
    exact (s.grows_writeWord ..).trans (ih ..)

/-! ### The accesses -/

theorem grows_serve (x : Access) (cyc : Nat) : Grows s (s.serve x cyc).1 := by
  unfold serve
  split
  case h_1 h => exact .of_otp (otp_downRefuse _ _ _ h)
  refine .after (otp_fabricCount s x) ?_
  extract_lets t r q
  split
  · exact .of_otp (otp_holeRefuse ..)
  split
  · exact t.grows_writeWords ..
  · exact .of_otp ((otp_readWords ..).trans (otp_settleEnv ..))

theorem grows_complete (x : Access) (cyc : Nat) : Grows s (s.complete x cyc) := by
  unfold complete
  extract_lets r q p u
  split
  · exact (s.grows_serve x cyc).before (otp_finish ..)
  have hq : q.1.otp = s.otp := otp_transfers ..
  split
  · exact .of_otp ((otp_finish ..).trans hq)
  · have hp : p.1.otp = s.otp := (otp_transfers ..).trans hq
    exact .after hp ((p.1.grows_serve x cyc).before (otp_finish ..))

theorem grows_arrive (x : Access) (cyc : Nat) : Grows s (s.arrive x cyc) := by
  unfold arrive
  split
  · exact .refl s
  split
  · exact .of_otp ((otp_finish ..).trans (otp_rightsRefuse ..))
  split
  case h_1 h => exact .of_otp ((otp_finish ..).trans (otp_downRefuse _ _ _ h))
  split
  · exact .of_otp ((otp_modTile ..).trans (otp_countT ..))
  · exact s.grows_complete x cyc

theorem grows_unhold (n cyc : Nat) (x : Access) : Grows s (s.unhold n cyc x) := by
  unfold unhold
  split
  · exact .of_otp (otp_modTile ..)
  · exact s.grows_complete x cyc

theorem grows_hostWrite (a : Arr) (l : List (Nat × Word)) : Grows s (s.hostWrite a l) := s.grows_arrive ..
theorem grows_hostRead (a : Arr) (l : List Nat) : Grows s (s.hostRead a l) := s.grows_arrive ..
theorem grows_hostPut (a : Arr) (l : Loc) (w : Word) : Grows s (s.hostPut a l w) := s.grows_hostWrite ..
theorem grows_hostField (a : Arr) (l : Loc) (f : Fld) (v : Nat) : Grows s (s.hostField a l f v) := s.grows_hostPut ..

/-! ### Commands, the debug access and queued writes -/

theorem grows_cmdRun (who : Asker) (port rights : Nat) (ws : List Word) (cyc : Nat) : Grows s (s.cmdRun who port rights ws cyc) := by
  unfold cmdRun
  split
  · exact s.grows_arrive ..
  · exact .of_otp (otp_finish ..)

section
variable {k : State → State} (hk : ∀ t, Grows t (k t))
include hk

theorem grows_linkIn (l cyc : Nat) (ok : Bool) : Grows s (s.linkIn l cyc ok k) := by
  unfold linkIn
  split
  · exact .refl s
  split
  · exact .of_otp (by simp only [otp_raise, otp_countP, otp_bump])
  · exact .after (otp_countP ..) (hk _)

theorem grows_cellLink (l cyc : Nat) (c : Cell) (ms : State → List Nat) : Grows s (s.cellLink l cyc c ms k) := by
  unfold cellLink
  extract_lets hurt t
  have ht : Grows s t := s.grows_linkIn hk l cyc c.crcOk
  split
  · exact .of_otp (otp_countP ..)
  split
  · exact ht.before (otp_forward ..)
  · exact ht

theorem grows_cellIn (l cyc : Nat) (c : Cell) : Grows s (s.cellIn l cyc c k) := by
  refine s.grows_cellLink (fun t => ?_) l cyc c _
  extract_lets ms
  split
  · exact .of_otp (by simp only [otp_countP, otp_bump])
  split
  · split
    · exact (hk t).before (otp_forward ..)
    · exact .refl t
  split
  · exact hk t
  · exact .of_otp (by simp only [otp_sendResult, otp_forward, otp_ite, ite_self])

theorem grows_pathIn (p : Nat) : Grows s (s.pathIn p k) := by
  unfold pathIn
  split
  · exact .after (otp_countP ..) (hk _)
  · exact .refl s

theorem grows_frameIn (f : Frame) (c : MFrame) (good : Bool) (cyc : Nat) : Grows s (s.frameIn f c good cyc k) := by
  refine s.grows_pathIn (fun t => ?_) f.path
  split
  · exact .of_otp (otp_bump ..)
  split
  · exact .refl t
  split
  · split
    · exact hk t
    · exact .refl t
  next seq _ =>
    extract_lets r
    have hr : r.1.otp = t.otp := otp_rctIn ..
    split
    · exact .after hr (hk _)
    · exact .of_otp hr

theorem grows_dgIn (f : Frame) (d : Dgram) (cyc : Nat) : Grows s (s.dgIn f d cyc k) := by
  refine s.grows_frameIn (fun t => ?_) f _ _ cyc
  split
  · exact hk t
  · exact .refl t

end

end State
end Sys2Proof.Machine

/-! # Every command, and every step -/

namespace Sys2Proof.Machine

theorem Completes.mono {c : Instr} {s : State} {P Q : State → Prop} (h : Completes c s P) (hpq : ∀ t, P t → Q t) : Completes c s Q :=
  h.imp fun t ht => ⟨ht.1, hpq t ht.2⟩

theorem KeepsOtp.grows {c : Instr} (h : KeepsOtp c) (s : State) : Completes c s (Grows s) := (h s).mono fun _ => .of_otp

/-- An instruction of a core is `runInstr`'s. -/
theorem keepsOtp_of_runInstr {c : Instr} (h : ∀ s, exec c s = .next (runInstr c s)) : KeepsOtp c :=
  fun s => ⟨_, h s, s.otp_runInstr c⟩

namespace State

variable (s : State)

theorem grows_cmdCell (l : Nat) (c : Cell) (cyc : Nat) : Grows s (s.cmdCell l c cyc) := by
  refine s.grows_cellIn (fun t => ?_) l cyc c
  extract_lets r
  have hr : r.1.otp = t.otp := (otp_streamIn ..).trans (otp_ackIn ..)
  split
  · exact .of_otp (otp_roleStale ..)
  split
  · exact .after hr (r.1.grows_cmdRun ..)
  · split
    · exact .of_otp hr
    · exact .of_otp ((otp_sendResult ..).trans hr)
  · exact .of_otp ((otp_sendResult ..).trans hr)

theorem grows_cmdDgram (f : Frame) (d : Dgram) (cyc : Nat) : Grows s (s.cmdDgram f d cyc) := by
  refine s.grows_dgIn (fun t => ?_) f d cyc
  extract_lets here r
  have hr : r.1.otp = t.otp := otp_dgStream ..
  split
  · exact .of_otp (otp_dgStale ..)
  split
  · split
    · exact .after hr (r.1.grows_cmdRun ..)
    · exact .of_otp ((otp_dgRelay ..).trans hr)
  · split
    · exact .of_otp hr
    · exact .of_otp ((otp_dgResult ..).trans hr)
  · exact .of_otp ((otp_dgResult ..).trans hr)

theorem grows_jtagStart (write : Bool) (a : Nat) (w : Word) (peek : Bool) (cyc : Nat) : Grows s (s.jtagStart write a w peek cyc) := by
  unfold jtagStart
  extract_lets _ t _ u
  split
  · exact .of_otp rfl
  · exact .after (b := u) rfl (u.grows_arrive ..)

theorem grows_queueDenied {k : State → State} (hk : ∀ t, Grows t (k t)) (b page cls cyc : Nat) : Grows s (s.queueDenied b page cls cyc k) := by
  unfold queueDenied
  split
  · exact hk s
  · exact .of_otp ((otp_cmlSet ..).trans (otp_rightsRefuse ..))

theorem grows_writeApply (b cyc : Nat) (w : TwbWrite) : Grows s (s.writeApply b cyc w) := by
  cases w with
  | operation page on => exact s.grows_queueDenied (fun t => .forList _ _ (fun _ u => u.grows_arrive ..) t) ..
  | clear page =>
    refine s.grows_queueDenied (fun t => .of_otp ?_) ..
    simp only [otp_alertClear, otp_wr', otp_latchClear, otp_forList, implies_true]
  | words a ws => exact s.grows_arrive ..

theorem grows_registerTransfer (a write addr ws bad) : Completes (.registerTransfer a write addr ws bad) s (Grows s) := by
  refine ⟨_, rfl, ?_⟩
  extract_lets _ t
  refine .after (b := t) rfl ?_
  split
  · exact t.grows_hostWrite ..
  · exact t.grows_hostRead ..

theorem grows_fabricHoldRelease (cyc) : Completes (.fabricHoldRelease cyc) s (Grows s) := by
  refine ⟨_, rfl, ?_⟩
  split
  · exact .refl s
  refine forEach_keeps (Grows s) 8 _ (fun n t ht => ht.trans ?_) s (.refl s)
  split
  · exact .refl t
  · exact .after (otp_modTile ..) (.forList _ _ (fun x u => u.grows_unhold n cyc x) _)

theorem grows_tileResetEffect (n) : Completes (.tileResetEffect n) s (Grows s) := by
  refine ⟨_, rfl, ?_⟩
  split
  · exact .refl s
  refine .after ?_ (.forList _ _ (fun x t => t.grows_complete x 0) _)
  simp only [otp_rightsLoadTile, otp_keepSafe, otp_envLoad, otp_portsReset, otp_tileRegs, otp_setCore', otp_xferAbort, otp_setF, otp_tileGone,
    otp_switchTile, otp_modTile, otp_collectorReset, otp_forEach, otp_ite, ite_self, implies_true]

theorem grows_stewardAccessComplete (n cyc) : Completes (.stewardAccessComplete n cyc) s (Grows s) := by
  refine ⟨_, rfl, ?_⟩
  split
  · exact .refl s
  extract_lets acc
  split
  · exact .refl s
  · exact s.grows_arrive ..
  · exact s.grows_arrive ..
  · exact s.grows_arrive ..
  · exact .of_otp (by simp only [otp_stewardGoes, otp_cramPut, otp_ite, ite_self])

theorem grows_envSealComplete : Completes .envSealComplete s (Grows s) := by
  refine ⟨_, rfl, ?_⟩
  split
  · exact .refl s
  extract_lets g err t
  have ht : t.otp = s.otp := (otp_setF ..).trans (otp_setF ..)
  refine .after ht ?_
  split
  · have hg : t.otp.sealed ≤ g + 1 := by rw [ht]; exact Nat.le_succ _
    exact .before (.of_grownFrom (OtpSt.grownFrom_seal t.otp hg)) (otp_envStat _)
  · exact .refl t

theorem grows_rgtSealComplete : Completes .rgtSealComplete s (Grows s) := by
  refine ⟨_, rfl, ?_⟩
  split
  · exact .refl s
  extract_lets t
  refine .after (b := t) (otp_setF ..) ?_
  split
  · exact .of_grownFrom (OtpSt.grownFrom_rightsSeal t.otp)
  · exact .of_otp (otp_setF ..)

theorem grows_debugMemAccess (a write w) : Completes (.debugMemAccess a write w) s (Grows s) := by
  refine ⟨_, rfl, ?_⟩
  split
  · exact s.grows_hostPut ..
  · exact s.grows_hostRead ..

theorem grows_gzPrefetchDone (b cyc) : Completes (.gzPrefetchDone b cyc) s (Grows s) := by
  refine ⟨_, rfl, ?_⟩
  split
  · exact .refl s
  extract_lets x waits
  split
  · exact .refl s
  · exact s.grows_arrive ..

theorem grows_twbWriteApply (b cyc) : Completes (.twbWriteApply b cyc) s (Grows s) := by
  refine ⟨_, rfl, ?_⟩
  split
  · exact .refl s
  · exact .after (by rw [otp_setF, otp_modBus]) (grows_writeApply _ b cyc _)

end State

/-- Every command completes, and the OTP has only grown. -/
theorem completes_grows (c : Instr) (s : State) : Completes c s (Grows s) := by
  cases c with
  | nop | add | adds | sub | subs | addu | subu | neg | negs | abs | abss | min | max | clip | norm | and | or | xor | not | asr | lsr | lsl | lsls
  | cmp | addi | addis | andi | ori | xori | asri | lsri | lsli | lslis | cmpi | paddi | trap | mpy | mac | msu | mpyd | macd | aclr | aadd | asub
  | ash | mvda | satw | wrw | satg | satc | aget | aput | mov | mvp | mpd | mvc | mcd | movl | movh | movp | ld | st | ldc | stc | ldg | stg | ldp
  | stp | br | call | loop | jmp | callr | ret | reti | wait | mvs | msv | mpuw | smp | out | xchs | xchr | sco | tbl | envt | lock | unlock
  | tickend =>
    exact (keepsOtp_of_runInstr fun _ => rfl).grows s
  | tileResetRequest | merCtlWrite | rateChangeRequest | lanPgmDataWrite | loadCheckStart | switchSchedule | phsRailLeadWrite | fuseClear
  | batCtlWrite | batQnomWrite | envWrite | envOtpProgram | envSeal | envLockFuse | trpCtlWrite | capLocalWrite | waveSend | twbXferGo | twbCtlWrite
  | rgtMapProgram | rgtSeal | rgtPortTighten | recFlushCmd | recClear | recFetch | recHqWrite | ageBaselineReset | pwsWakeCmd | packageResetRequest
  | updAbort | updVerify | updActivate | updReject | updConfirm | keyProgram | keyRevoke | prfTagCtlWrite | traceForce | debugSessionWrite
  | mailboxWrite => exact ⟨_, rfl, s.grows_hostPut ..⟩
  | switchCancel | stgPersWrite | stgEnWrite | railStateWrite | trpResurvey | faultForce | traceArm | stewardHalt | stewardStep | stewardResume
  | stewardDebugReq | stewardHardHalt | laneHalt | laneStep | laneResume | laneHardHalt => exact ⟨_, rfl, s.grows_hostField ..⟩
  | registerWrite | phsRailMaskWrite | fltClassWrite => exact ⟨_, rfl, s.grows_hostWrite ..⟩
  | tagPop => exact ⟨_, rfl, s.grows_hostRead ..⟩
  | wdgKeyWrite | wdgConfigWrite | updOpen | updDlDataWrite => exact ⟨_, rfl, s.grows_arrive ..⟩
  | cmdRead | cmdWrite => exact ⟨_, rfl, s.grows_cmdCell ..⟩
  | dgramCmdRead | dgramCmdWrite => exact ⟨_, rfl, s.grows_cmdDgram ..⟩
  | dbgaccRead | dbgaccWrite => exact ⟨_, rfl, s.grows_jtagStart ..⟩
  | registerTransfer => exact s.grows_registerTransfer ..
  | fabricHoldRelease => exact s.grows_fabricHoldRelease ..
  | tileResetEffect => exact s.grows_tileResetEffect ..
  | stewardAccessComplete => exact s.grows_stewardAccessComplete ..
  | envSealComplete => exact s.grows_envSealComplete ..
  | gzPrefetchDone => exact s.grows_gzPrefetchDone ..
  | twbWriteApply => exact s.grows_twbWriteApply ..
  | rgtSealComplete => exact s.grows_rgtSealComplete ..
  | debugMemAccess => exact s.grows_debugMemAccess ..
  | sampleInstant => exact keepsOtp_sampleInstant.grows s
  | computeWindowOpen => exact keepsOtp_computeWindowOpen.grows s
  | exchangeWindow => exact keepsOtp_exchangeWindow.grows s
  | mirrorWindow => exact keepsOtp_mirrorWindow.grows s
  | guard => exact keepsOtp_guard.grows s
  | tickMarkerArrival => exact keepsOtp_tickMarkerArrival.grows s
  | fabricDelayMeasure => exact keepsOtp_fabricDelayMeasure.grows s
  | tileRejoin => exact keepsOtp_tileRejoin.grows s
  | tileAckLost => exact keepsOtp_tileAckLost.grows s
  | syncInEdge => exact keepsOtp_syncInEdge.grows s
  | lockAchieved => exact keepsOtp_lockAchieved.grows s
  | lockHoldover => exact keepsOtp_lockHoldover.grows s
  | rateCheckComplete => exact keepsOtp_rateCheckComplete.grows s
  | rateChangeApply => exact keepsOtp_rateChangeApply.grows s
  | loadCheckComplete => exact keepsOtp_loadCheckComplete.grows s
  | switchCheckComplete => exact keepsOtp_switchCheckComplete.grows s
  | bankSwitch => exact keepsOtp_bankSwitch.grows s
  | memDoubleError => exact keepsOtp_memDoubleError.grows s
  | interruptEntry => exact keepsOtp_interruptEntry.grows s
  | preciseException => exact keepsOtp_preciseException.grows s
  | slowAdcConversion => exact keepsOtp_slowAdcConversion.grows s
  | pwmUpdatePoint => exact keepsOtp_pwmUpdatePoint.grows s
  | ocComparatorFire => exact keepsOtp_ocComparatorFire.grows s
  | rcComparatorFire => exact keepsOtp_rcComparatorFire.grows s
  | driverFaultInput => exact keepsOtp_driverFaultInput.grows s
  | tachEdge => exact keepsOtp_tachEdge.grows s
  | fanStandstill => exact keepsOtp_fanStandstill.grows s
  | fanStallCheck => exact keepsOtp_fanStallCheck.grows s
  | pwmSyncHoldover => exact keepsOtp_pwmSyncHoldover.grows s
  | railDetectConversion => exact keepsOtp_railDetectConversion.grows s
  | fuseGridPoint => exact keepsOtp_fuseGridPoint.grows s
  | fuseInrushTimeout => exact keepsOtp_fuseInrushTimeout.grows s
  | fuseRetryProgressCheck => exact keepsOtp_fuseRetryProgressCheck.grows s
  | fuseOfftimeExpire => exact keepsOtp_fuseOfftimeExpire.grows s
  | fuseCleanExpire => exact keepsOtp_fuseCleanExpire.grows s
  | oringGridPoint => exact keepsOtp_oringGridPoint.grows s
  | staggerExpire => exact keepsOtp_staggerExpire.grows s
  | stringInsertion => exact keepsOtp_stringInsertion.grows s
  | stringRemoval => exact keepsOtp_stringRemoval.grows s
  | restCorrection => exact keepsOtp_restCorrection.grows s
  | endOfCharge => exact keepsOtp_endOfCharge.grows s
  | endOfDischarge => exact keepsOtp_endOfDischarge.grows s
  | stringRecordWrite => exact keepsOtp_stringRecordWrite.grows s
  | stringRecordWriteDone => exact keepsOtp_stringRecordWriteDone.grows s
  | pfailAssert => exact keepsOtp_pfailAssert.grows s
  | holdEntry => exact keepsOtp_holdEntry.grows s
  | holdExit => exact keepsOtp_holdExit.grows s
  | linkSlot => exact keepsOtp_linkSlot.grows s
  | alarmFoldBack => exact keepsOtp_alarmFoldBack.grows s
  | idleCell => exact keepsOtp_idleCell.grows s
  | markerCell => exact keepsOtp_markerCell.grows s
  | echoCell => exact keepsOtp_echoCell.grows s
  | alarmCell => exact keepsOtp_alarmCell.grows s
  | resultCell => exact keepsOtp_resultCell.grows s
  | queryCell => exact keepsOtp_queryCell.grows s
  | answerCell => exact keepsOtp_answerCell.grows s
  | surveyDiscover => exact keepsOtp_surveyDiscover.grows s
  | surveyFound => exact keepsOtp_surveyFound.grows s
  | surveyEnd => exact keepsOtp_surveyEnd.grows s
  | surveyAssign => exact keepsOtp_surveyAssign.grows s
  | surveyDone => exact keepsOtp_surveyDone.grows s
  | surveyAssignReq => exact keepsOtp_surveyAssignReq.grows s
  | surveyAssignAck => exact keepsOtp_surveyAssignAck.grows s
  | surveyStart => exact keepsOtp_surveyStart.grows s
  | surveyTimeout => exact keepsOtp_surveyTimeout.grows s
  | surveyGapProbe => exact keepsOtp_surveyGapProbe.grows s
  | measureComplete => exact keepsOtp_measureComplete.grows s
  | countAdopt => exact keepsOtp_countAdopt.grows s
  | linkTrained => exact keepsOtp_linkTrained.grows s
  | linkDown => exact keepsOtp_linkDown.grows s
  | ackIdleSend => exact keepsOtp_ackIdleSend.grows s
  | shedApply => exact keepsOtp_shedApply.grows s
  | shedRelease => exact keepsOtp_shedRelease.grows s
  | shedSet => exact keepsOtp_shedSet.grows s
  | waveApply => exact keepsOtp_waveApply.grows s
  | shareCell => exact keepsOtp_shareCell.grows s
  | tlmCell => exact keepsOtp_tlmCell.grows s
  | recCell => exact keepsOtp_recCell.grows s
  | bulkCell => exact keepsOtp_bulkCell.grows s
  | logCell => exact keepsOtp_logCell.grows s
  | capPinAssert => exact keepsOtp_capPinAssert.grows s
  | capPinRelease => exact keepsOtp_capPinRelease.grows s
  | wavePeriodicSet => exact keepsOtp_wavePeriodicSet.grows s
  | dgramResult => exact keepsOtp_dgramResult.grows s
  | dgramQuery => exact keepsOtp_dgramQuery.grows s
  | dgramAnswer => exact keepsOtp_dgramAnswer.grows s
  | dgramShed => exact keepsOtp_dgramShed.grows s
  | dgramTlm => exact keepsOtp_dgramTlm.grows s
  | dgramHealth => exact keepsOtp_dgramHealth.grows s
  | dgramBulk => exact keepsOtp_dgramBulk.grows s
  | dgramBulkAck => exact keepsOtp_dgramBulkAck.grows s
  | dgramRec => exact keepsOtp_dgramRec.grows s
  | dgramRecAck => exact keepsOtp_dgramRecAck.grows s
  | probe => exact keepsOtp_probe.grows s
  | probeEcho => exact keepsOtp_probeEcho.grows s
  | probeSend => exact keepsOtp_probeSend.grows s
  | probeLost => exact keepsOtp_probeLost.grows s
  | arpRequest => exact keepsOtp_arpRequest.grows s
  | neighbourSolicitation => exact keepsOtp_neighbourSolicitation.grows s
  | icmpEchoRequest => exact keepsOtp_icmpEchoRequest.grows s
  | prpSupervisionFrame => exact keepsOtp_prpSupervisionFrame.grows s
  | prpSupervisionSend => exact keepsOtp_prpSupervisionSend.grows s
  | dupEntryExpire => exact keepsOtp_dupEntryExpire.grows s
  | compareWindowEnd => exact keepsOtp_compareWindowEnd.grows s
  | sgmiiLinkChange => exact keepsOtp_sgmiiLinkChange.grows s
  | bothDownRepeat => exact keepsOtp_bothDownRepeat.grows s
  | sessionSave => exact keepsOtp_sessionSave.grows s
  | healthSend => exact keepsOtp_healthSend.grows s
  | tlmSend => exact keepsOtp_tlmSend.grows s
  | ptpSync => exact keepsOtp_ptpSync.grows s
  | ptpFollowUp => exact keepsOtp_ptpFollowUp.grows s
  | ptpAnnounce => exact keepsOtp_ptpAnnounce.grows s
  | ptpDelayResp => exact keepsOtp_ptpDelayResp.grows s
  | ptpLost => exact keepsOtp_ptpLost.grows s
  | pageWrite => exact keepsOtp_pageWrite.grows s
  | pageRead => exact keepsOtp_pageRead.grows s
  | operationWrite => exact keepsOtp_operationWrite.grows s
  | operationRead => exact keepsOtp_operationRead.grows s
  | clearFaults => exact keepsOtp_clearFaults.grows s
  | capability => exact keepsOtp_capability.grows s
  | voutMode => exact keepsOtp_voutMode.grows s
  | statusByte => exact keepsOtp_statusByte.grows s
  | statusWord => exact keepsOtp_statusWord.grows s
  | statusVout => exact keepsOtp_statusVout.grows s
  | statusIout => exact keepsOtp_statusIout.grows s
  | statusInput => exact keepsOtp_statusInput.grows s
  | statusCml => exact keepsOtp_statusCml.grows s
  | statusMfrSpecific => exact keepsOtp_statusMfrSpecific.grows s
  | readVin => exact keepsOtp_readVin.grows s
  | readVout => exact keepsOtp_readVout.grows s
  | readIout => exact keepsOtp_readIout.grows s
  | readTemperature1 => exact keepsOtp_readTemperature1.grows s
  | readFanSpeed1 => exact keepsOtp_readFanSpeed1.grows s
  | readPout => exact keepsOtp_readPout.grows s
  | pmbusRevision => exact keepsOtp_pmbusRevision.grows s
  | mfrId => exact keepsOtp_mfrId.grows s
  | mfrModel => exact keepsOtp_mfrModel.grows s
  | mfrGzPtr => exact keepsOtp_mfrGzPtr.grows s
  | mfrGzDataRead => exact keepsOtp_mfrGzDataRead.grows s
  | mfrGzDataWrite => exact keepsOtp_mfrGzDataWrite.grows s
  | alertResponseRead => exact keepsOtp_alertResponseRead.grows s
  | twbTimeout => exact keepsOtp_twbTimeout.grows s
  | whistle => exact keepsOtp_whistle.grows s
  | whistleRelease => exact keepsOtp_whistleRelease.grows s
  | whistleAbort => exact keepsOtp_whistleAbort.grows s
  | whistleRepeat => exact keepsOtp_whistleRepeat.grows s
  | whistleSeen => exact keepsOtp_whistleSeen.grows s
  | twbXferDone => exact keepsOtp_twbXferDone.grows s
  | twbArbRetry => exact keepsOtp_twbArbRetry.grows s
  | aliveChangeInstant => exact keepsOtp_aliveChangeInstant.grows s
  | wdgExpiry => exact keepsOtp_wdgExpiry.grows s
  | wdoPulseEnd => exact keepsOtp_wdoPulseEnd.grows s
  | oscLost => exact keepsOtp_oscLost.grows s
  | clkLost => exact keepsOtp_clkLost.grows s
  | recorderFlush => exact keepsOtp_recorderFlush.grows s
  | flushComplete => exact keepsOtp_flushComplete.grows s
  | flushPeriodic => exact keepsOtp_flushPeriodic.grows s
  | tokenRefill => exact keepsOtp_tokenRefill.grows s
  | recFetchDone => exact keepsOtp_recFetchDone.grows s
  | recStreamSend => exact keepsOtp_recStreamSend.grows s
  | roMonitorReport => exact keepsOtp_roMonitorReport.grows s
  | avsStep => exact keepsOtp_avsStep.grows s
  | capProbeBurstStart => exact keepsOtp_capProbeBurstStart.grows s
  | capProbeComplete => exact keepsOtp_capProbeComplete.grows s
  | atlasRevision => exact keepsOtp_atlasRevision.grows s
  | dozeEntry => exact keepsOtp_dozeEntry.grows s
  | dozeWakeEvent => exact keepsOtp_dozeWakeEvent.grows s
  | dozeExit => exact keepsOtp_dozeExit.grows s
  | lullEntry => exact keepsOtp_lullEntry.grows s
  | lullWakeEvent => exact keepsOtp_lullWakeEvent.grows s
  | lullExit => exact keepsOtp_lullExit.grows s
  | keeperEntry => exact keepsOtp_keeperEntry.grows s
  | keeperWake => exact keepsOtp_keeperWake.grows s
  | powerOnReset => exact keepsOtp_powerOnReset.grows s
  | pinReset => exact keepsOtp_pinReset.grows s
  | packageReset => exact keepsOtp_packageReset.grows s
  | boot => exact keepsOtp_boot.grows s
  | bootTimeout => exact keepsOtp_bootTimeout.grows s
  | updVerifyComplete => exact keepsOtp_updVerifyComplete.grows s
  | activationChecksDone => exact keepsOtp_activationChecksDone.grows s
  | confirmWindowExpire => exact keepsOtp_confirmWindowExpire.grows s
  | fallback => exact keepsOtp_fallback.grows s
  | fallbackTimeout => exact keepsOtp_fallbackTimeout.grows s
  | censusDrainDone => exact keepsOtp_censusDrainDone.grows s
  | traceCrossTrigger => exact keepsOtp_traceCrossTrigger.grows s
  | tapReset => exact keepsOtp_tapReset.grows s
  | extest => exact keepsOtp_extest.grows s
  | samplePreload => exact keepsOtp_samplePreload.grows s
  | idcode => exact keepsOtp_idcode.grows s
  | bypass => exact keepsOtp_bypass.grows s
  | dbgaccNop => exact keepsOtp_dbgaccNop.grows s
  | stewardBreakpoint => exact keepsOtp_stewardBreakpoint.grows s
  | laneBreakpoint => exact keepsOtp_laneBreakpoint.grows s
  | stewardTimerExpiry => exact keepsOtp_stewardTimerExpiry.grows s
  | pfailRelease => exact keepsOtp_pfailRelease.grows s
  | driverFaultRelease => exact keepsOtp_driverFaultRelease.grows s
  | atlasRevisionComplete => exact keepsOtp_atlasRevisionComplete.grows s
  | updConfirmComplete => exact keepsOtp_updConfirmComplete.grows s

theorem step_grows {s t : State} (h : step s = .next t) : Grows s t := by
  unfold step at h
  split at h
  · cases h
    exact .refl s
  case h_2 c q _ =>
    obtain ⟨u, hu, hg⟩ := completes_grows c { s with pending := q }
    cases hu.symm.trans h
    exact hg

end Sys2Proof.Machine

/-- Settles O60: the writes that reach the OTP set bits of it and seal parts of it, every other operation leaves it alone. -/
theorem everyStepKeepsOtp : Obligations.EveryStepKeepsOtp :=
  ⟨Sys2Proof.Machine.completes_grows, fun _ _ => Sys2Proof.Machine.step_grows⟩

/-! # A write of PHS_GS_CTL reaches a second register

`Loc.writesPlain` lets offset 0x40 of a port pass, but a write of PHS_GS_CTL that leaves EN at 0 also clears PHS_GS_X (`State.gsShow`). -/

namespace Sys2Proof.Machine

/-- After reset, PHS_GS_X of port 0 holds a sample. -/
def gainShown : State := State.reset.wr (PHS_GS_X 0) 1

/-- The JTAG port writes PHS_GS_CTL of port 0, with EN at 0. -/
def gainOff : Instr := .registerWrite ⟨12, 400⟩ (PHS_GS_CTL 0).addr 0

/-- The write is one that the statement on plain accesses speaks of, and it is admitted. -/
theorem gainOff_plain : (PHS_GS_CTL 0).writesPlain = true ∧ gainShown.legalWord (PHS_GS_CTL 0) 0 = true ∧
    gainShown.admitsPut ⟨12, 400⟩ (PHS_GS_CTL 0) 0 = true := by decide +kernel

theorem gainOff_clears : Completes gainOff gainShown fun t => t.rd (PHS_GS_X 0) = 0 := ⟨_, rfl, by decide +kernel⟩

theorem gainShown_rd : gainShown.rd (PHS_GS_X 0) = 1 := State.rd_wr_same ..

/-- Refutes O29: after reset with PHS_GS_X of port 0 at 1, an admitted write of 0 to PHS_GS_CTL of port 0 also clears PHS_GS_X, which is
not the register written. -/
theorem not_plainAccesses : ¬ Obligations.PlainAccesses := by
  unfold Obligations.PlainAccesses
  intro h
  obtain ⟨plain, legal, admitted⟩ := gainOff_plain
  obtain ⟨write, -⟩ := h ⟨12, 400⟩ (PHS_GS_CTL 0) 0 gainShown 0 0 0 false (by decide) (by decide) (by decide) (by decide)
  obtain ⟨t, ht, ⟨-, -, -, -, stands⟩, -⟩ := (write plain legal).1 admitted
  obtain ⟨u, hu, cleared⟩ := gainOff_clears
  have same : u = t := Host.Outcome.next.inj (hu.symm.trans ht)
  have kept : t.rd (PHS_GS_X 0) = 1 := (stands (PHS_GS_X 0) (by decide) (by decide) (by decide)).trans gainShown_rd
  rw [← same, cleared] at kept
  exact absurd kept (by decide)

end Sys2Proof.Machine
